-- ==== Sys2Proof/Word.lean ====
section
/-! DEFINITION. Word.lean: the machine's word types and their plainest arithmetic (R1 to R7 of spec/00_scope.md). -/

namespace Sys2Proof

/-- A 64-bit scalar register or address (R63). -/
abbrev Word := BitVec 64

/-- The smallest addressable unit of memory (R6). -/
abbrev Byte := BitVec 8

/-- The number of a scalar, vector, mask or predicate field of five bits (R82). -/
abbrev Reg := BitVec 5

/-- `sext(x, 64)` of a narrower field. -/
def sext64 {n : Nat} (x : BitVec n) : Word := x.signExtend 64

/-- `zext(x, 64)` of a field. -/
def zext64 {n : Nat} (x : BitVec n) : Word := x.setWidth 64

/-- A natural number as a word, modulo 2^64. -/
def word (n : Nat) : Word := BitVec.ofNat 64 n

/-- Bits `[hi:lo]` of a word, as a number. -/
def fieldOf (w : Word) (hi lo : Nat) : Nat := (w.toNat >>> lo) % 2 ^ (hi - lo + 1)

/-- A word with bits `[hi:lo]` replaced by the low bits of `v`. -/
def setField (w : Word) (hi lo v : Nat) : Word :=
  word (w.toNat - (fieldOf w hi lo <<< lo) + ((v % 2 ^ (hi - lo + 1)) <<< lo))

/-- Bit `i` of a word. -/
def bitOf (w : Word) (i : Nat) : Bool := w.getLsbD i

end Sys2Proof
end

