-- ==== Sys2Proof/Config.lean ====
section
/-! DEFINITION. Config.lean: what an implementation of the part fixes and the spec leaves open. Each is a constant without
a body, so that nothing can be proved about its value. A number that names an occasion comes from the counter
`State.free`. -/

namespace Sys2Proof.Config

/-- The signature bit of a sector (R292): two sectors may share one. -/
opaque sigHash : Nat → BitVec 9

/-- A word the spec leaves open, numbered by the occasion. -/
opaque freeWord : Nat → BitVec 64

/-- A choice among several allowed outcomes, numbered by the occasion. -/
opaque freeNat : Nat → Nat

/-- Whether a host port runs in CXL mode (R23, R281). -/
opaque portCxl : Nat → Bool

/-- The opaque bytes that a saved frame is mixed with (R260), by position. -/
opaque framePad : Nat → BitVec 8

/-- The header that the part writes to a queue's backing store (R314), by its number and byte. -/
opaque backing : Nat → Nat → BitVec 8

/-- The set of an L1 slice, and that of a die cache, that holds a 256-byte line (R280, R281). -/
opaque l1Set : Nat → BitVec 6
opaque dieSet : Nat → BitVec 14

/-- The part's special functions (R180): function code, format code and operand give the result's encoding. -/
opaque special : Nat → Nat → Nat → Nat

/-- What the translator makes code from (R402 to R407): the container, the split, the cluster and the periods of the request, each
actor's firings in a period, the actors in period order, the tokens that each edge's buffer holds and its bytes in units of 256, and
each edge's initial tokens as packed bytes. -/
structure Plan where
  container : List (BitVec 8)
  split : Nat
  cluster : Nat
  periods : Nat
  reps : List Nat
  order : List Nat
  depth : List Nat
  room : List Nat
  tokens : List (List (BitVec 8))
  deriving DecidableEq, Repr

/-- What the translator kernel leaves to itself (R407, R408), for a plan and a question: 0 how many bytes of code there are beyond two,
1 + i the halfword of the code at which actor i's launch enters, 1000 + i and 2000 + i that launch's argument and sort key, 10000 + n
byte n of the code. -/
opaque translator : Plan → Nat → Nat

/-- Whether a body whose widths are not evident is accepted (R403), for a container and an actor. -/
opaque bodyAccepted : List (BitVec 8) → Nat → Bool

/-- The bytes of a message that outside standards lay out (R397, R399): kind, operand and position. -/
opaque message : Nat → Nat → Nat → BitVec 8

/-- A firmware image of the module passes the root's verification (R396): 0 the root's own, 1 the module controller's, 2 the
translator kernel's. -/
opaque imageVerified : Nat → Bool

/-- The SHA-512 digest of a firmware image (R396, R397). -/
opaque imageDigest : Nat → BitVec 512

/-- The index of the system translator queue in the table of a process (R406), which system software creates. -/
opaque translatorQueue : Nat → Nat

end Sys2Proof.Config
end

