-- ==== Sys2Proof/Machine/Store.lean ====
section
/-! DEFINITION. Machine/Store.lean: sparse data by number, as a list of (key, value) pairs in one canonical form: keys
strictly rising, and no entry equal to the value that an unlisted key reads as. Memory is such a list of bytes. -/

namespace Sys2Proof.Machine

/-- A sparse table: what is not listed reads as the table's default. -/
abbrev Store (α : Type) := List (Nat × α)

/-- The value at key `k`, `d` when it is not listed. -/
def rd {α : Type} (d : α) : Store α → Nat → α
  | [], _ => d
  | (j, v) :: t, k => if j = k then v else rd d t k

/-- The table without key `k`. -/
def del {α : Type} : Store α → Nat → Store α
  | [], _ => []
  | (j, v) :: t, k => if j = k then del t k else (j, v) :: del t k

/-- The table with an entry added before the first greater key. -/
def ins {α : Type} : Store α → Nat → α → Store α
  | [], k, v => [(k, v)]
  | (j, w) :: t, k, v => if k < j then (k, v) :: (j, w) :: t else (j, w) :: ins t k v

/-- The table with `v` at key `k`: an entry, or none when `v` is the default. -/
def wr {α : Type} [DecidableEq α] (d : α) (m : Store α) (k : Nat) (v : α) : Store α :=
  if v = d then del m k else ins (del m k) k v

/-- The canonical form: keys strictly rising and no entry at the default. -/
def storeWf {α : Type} [DecidableEq α] (d : α) : Store α → Bool
  | [] => true
  | [(_, v)] => decide (v ≠ d)
  | (j, v) :: (k, w) :: t => decide (j < k) && decide (v ≠ d) && storeWf d ((k, w) :: t)

/-- The keys of the listed entries. -/
def keysOf {α : Type} (m : Store α) : List Nat := m.map Prod.fst

/-- `n` values from key `k` on. -/
def rdMany {α : Type} (d : α) (m : Store α) (k : Nat) : Nat → List α
  | 0 => []
  | n + 1 => rd d m k :: rdMany d m (k + 1) n

/-- The listed values written from key `k` on. -/
def wrMany {α : Type} [DecidableEq α] (d : α) (m : Store α) (k : Nat) : List α → Store α
  | [] => m
  | v :: vs => wrMany d (wr d m k v) (k + 1) vs

/-- The table without the keys that `f` names. -/
def delWhere {α : Type} (f : Nat → Bool) (m : Store α) : Store α := m.filter (fun e => !f e.1)

end Sys2Proof.Machine
end

