-- ==== Sys2Proof/Syntax.lean ====
section
/-! DEFINITION. Syntax.lean: the instruction formats of R82, R85, R86 and R91 and the one inductive of instructions, one
constructor per row of spec/opcode_table.json. An encoded instruction carries every field of its format, the ones its
entry leaves unused too, so that decoding loses no bit (WellFormed.lean says which must be zero, R84). The rows
that have no encoding are the steps of the part itself (spec/95_what_each_step_holds.md), with the operands that say
which unit moves, and stand first. -/

namespace Sys2Proof

/-- The fields of format T. -/
structure TF where
  b : BitVec 5
  a : BitVec 5
  d : BitVec 5
  deriving DecidableEq, Repr

/-- The fields of format I. -/
structure IF where
  imm : BitVec 12
  a : BitVec 5
  d : BitVec 5
  deriving DecidableEq, Repr

/-- The fields of format S. -/
structure SF where
  imm : BitVec 12
  a : BitVec 5
  c : BitVec 5
  deriving DecidableEq, Repr

/-- The fields of format B. -/
structure BF where
  off : BitVec 19
  p : BitVec 5
  deriving DecidableEq, Repr

/-- The fields of format J. -/
structure JF where
  off : BitVec 25
  deriving DecidableEq, Repr

/-- The fields of format W. -/
structure WF where
  imm : BitVec 20
  d : BitVec 5
  deriving DecidableEq, Repr

/-- The fields of format L. -/
structure LF where
  off : BitVec 15
  b : BitVec 5
  a : BitVec 5
  deriving DecidableEq, Repr

/-- The fields of format V and M. -/
structure VF where
  f : BitVec 2
  m : BitVec 3
  vb : BitVec 5
  va : BitVec 5
  vd : BitVec 5
  deriving DecidableEq, Repr

/-- The fields of format VM. -/
structure VMF where
  m : BitVec 3
  b : BitVec 5
  a : BitVec 5
  vd : BitVec 5
  deriving DecidableEq, Repr

/-- The fields of format VAMO (R86). -/
structure VAF where
  sc : BitVec 3
  m : BitVec 3
  b : BitVec 5
  a : BitVec 5
  vd : BitVec 5
  deriving DecidableEq, Repr

/-- The fields of format Q. -/
structure QF where
  sc : BitVec 3
  b : BitVec 5
  a : BitVec 5
  d : BitVec 5
  deriving DecidableEq, Repr

/-- The fields of format X. -/
structure XF where
  imm : BitVec 11
  a : BitVec 5
  d : BitVec 5
  deriving DecidableEq, Repr

/-- The fields of format P. -/
structure PF where
  z : BitVec 8
  ib : BitVec 3
  ia : BitVec 3
  id : BitVec 3
  times : BitVec 4
  len : BitVec 4
  deriving DecidableEq, Repr

/-- The fields of format VCFG, SETVL and VSPAN (R85). -/
structure GF where
  z : BitVec 8
  b : BitVec 5
  a : BitVec 5
  d : BitVec 5
  deriving DecidableEq, Repr

/-- The fields of format VCFG, SETVLI (R85). -/
structure GIF where
  imm : BitVec 12
  z : BitVec 1
  a : BitVec 5
  d : BitVec 5
  deriving DecidableEq, Repr

/-- The fields of format compact (R91). -/
structure CF where
  imm : BitVec 5
  r : BitVec 5
  deriving DecidableEq, Repr

/-- What the slow loop reads at a period (R382): powers, the rail's current and power, and the cluster temperatures. -/
structure Meas where
  /-- Measured module power in watts. -/
  module : Nat
  /-- Measured package power in watts. -/
  watts : Nat
  /-- Measured core-rail current in amperes. -/
  amps : Nat
  /-- Measured core-rail power in watts. -/
  rail : Nat
  /-- Temperature of each cluster in degrees, clusters in ascending order. -/
  temps : List Nat
  deriving DecidableEq, Repr

/-- The instructions of the part, one constructor per row of the opcode table. -/
inductive Instr where
  /-- R323: A cluster dispatch unit starts a run-queue packet or chooses and places a unit, expanding launches into threads. -/
  | dispatch (cluster : Nat)
  /-- R330: A finished launch adds to its done counter as a system release and raises its MSI-X vector. -/
  | launchCompletion (launch : Nat)
  /-- R293: The plumb accepts a closed chunk, performs its stores indivisibly and releases its deferred effects. -/
  | chunkCommit (slot : Nat)
  /-- R294: A vector, engine, commit-unit or invalidation write reaches a cluster and squashes conflicting chunks. -/
  | externalClusterWrite (cluster : Nat) (sector : Nat)
  /-- R254: A vector-unit fault is taken at the slot's next issue turn with the held frame. -/
  | impreciseFaultTrap (slot : Nat)
  /-- R45: A vector or matrix result arrives in a pending scalar register. -/
  | pendingResultArrival (slot : Nat)
  /-- R43: Data of a slow scalar load or atomic arrives and the slot becomes runnable. -/
  | loadDataArrival (slot : Nat)
  /-- R153: The vector unit makes a pending grant once free segments are in hand. -/
  | spanGrant (slot : Nat)
  /-- R463: An instruction-cache line fill completes and waiting fetches resume. -/
  | icacheFill (core : Nat)
  /-- R53: A migration packet arrives and joins the run queue or is refused when it is full. -/
  | migrationArrival (slot : Nat)
  /-- R53: A light thread refused for 2 µs performs its access remotely and continues. -/
  | runQueueFallback (slot : Nat)
  /-- R235: A slot waiting on an empty bound queue receives an entry and resumes. -/
  | popWaitWake (slot : Nat)
  /-- R231: A blocked push, enqueue or spawn is woken when capacity is given back. -/
  | capacityWaitWake (slot : Nat)
  /-- R331: A unit unplaceable for 10 µs makes its cluster pre-empt a lower-class thread. -/
  | preemptionRequest (cluster : Nat)
  /-- R59: A pre-empted slot, after its chunk commits and passes finish, takes ecause 0x03. -/
  | timeSliceTrap (slot : Nat)
  /-- R254: A host interrupt directed at a slot raises the interrupt trap or wakes a halted slot. -/
  | hostInterrupt (slot : Nat)
  /-- R256: The host resets a slot, returning it to the rotation. -/
  | slotReset (slot : Nat)
  /-- R243: A sleeping slot wakes on timeout, port arrival, barrier advance or pre-emption request. -/
  | sleepWake (slot : Nat)
  /-- R200: A pair pass whose partner does not arrive within 256 µs aborts on both cores. -/
  | pairPartnerTimeout (slot : Nat)
  /-- R324: A waiting unit reaching its class's aging limit falls one effective class. -/
  | agingStep (queue : Nat) (seq : Nat)
  /-- R329: A gang unit leading for 100 µs reserves a cluster's freed slots until it fits. -/
  | gangReservationStart (queue : Nat)
  /-- R328: A candidate unplaced on open clusters for 20 µs becomes startable on closed ones. -/
  | closedClusterFallback (queue : Nat)
  /-- R326: A cluster with free slots and no own candidate for four turns takes from other dies. -/
  | clusterSteal (cluster : Nat)
  /-- R471: A resume task waiting 10 ms is placed anyway and traps with ecause 0x1A. -/
  | resumeWaitTimeout (queue : Nat)
  /-- R339: A take request reaches the counter home and is granted, refused or queued for a recall round. -/
  | homeTakeRequest (ctr : Nat)
  /-- R340: A give or eviction return reaches the counter home and is applied with saturation. -/
  | homeGive (ctr : Nat)
  /-- R341: A recalled cluster stops local service and returns its allowance and gives. -/
  | recallMessage (ctr : Nat) (cluster : Nat)
  /-- R341: All returns have arrived and the home serves the round's fifo from the exact total. -/
  | recallExactPoint (ctr : Nat)
  /-- R502: A parked capacity take is granted one unit in park order when the home holds one. -/
  | parkedTakeGrant (ctr : Nat)
  /-- R474: A holder not returning within 12 µs is treated as a lost route and dropped from the total. -/
  | recallHolderTimeout (ctr : Nat) (cluster : Nat)
  /-- R349: A waiting slot wakes after the barrier generation changes. -/
  | barwtWake (slot : Nat)
  /-- R237: Engine copies bytes between memory and a window range. -/
  | hcpy (engine : Nat)
  /-- R355: Engine copies a strided tensor described by a shape record. -/
  | hcpyt (engine : Nat)
  /-- R356: Engine gathers table elements by an index list into a dense range. -/
  | hgth (engine : Nat)
  /-- R356: Engine scatters a dense range into table elements by an index list. -/
  | hsct (engine : Nat)
  /-- R237: Engine fills a window or memory range with a 32-bit pattern. -/
  | hfil (engine : Nat)
  /-- R357: Engine adds source elements into destination elements atomically in FP32 or BF16. -/
  | hred (engine : Nat)
  /-- R237: Engine credits a barrier word after every earlier command of its binding. -/
  | hsig (engine : Nat)
  /-- R351: A finished command pushes its result record or holds it when the result queue is full. -/
  | engineCommandComplete (engine : Nat)
  /-- R351: A held result record is placed when its result queue frees an entry. -/
  | resultRecordPlace (engine : Nat)
  /-- R358: An engine copies a job-card tile into the named core's scratchpad, readying the task after the last tile. -/
  | jobCardTile (engine : Nat)
  /-- R245: A committed REDADD is translated and performed at its home. -/
  | redaddPerform
  /-- R458: The home retries enqueuing a replay task every 100 µs while its queue is full. -/
  | replayEnqueueRetry
  /-- R317: The home evicts a queue and reads in a missed queue, then the waiting access proceeds. -/
  | queueSwapIn (queue : Nat)
  /-- R317: A pending queue is swapped in within 50 µs of joining the list, or posts an event. -/
  | pendingQueueSwapIn (die : Nat)
  /-- R318: qctl op 1 makes a queue resident. -/
  | qctlMakeResident (die : Nat) (asid : Nat) (handle : Nat)
  /-- R315: qctl op 2 evicts a queue to its backing store. -/
  | qctlEvict (die : Nat) (asid : Nat) (handle : Nat)
  /-- R315: qctl op 3 evicts a queue, discards its tasks and bumps its generation. -/
  | qctlRetire (die : Nat) (asid : Nat) (handle : Nat)
  /-- R315: A write of sctl sets the slice and queue pinning, evicting queues when qpin falls. -/
  | sctlWrite (die : Nat) (value : Word)
  /-- R387: A 64-byte posted write to an enqueue window enqueues a descriptor or is dropped and logged. -/
  | hostWindowWrite (port : Nat) (fn : Nat) (offset : Nat) (nbytes : Nat) (data : BitVec 512)
  /-- R469: A window write held 10 ms for a non-resident queue is dropped and logged. -/
  | heldWindowWriteDrop
  /-- R406: The translator reads a container and writes launches or a failure status to the request. -/
  | translationRequest (host : Nat) (who : Nat)
  /-- R287: The part moves a tracked page between tiers or devices by recall, block, copy and PTE store. -/
  | pageMove (pte : Nat) (frame : Nat) (tier : Nat) (peer : Nat)
  /-- R288: A settled page's 50 ms ends and it may move again. -/
  | settleExpiry (frame : Nat)
  /-- R281: A read request for a sector at the home updates its state and supplies data. -/
  | directoryRead (sector : Nat) (agent : Nat)
  /-- R281: A write-ownership request invalidates other sharers and grants M. -/
  | directoryWriteOwnership (sector : Nat) (agent : Nat)
  /-- R281: An agent's eviction of a sector reaches the home and clears its sharer state. -/
  | sectorEvict (sector : Nat) (agent : Nat)
  /-- R281: A die-cache way is reused after invalidating sharers and writing dirty data to DRAM. -/
  | dieCacheLineEviction (line : Nat)
  /-- R269: A write of ptbase invalidates the asid's TLB and walk-cache entries device-wide. -/
  | ptbaseWrite (slot : Nat) (value : Word)
  /-- R68: A write of vctx.mown makes a context the matrix owner with scrubbed matrix state. -/
  | vctxWrite (slot : Nat) (value : Word)
  /-- R155: A supervisor write of vl, vtype or vstart is checked against the grant limits. -/
  | vectorLengthWrite (slot : Nat) (reg : Nat) (value : Word)
  /-- R191: A supervisor write of tm, tn, tk or tmode is checked against ranges. -/
  | tileShapeWrite (slot : Nat) (reg : Nat) (value : Word)
  /-- R379: A user write of pwreq above level 5 places a lease request. -/
  | pwreqWrite (slot : Nat) (value : Word)
  /-- R379: A write of lease returns the old lease to the pool and installs or draws a new one. -/
  | leaseWrite (slot : Nat) (value : Word)
  /-- R380: A write of pwbud clamps the current lease and credits the pool. -/
  | pwbudWrite (slot : Nat) (value : Word)
  /-- R285: A write of hmode switches services between hardware and host-assisted modes. -/
  | hmodeWrite (part : Nat) (value : Word)
  /-- R8: A write to a register with no behaviour of its own stores the writable fields. -/
  | registerWrite (addr : Nat) (value : Word)
  /-- R392: A write of ffadd adds frames to a free-frame stack. -/
  | ffaddWrite (die : Nat) (tier : Nat) (value : Word)
  /-- R453: A write of frclr starts a recall of one frame's cached copies. -/
  | frameRecall (die : Nat) (value : Word)
  /-- R453: A frame recall finishes its write-backs and drops and clears busy. -/
  | frameRecallComplete (die : Nat)
  /-- R391: A write of modctl sets the mode, refusing a partition change while work is resident. -/
  | modctlWrite (value : Word)
  /-- R389: The module controller sets normal mode once all present units are ready and rdy was read. -/
  | modeNormalEntry
  /-- R390: Module reset starts bring-up with root firmware verification. -/
  | moduleReset
  /-- R390: A host port trains and sets its rdy bit. -/
  | hostPortEnumerated (port : Nat)
  /-- R390: The bond fabric finishes training and sets its rdy bit. -/
  | bondFabricTrained
  /-- R390: A compute die finishes check and scrub and sets its rdy bit. -/
  | dieReady (die : Nat)
  /-- R390: A cluster finishes check and scrub and sets its rdy bit. -/
  | clusterReady (cluster : Nat)
  /-- R484: A die or cluster not ready 2 s after bond training stays clear and is logged. -/
  | bringupTimeout (isDie : Bool) (unit : Nat)
  /-- R382: Every 100 µs the slow loop sets caps, refills the boost pool and grants leases. -/
  | slowLoopPeriod (m : Meas)
  /-- R380: A lease reaching time 0 is cleared and boost domains fall to level 5. -/
  | leaseExpiry (slot : Nat)
  /-- R381: A rail droop lowers the cluster's step within 8 lane cycles. -/
  | droopDetected (cluster : Nat) (mv : Nat)
  /-- R381: Core rail above 1,900 A over 10 µs limits every cluster's step to 16. -/
  | railMonitorHold (amps : Nat)
  /-- R381: 1,024 lane cycles without droop raise the step one stage. -/
  | stepRise (cluster : Nat)
  /-- R385: A host write of ccap sets open and cap in host-assisted mode, or is ignored. -/
  | ccapWrite (part : Nat) (cluster : Nat) (value : Word)
  /-- R494: A cluster above 110 °C is throttled to step 8 and level 0 and closed. -/
  | clusterOvertemp (cluster : Nat) (temp : Nat)
  /-- R494: A throttled cluster falling below 100 °C is released. -/
  | overtempClear (cluster : Nat) (temp : Nat)
  /-- R495: A cluster above 120 °C stops its clocks and its work is discarded. -/
  | thermalTrip (cluster : Nat) (temp : Nat)
  /-- R495: A tripped cluster below 95 °C returns through bring-up. -/
  | thermalTripReturn (cluster : Nat) (temp : Nat)
  /-- R494: Core rail above 2,100 A over 1 µs forces step 8 and caps 0. -/
  | railOvercurrent (amps : Nat)
  /-- R495: Sustained overcurrent or input overpower stops every module clock and discards all work. -/
  | powerTrip (amps : Nat) (watts : Nat)
  /-- R428: A hardware unit without progress for 100 ms is a device fault. -/
  | watchdogExpiry (asid : Nat)
  /-- R497: A corrected storage error is rewritten and counted. -/
  | correctedError (die : Nat) (info : Word)
  /-- R496: An uncorrectable error returns poisoned data and raises 0x1C as a device fault. -/
  | uncorrectedError (asid : Nat) (reason : Nat) (addr : Nat)
  /-- R498: A recurring error retires a lane, way or core. -/
  | persistentError (core : Nat) (kind : Nat) (unit : Nat)
  /-- R499: The retired lane's slice is fenced once every context has passed a grant point. -/
  | laneSliceFence (core : Nat)
  /-- R496: Each compute-in-memory macro is scrubbed every 100 µs. -/
  | macroScrub (core : Nat) (cell : Nat) (ok : Bool)
  /-- R393: A flit failing its CRC is replayed from the sender's buffer. -/
  | birfelFlitReplay (link : Nat)
  /-- R481: A dropped Birfel link retrains while its streams move to another link. -/
  | birfelLinkDrop (link : Nat)
  /-- R482: A peer without a working link for 10 ms is a lost route. -/
  | peerUnreachable (peer : Nat)
  /-- R394: A system-scope flag message from a peer performs once after its stream's data. -/
  | peerFlagMessage (stream : Nat) (seq : Nat) (addr : Nat) (value : Word)
  /-- R479: A failing bond link retrains while traffic takes a second path. -/
  | bondLinkFailure (die : Nat)
  /-- R479: A die with no path 1 ms after its last failed is removed and its contexts faulted. -/
  | dieUnreachable (die : Nat)
  /-- R480: An unreachable die returns after retraining, check and scrub. -/
  | dieReturn (die : Nat)
  /-- R483: A host port link going down clears its rdy bit and faults outstanding host accesses. -/
  | hostPortLinkDown (port : Nat)
  /-- R397: SPDM GET_VERSION request answered by the root. -/
  | getVersion (port : Nat)
  /-- R397: SPDM GET_CAPABILITIES request answered by the root. -/
  | getCapabilities (port : Nat)
  /-- R397: SPDM NEGOTIATE_ALGORITHMS request answered with RSASSA-4096 and SHA-512. -/
  | negotiateAlgorithms (port : Nat)
  /-- R397: SPDM GET_DIGESTS request answered by the root. -/
  | getDigests (port : Nat)
  /-- R397: SPDM GET_CERTIFICATE request answered by the root. -/
  | getCertificate (port : Nat)
  /-- R397: SPDM CHALLENGE signed with the device identity key. -/
  | challenge (port : Nat) (nonce : Nat)
  /-- R397: SPDM GET_MEASUREMENTS returns image digests and modctl. -/
  | getMeasurements (port : Nat)
  /-- R399: The module controller reports identity, readiness, lanes, temperatures and power over MCTP. -/
  | mctpReport
  /-- R371: A write of hctl configures a head, refusing an output another head drives. -/
  | hctlWrite (head : Nat) (value : Word)
  /-- R334: 2 ms before a deadline the head raises its graphics queue to class 0, pre-empting as needed. -/
  | headRaise (head : Nat)
  /-- R372: At a deadline the head acquires the done counter and takes or repeats the frame. -/
  | headDeadline (head : Nat)
  /-- R493: A scan-out read fault sends black for the rest of the frame and is logged. -/
  | scanoutReadFault (head : Nat) (cause : Nat) (reason : Nat) (addr : Nat)
  /-- R224: A commit packet reaches its tile's commit unit and is applied, held or discarded by ticket. -/
  | commitPacket (cluster : Nat)
  /-- R227: After a resolve's writes perform, the barrier word receives one arrival and the bytes. -/
  | resolveCredit
  /-- R488: An open tile with held packets and no progress for 10 ms is logged and shown. -/
  | stuckTile (cluster : Nat) (tile : Nat)
  /-- R489: A write of tcskip passes one ticket of the shown stuck tile. -/
  | tcskipWrite (cluster : Nat) (value : Word)
  /-- R44: The vector unit takes the next queued instruction of a slot to the lanes and runs it to completion, returning the slot to the rotation at the end of a pass and freeing an exited slot when the queue drains. -/
  | vectorUnitDispatch (slot : Nat)
  /-- R88: Issuing a halfword or word with an unallocated major, function code or cop, or 0xFFFF_FFFF, traps precisely with ecause 0x10. -/
  | unallocatedEncoding (reason : Nat)
  /-- R444: A fetch that fails translation or permission when the slot would issue traps precisely with ecause 0x15. -/
  | fetchFault (reason : Nat) (level : Nat) (addr : Nat)
  /-- R482: A Birfel link to a peer finishes training again, so accesses to that peer's range stop taking 0x21 and streams may use the link. -/
  | birfelLinkTrained (link : Nat) (peer : Nat)
  /-- R389: A presentation head becomes usable and sets its bit in rdy.head. -/
  | presentationHeadUsable (head : Nat)
  /-- R254: Takes the system-call trap with the given code, with epc at the next instruction. -/
  | trap (x : XF)
  /-- R255: Checks epc, returns to it, restores status and resumes the held or installed vector frame. -/
  | eret (x : XF)
  /-- R257: Reads the numbered system register into a scalar register, after the access checks and any vector drain. -/
  | sysrd (x : XF)
  /-- R257: Writes a scalar register to the numbered system register; RO fields keep their values. -/
  | syswr (x : XF)
  /-- R257: ORs a bit mask into a system register atomically and returns the old value. -/
  | sysset (x : XF)
  /-- R257: Clears the masked bits of a system register atomically and returns the old value. -/
  | sysclr (x : XF)
  /-- R259: Saves v0-v31 and m1-m7 of every attached segment to memory in the context-image layout. -/
  | vsave (x : XF)
  /-- R259: Loads v0-v31 and m1-m7 from memory and sets vstate.vec clean. -/
  | vrstr (x : XF)
  /-- R259: Saves the core's accumulator store, compute-in-memory block and sB to memory. -/
  | asave (x : XF)
  /-- R259: Loads the accumulator store, block and sB from memory and sets acc and cim clean. -/
  | arstr (x : XF)
  /-- R260: Writes the held frame to memory and empties it. -/
  | frsave (x : XF)
  /-- R260: Installs a saved frame as the held frame after checking length, format, split and segments. -/
  | frload (x : XF)
  /-- R256: Removes the slot from the rotation until an interrupt, pre-emption or slot reset. -/
  | halt (x : XF)
  /-- R254: Takes the breakpoint trap with the given code, with epc at the BRK. -/
  | brk (x : XF)
  /-- R261: Acts as release and acquire at the named scope for scalar and/or vector accesses. -/
  | fence (x : QF)
  /-- R262: Fences both kinds and then invalidates the sampler caches of the core or cluster. -/
  | fsmp (x : QF)
  /-- R263: Closes and commits the open chunk. -/
  | chunk (x : QF)
  /-- R264: Writes back dirty untracked sectors in a range to the scope's level, as a release. -/
  | dcwb (x : QF)
  /-- R264: Writes back and then drops cached copies of untracked sectors in a range, as a release. -/
  | dcinv (x : QF)
  /-- R265: Releases at the scope and then invalidates instruction-cache lines of the range in the scope's cores. -/
  | icinv (x : QF)
  /-- R266: Fetches an instruction line into the core's instruction cache as a hint, dropped silently on a bad address. -/
  | ipf (x : QF)
  /-- R266: Fetches a data sector into the L1 as a read hint, dropped silently on a bad address. -/
  | dpf (x : QF)
  /-- R142: Branches unconditionally to a PC-relative target. -/
  | br (x : JF)
  /-- R142: Writes the link to s30 and branches to a PC-relative target. -/
  | call (x : JF)
  /-- R142: Branches when the named predicate bit is 1. -/
  | bp (x : BF)
  /-- R142: Branches when the named predicate bit is 0. -/
  | bpn (x : BF)
  /-- R142: Jumps to the address in a register, trapping on an odd target. -/
  | jr (x : TF)
  /-- R142: Reads the target, writes the link to the destination and jumps. -/
  | callr (x : TF)
  /-- R144: Subtracts vl from the count, advances the pointers, re-grants vl and branches while elements remain. -/
  | smloop (x : LF)
  /-- R141: Loads a sign-extended 20-bit immediate shifted left by 12. -/
  | liw (x : WF)
  /-- R141: Adds a shifted 20-bit immediate to the PC into a register. -/
  | pcadd (x : WF)
  /-- R136: Adds two registers modulo 2^64. -/
  | add (x : TF)
  /-- R136: Subtracts two registers modulo 2^64. -/
  | sub (x : TF)
  /-- R136: Multiplies two registers, keeping the low 64 bits. -/
  | mul (x : TF)
  /-- R136: Returns the high 64 bits of the signed product. -/
  | mulh (x : TF)
  /-- R136: Returns the high 64 bits of the unsigned product. -/
  | mulhu (x : TF)
  /-- R136: Signed division toward zero with defined results for zero and overflow. -/
  | div (x : TF)
  /-- R136: Unsigned division with all ones for a zero divisor. -/
  | divu (x : TF)
  /-- R136: Signed remainder with the sign of the dividend. -/
  | rem (x : TF)
  /-- R136: Unsigned remainder. -/
  | remu (x : TF)
  /-- R136: Bitwise AND of two registers. -/
  | and (x : TF)
  /-- R136: Bitwise OR of two registers. -/
  | or (x : TF)
  /-- R136: Bitwise XOR of two registers. -/
  | xor (x : TF)
  /-- R136: Shifts left by the low six bits of the second source. -/
  | sll (x : TF)
  /-- R136: Shifts right with zeros by the low six bits of the second source. -/
  | srl (x : TF)
  /-- R136: Shifts right with the sign bit by the low six bits of the second source. -/
  | sra (x : TF)
  /-- R136: Signed minimum. -/
  | min (x : TF)
  /-- R136: Signed maximum. -/
  | max (x : TF)
  /-- R136: Unsigned minimum. -/
  | minu (x : TF)
  /-- R136: Unsigned maximum. -/
  | maxu (x : TF)
  /-- R136: Counts leading zero bits, 64 for zero. -/
  | clz (x : TF)
  /-- R136: Counts trailing zero bits, 64 for zero. -/
  | ctz (x : TF)
  /-- R136: Counts the one bits of a register. -/
  | popc (x : TF)
  /-- R136: Selects the first or second source by the predicate bit numbered as the destination. -/
  | sel (x : TF)
  /-- R137: Adds a sign-extended 12-bit immediate. -/
  | addi (x : IF)
  /-- R137: ANDs a sign-extended 12-bit immediate. -/
  | andi (x : IF)
  /-- R137: ORs a sign-extended 12-bit immediate. -/
  | ori (x : IF)
  /-- R137: XORs a sign-extended 12-bit immediate. -/
  | xori (x : IF)
  /-- R137: Shifts left by an immediate of 0 to 63. -/
  | slli (x : IF)
  /-- R137: Shifts right with zeros by an immediate of 0 to 63. -/
  | srli (x : IF)
  /-- R137: Shifts right arithmetically by an immediate of 0 to 63. -/
  | srai (x : IF)
  /-- R138: Sets a predicate bit when two registers are equal. -/
  | cmpeq (x : TF)
  /-- R138: Sets a predicate bit when two registers differ. -/
  | cmpne (x : TF)
  /-- R138: Sets a predicate bit on signed less-than. -/
  | cmplt (x : TF)
  /-- R138: Sets a predicate bit on signed less-or-equal. -/
  | cmple (x : TF)
  /-- R138: Sets a predicate bit on unsigned less-than. -/
  | cmpltu (x : TF)
  /-- R138: Sets a predicate bit on unsigned less-or-equal. -/
  | cmpleu (x : TF)
  /-- R138: ANDs two predicate bits into a third. -/
  | pand (x : TF)
  /-- R138: ORs two predicate bits into a third. -/
  | por (x : TF)
  /-- R138: XORs two predicate bits into a third. -/
  | pxor (x : TF)
  /-- R138: Writes the inverse of a predicate bit. -/
  | pnot (x : TF)
  /-- R138: Reads the predicate word into a scalar register. -/
  | prd (x : TF)
  /-- R138: Replaces the predicate word with the low 32 bits of a register. -/
  | pwr (x : TF)
  /-- R138: Sets a predicate bit when a register equals an immediate. -/
  | cmpeqi (x : IF)
  /-- R138: Sets a predicate bit when a register is signed less than an immediate. -/
  | cmplti (x : IF)
  /-- R139: Loads a sign-extended byte after alignment, translation and permission checks. -/
  | ld8 (x : IF)
  /-- R139: Loads a zero-extended byte. -/
  | ld8u (x : IF)
  /-- R139: Loads a sign-extended halfword. -/
  | ld16 (x : IF)
  /-- R139: Loads a zero-extended halfword. -/
  | ld16u (x : IF)
  /-- R139: Loads a sign-extended word. -/
  | ld32 (x : IF)
  /-- R139: Loads a zero-extended word. -/
  | ld32u (x : IF)
  /-- R139: Loads a doubleword. -/
  | ld64 (x : IF)
  /-- R139: Stores the low byte of a register into the chunk's store buffer. -/
  | st8 (x : SF)
  /-- R139: Stores the low halfword of a register. -/
  | st16 (x : SF)
  /-- R139: Stores the low word of a register. -/
  | st32 (x : SF)
  /-- R139: Stores a doubleword. -/
  | st64 (x : SF)
  /-- R146: Adds two FP32 values with one rounding to nearest even. -/
  | fadd (x : TF)
  /-- R146: Subtracts two FP32 values. -/
  | fsub (x : TF)
  /-- R146: Multiplies two FP32 values. -/
  | fmul (x : TF)
  /-- R146: Fused multiply-add using the destination as addend, one rounding. -/
  | fma (x : TF)
  /-- R146: Divides two FP32 values. -/
  | fdiv (x : TF)
  /-- R146: Square root of an FP32 value. -/
  | fsqrt (x : TF)
  /-- R146: Sets a predicate bit on FP32 equality. -/
  | fcmpeq (x : TF)
  /-- R146: Sets a predicate bit on FP32 less-than. -/
  | fcmplt (x : TF)
  /-- R146: Sets a predicate bit on FP32 less-or-equal. -/
  | fcmple (x : TF)
  /-- R146: Sets a predicate bit when the FP32 operands are unordered. -/
  | fcmpun (x : TF)
  /-- R146: Converts an integer of the coded type to FP32 with the coded rounding. -/
  | fcvtif (x : TF)
  /-- R146: Converts FP32 to an integer of the coded type, rounding and clamping. -/
  | fcvtfi (x : TF)
  /-- R244: Atomically adds to a dword at a scope and returns the old value, as acquire and release. -/
  | amoadd (x : QF)
  /-- R244: Atomic AND returning the old value. -/
  | amoand (x : QF)
  /-- R244: Atomic OR returning the old value. -/
  | amoor (x : QF)
  /-- R244: Atomic XOR returning the old value. -/
  | amoxor (x : QF)
  /-- R244: Atomic signed minimum returning the old value. -/
  | amomin (x : QF)
  /-- R244: Atomic signed maximum returning the old value. -/
  | amomax (x : QF)
  /-- R244: Atomic unsigned minimum returning the old value. -/
  | amominu (x : QF)
  /-- R244: Atomic unsigned maximum returning the old value. -/
  | amomaxu (x : QF)
  /-- R244: Atomic swap returning the old value. -/
  | amoswp (x : QF)
  /-- R244: Atomic compare-and-swap against the destination's value, returning the old value. -/
  | amocas (x : QF)
  /-- R245: Issues a non-returning relaxed atomic add performed after the chunk commits. -/
  | redadd (x : QF)
  /-- R244: Loads a dword as an acquire at a scope. -/
  | lda (x : QF)
  /-- R244: Stores a dword as a release at a scope, covering queued vector accesses. -/
  | stl (x : QF)
  /-- R234: Checks a queue handle and binds a window register to it through the port table. -/
  | qbind (x : QF)
  /-- R234: Commits a binding's reserved pushes and unbinds the window register. -/
  | qfree (x : QF)
  /-- R235: Pushes to a bound scalar queue without waiting for capacity, reporting success in a predicate bit. -/
  | qpushn (x : QF)
  /-- R235: Pops from a bound scalar queue without waiting, reporting success in a predicate bit. -/
  | qpopn (x : QF)
  /-- R235: Returns the bound, reserved, capacity and entry counts of a binding. -/
  | qstat (x : QF)
  /-- R239: Reads and checks a task descriptor, takes capacity and enqueues it at commit as a device release. -/
  | tqenq (x : QF)
  /-- R240: Enqueues a job card whose tiles are fetched to the named core before the task is ready. -/
  | jcenq (x : QF)
  /-- R241: Creates a light thread that joins the core's run queue at commit. -/
  | spawn (x : QF)
  /-- R242: Moves a light thread to the run queue of a named core. -/
  | migr (x : QF)
  /-- R243: Takes a pending pre-emption as the time-slice trap, otherwise does nothing. -/
  | yield (x : QF)
  /-- R243: Ends the thread, freeing bindings once queued vector work has finished. -/
  | exit (x : QF)
  /-- R243: Removes the slot from the rotation until a timeout or a wake event. -/
  | sleep (x : QF)
  /-- R336: Arms a split counter with a total in the device's arm table. -/
  | scarm (x : QF)
  /-- R339: Takes exactly the asked units from a split counter or none. -/
  | sctake (x : QF)
  /-- R339: Takes as many of the asked units as the total allows. -/
  | sctakep (x : QF)
  /-- R340: Gives units to a split counter, locally or at the home, saturating the total. -/
  | scgive (x : QF)
  /-- R341: Returns the exact total through a recall round. -/
  | scread (x : QF)
  /-- R341: Sets the total through a recall round and returns the old total. -/
  | scset (x : QF)
  /-- R341: Disarms a counter, writing its total to the object. -/
  | scdsrm (x : QF)
  /-- R249: Sets a barrier word's target arrivals and clears its counts. -/
  | barinit (x : QF)
  /-- R250: Releases and adds one arrival and bytes to a barrier word once prior element stores perform. -/
  | bararr (x : QF)
  /-- R249: Adds to a barrier word's target bytes. -/
  | barexp (x : QF)
  /-- R349: Waits out of the rotation until the barrier generation differs, then acquires. -/
  | barwt (x : QF)
  /-- R249: Reads arrivals and generation of a barrier word as an acquire without waiting. -/
  | bartst (x : QF)
  /-- R152: Sets vtype from a register, attaches segments and grants vl for a request. -/
  | setvl (x : GF)
  /-- R152: Sets vtype from an immediate and grants vl for a request. -/
  | setvli (x : GIF)
  /-- R152: Requests a segment count, attaches segments and grants vl. -/
  | vspan (x : GF)
  /-- R157: Loads unit-stride elements into a vector group. -/
  | vld (x : VMF)
  /-- R157: Loads elements at a byte stride. -/
  | vlds (x : VMF)
  /-- R157: Gathers elements by an index group. -/
  | vldg (x : VMF)
  /-- R161: Loads unit-stride elements, trimming vl at the first faulting element above zero. -/
  | vldff (x : VMF)
  /-- R163: Loads interleaved fields into consecutive groups. -/
  | vldseg (x : VMF)
  /-- R164: Loads elements at a bit address. -/
  | vldb (x : VMF)
  /-- R162: Loads elements through the non-coherent sampler cache. -/
  | vldc (x : VMF)
  /-- R157: Stores a vector group at unit stride. -/
  | vst (x : VMF)
  /-- R157: Stores elements at a byte stride. -/
  | vsts (x : VMF)
  /-- R157: Scatters elements by an index group. -/
  | vstsc (x : VMF)
  /-- R163: Stores consecutive groups as interleaved fields. -/
  | vstseg (x : VMF)
  /-- R164: Stores elements at a bit address, merging partial bytes. -/
  | vstb (x : VMF)
  /-- R246: Per-element atomic add at a scope returning old values, marking scope misses in msm. -/
  | vamoadd (x : VAF)
  /-- R246: Per-element atomic signed minimum returning old values. -/
  | vamomin (x : VAF)
  /-- R246: Per-element atomic signed maximum returning old values. -/
  | vamomax (x : VAF)
  /-- R246: Per-element atomic AND returning old values. -/
  | vamoand (x : VAF)
  /-- R246: Per-element atomic OR returning old values. -/
  | vamoor (x : VAF)
  /-- R246: Per-element atomic XOR returning old values. -/
  | vamoxor (x : VAF)
  /-- R246: Per-element atomic swap returning old values. -/
  | vamoswp (x : VAF)
  /-- R246: Per-element compare-and-swap against vd, storing vd + G, returning old values. -/
  | vamocas (x : VAF)
  /-- R246: Per-element atomic add with no return. -/
  | vamoaddNr (x : VAF)
  /-- R246: Per-element atomic signed minimum with no return. -/
  | vamominNr (x : VAF)
  /-- R246: Per-element atomic signed maximum with no return. -/
  | vamomaxNr (x : VAF)
  /-- R246: Per-element atomic AND with no return. -/
  | vamoandNr (x : VAF)
  /-- R246: Per-element atomic OR with no return. -/
  | vamoorNr (x : VAF)
  /-- R246: Per-element atomic XOR with no return. -/
  | vamoxorNr (x : VAF)
  /-- R246: Per-element atomic swap with no return. -/
  | vamoswpNr (x : VAF)
  /-- R176: Adds vector elements, wrapping. -/
  | vadd (x : VF)
  /-- R176: Subtracts vector elements, wrapping. -/
  | vsub (x : VF)
  /-- R176: Multiplies vector elements, wrapping. -/
  | vmul (x : VF)
  /-- R176: High half of signed element products. -/
  | vmulh (x : VF)
  /-- R176: High half of unsigned element products. -/
  | vmulhu (x : VF)
  /-- R176: Adds element products to the destination, wrapping. -/
  | vmacc (x : VF)
  /-- R176: Bitwise AND of elements. -/
  | vand (x : VF)
  /-- R176: Bitwise OR of elements. -/
  | vor (x : VF)
  /-- R176: Bitwise XOR of elements. -/
  | vxor (x : VF)
  /-- R176: Shifts elements left. -/
  | vsll (x : VF)
  /-- R176: Shifts elements right with zeros. -/
  | vsrl (x : VF)
  /-- R176: Shifts elements right arithmetically. -/
  | vsra (x : VF)
  /-- R176: Signed element minimum. -/
  | vmin (x : VF)
  /-- R176: Signed element maximum. -/
  | vmax (x : VF)
  /-- R176: Unsigned element minimum. -/
  | vminu (x : VF)
  /-- R176: Unsigned element maximum. -/
  | vmaxu (x : VF)
  /-- R177: Saturating element add of the coded kind. -/
  | vsadd (x : VF)
  /-- R177: Saturating element subtract of the coded kind. -/
  | vssub (x : VF)
  /-- R178: Narrows double-width integer elements, optionally saturating. -/
  | vnarrow (x : VF)
  /-- R178: Widens integer elements to double width by sign or zero extension. -/
  | vwiden (x : VF)
  /-- R179: Floating-point element add under the format descriptor. -/
  | vfadd (x : VF)
  /-- R179: Floating-point element subtract. -/
  | vfsub (x : VF)
  /-- R179: Floating-point element multiply. -/
  | vfmul (x : VF)
  /-- R179: Fused multiply-add with the destination as addend. -/
  | vfma (x : VF)
  /-- R179: Fused multiply minus the destination. -/
  | vfms (x : VF)
  /-- R179: Destination minus the product, fused. -/
  | vfnma (x : VF)
  /-- R179: Floating-point element minimum under R120. -/
  | vfmin (x : VF)
  /-- R179: Floating-point element maximum under R120. -/
  | vfmax (x : VF)
  /-- R179: Absolute value of floating-point elements. -/
  | vfabs (x : VF)
  /-- R179: Negation of floating-point elements. -/
  | vfneg (x : VF)
  /-- R179: Floating-point element divide. -/
  | vfdiv (x : VF)
  /-- R179: Floating-point element square root. -/
  | vfsqrt (x : VF)
  /-- R180: Fixed-function reciprocal of elements. -/
  | vfrcp (x : VF)
  /-- R180: Fixed-function reciprocal square root. -/
  | vfrsq (x : VF)
  /-- R180: Fixed-function base-2 exponential. -/
  | vfexp2 (x : VF)
  /-- R180: Fixed-function base-2 logarithm. -/
  | vflog2 (x : VF)
  /-- R180: Fixed-function sine of half-turns. -/
  | vfsin (x : VF)
  /-- R180: Fixed-function cosine of half-turns. -/
  | vfcos (x : VF)
  /-- R181: Converts between floating-point formats, optionally with MX quantisation or dequantisation. -/
  | vfcvt (x : VF)
  /-- R182: Converts floating-point elements to integers. -/
  | vfcvti (x : VF)
  /-- R182: Converts integer elements to floating point. -/
  | vfcvtf (x : VF)
  /-- R183: Writes a mask bit where elements are equal. -/
  | vcmpeq (x : VF)
  /-- R183: Writes a mask bit where elements differ. -/
  | vcmpne (x : VF)
  /-- R183: Signed element less-than into a mask. -/
  | vcmplt (x : VF)
  /-- R183: Signed element less-or-equal into a mask. -/
  | vcmple (x : VF)
  /-- R183: Unsigned element less-than into a mask. -/
  | vcmpltu (x : VF)
  /-- R183: Unsigned element less-or-equal into a mask. -/
  | vcmpleu (x : VF)
  /-- R183: Floating-point element equality into a mask. -/
  | vfcmpeq (x : VF)
  /-- R183: Floating-point element less-than into a mask. -/
  | vfcmplt (x : VF)
  /-- R183: Floating-point element less-or-equal into a mask. -/
  | vfcmple (x : VF)
  /-- R183: Floating-point unordered test into a mask. -/
  | vfcmpun (x : VF)
  /-- R184: ANDs two masks. -/
  | mand (x : VF)
  /-- R184: ORs two masks. -/
  | mor (x : VF)
  /-- R184: XORs two masks. -/
  | mxor (x : VF)
  /-- R184: Inverts a mask. -/
  | mnot (x : VF)
  /-- R184: Returns the index of the first set active mask bit, or all ones. -/
  | mffs (x : VF)
  /-- R184: Returns the number of set active mask bits. -/
  | mpop (x : VF)
  /-- R184: Sets mask bits below a scalar count. -/
  | mset (x : VF)
  /-- R184: Writes each element's index. -/
  | vidx (x : VF)
  /-- R184: Selects elements from two groups by a mask. -/
  | vmsel (x : VF)
  /-- R185: Permutes elements within a segment by an index group. -/
  | vperm (x : VF)
  /-- R185: Slides elements up within a segment. -/
  | vslup (x : VF)
  /-- R185: Slides elements down within a segment. -/
  | vsldn (x : VF)
  /-- R185: Compresses active elements to the low indices. -/
  | vcmpr (x : VF)
  /-- R185: Expands low elements to the active positions. -/
  | vexpd (x : VF)
  /-- R185: Broadcasts a scalar to every element. -/
  | vbcst (x : VF)
  /-- R185: Writes a scalar into one indexed element. -/
  | vmvxs (x : VF)
  /-- R185: Reads one indexed element into a scalar register. -/
  | vmvsx (x : VF)
  /-- R185: Copies elements of a group. -/
  | vmov (x : VF)
  /-- R186: Exchanges elements between span segments by a rotation step. -/
  | vxchg (x : VF)
  /-- R187: Counts earlier active elements with the same key. -/
  | vkrank (x : VF)
  /-- R187: Counts active elements per key value. -/
  | vhist (x : VF)
  /-- R188: Integer sum reduction into a scalar. -/
  | vredsum (x : VF)
  /-- R188: Integer maximum reduction. -/
  | vredmax (x : VF)
  /-- R188: Integer minimum reduction. -/
  | vredmin (x : VF)
  /-- R188: Ordered floating-point sum reduction. -/
  | vfredo (x : VF)
  /-- R188: Free-order floating-point sum reduction. -/
  | vfredf (x : VF)
  /-- R188: Floating-point maximum reduction. -/
  | vfredmax (x : VF)
  /-- R188: Floating-point minimum reduction. -/
  | vfredmin (x : VF)
  /-- R194: Grants a matrix tile for a requested M, N, K and records tmode. -/
  | tset (x : VF)
  /-- R195: Loads the B tile and sB into the compute-in-memory block. -/
  | tldb (x : VF)
  /-- R197: Performs an ordered tile pass with exact sums promoted into the accumulator. -/
  | tmma (x : VF)
  /-- R198: Performs a tile pass that may join free runs. -/
  | tmmaf (x : VF)
  /-- R199: Performs an ordered pair pass with the partner core. -/
  | tmmap (x : VF)
  /-- R199: Performs a free pair pass with the partner core. -/
  | tmmapf (x : VF)
  /-- R201: Reads accumulator cells into a vector group, rounded to fd. -/
  | trda (x : VF)
  /-- R201: Clears accumulator rows. -/
  | tzacc (x : VF)
  /-- R201: Adds vector elements into accumulator cells. -/
  | tadda (x : VF)
  /-- R204: Multiplies MX blocks held in vector registers into FP32 C. -/
  | mmsx (x : VF)
  /-- R210: Computes triangle coverage of a pixel rectangle into a mask. -/
  | edge (x : VF)
  /-- R213: Tests rays against the four child boxes of a BVH node. -/
  | boxt (x : VF)
  /-- R214: Tests rays against a triangle, writing t, u, v and flags. -/
  | trit (x : VF)
  /-- R219: Performs filtered texture reads through the sampler cache. -/
  | texf (x : VF)
  /-- R222: Queries texture level sizes, layers and levels. -/
  | texq (x : VF)
  /-- R224: Sends shaded pixels as a ticketed commit packet to the tile's commit unit. -/
  | pxcmt (x : VF)
  /-- R226: Sends a fast-clear packet for a tile. -/
  | tclr (x : VF)
  /-- R227: Sends a resolve packet that writes the tile buffer to the target. -/
  | trslv (x : VF)
  /-- R95: Replays the following frame of vector instructions over several passes with stepped registers. -/
  | repf (x : PF)
  /-- R92: Copies the last-written scalar register into a register. -/
  | cmov (x : CF)
  /-- R92: Loads a 5-bit signed immediate. -/
  | cli (x : CF)
  /-- R92: Adds a 5-bit signed immediate to the last-written register. -/
  | caddi (x : CF)
  /-- R92: Adds a register to the last-written register. -/
  | cadd (x : CF)
  /-- R92: Subtracts a register from the last-written register. -/
  | csub (x : CF)
  /-- R92: ANDs a register with the last-written register. -/
  | cand (x : CF)
  /-- R92: Shifts the last-written register left by an immediate. -/
  | cslli (x : CF)
  /-- R92: Shifts the last-written register right by an immediate. -/
  | csrli (x : CF)
  /-- R147: Loads a doubleword at the last-written register plus a scaled offset. -/
  | cld (x : CF)
  /-- R147: Stores a doubleword at the last-written register plus a scaled offset. -/
  | cst (x : CF)
  /-- R92: Branches forward when a predicate bit is 1. -/
  | cbp (x : CF)
  /-- R92: Branches forward when a predicate bit is 0. -/
  | cbpn (x : CF)
  /-- R92: Vector add of the last-written vector register and a register. -/
  | cvadd (x : CF)
  /-- R92: Vector multiply of the last-written vector register and a register. -/
  | cvmul (x : CF)
  /-- R92: Floating-point vector add under f0 with the last-written vector register. -/
  | cvfadd (x : CF)
  /-- R92: Floating-point fused multiply-add under f0 with the last-written vector register. -/
  | cvfma (x : CF)
  deriving DecidableEq, Repr

end Sys2Proof
end

