-- ==== Sys2Proof/Machine/State.lean ====
section
/-! DEFINITION. Machine/State.lean: everything the spec gives the machine, as plain data, and the machine right after
reset. Tables are keyed by the numbers of R17, R18 and R25; a table holds what differs from its default. -/

namespace Sys2Proof.Machine

/-- Why the machine stops with a fault. -/
inductive Fault where
  /-- Raised by a meaning executed for a slot that holds no thread: no unit of the part issues there (R42). Safe. -/
  | emptySlot
  deriving DecidableEq, Repr

/-- Why a step is refused. -/
inductive Refusal where
  /-- Raised by Dispatch.lean for a row that has no meaning yet. Safe. -/
  | notModelled (mnemonic : String)
  deriving DecidableEq, Repr

/-- What a slot holds (R33, R55): nothing, a full thread, a light thread, or a vector context reserved for a span. -/
inductive Residency where
  | empty
  | full
  | light
  | segment
  deriving DecidableEq, Repr

/-- The scalar side of a slot: what a chunk's checkpoint keeps (R63, R64, R134). `vl` and `vtype` are the scalar side's
copies. Key n of `s` is register sn. -/
structure Regs where
  pc : Word
  s : Store Word
  p : BitVec 32
  cdst : Reg
  cvdst : Reg
  vl : Word
  vtype : Word
  deriving DecidableEq, Repr

/-- The system registers of a slot (R70, R71, R73 to R75, R376 to R378). -/
structure SysRegs where
  status : Word
  svec : Word
  epc : Word
  ecause : Word
  eaddr : Word
  einfo : Word
  qmap : Word
  pairp : Word
  pwreq : Word
  lease : Word
  pwbud : Word
  qtbase : Word
  ptbase : Word
  asid : Word
  instret : Word
  /-- evc0 to evc15. -/
  evc : Store Word
  /-- evsel0 to evsel15. -/
  evsel : Store Word
  /-- A request of pwreq for a boost lease waits for the slow loop (R379). -/
  leaseAsked : Bool
  /-- The supervisor has read the lease since it took over: it stands in a saved image (R380). -/
  leaseSaved : Bool
  deriving DecidableEq, Repr

/-- The vector context of a slot and its shape state, as the vector unit holds them (R67, R72, R73, R191). Register r of
segment j has key 32 j + r in `v`, and mask m of segment j has key 8 j + m in `m`: the register's bits as a number below
2^VLEN_ctx, the mask's below 2^(VLEN_ctx / 4). `live` is the live lanes that the last grant took (R154). -/
structure Vec where
  vl : Word
  vtype : Word
  vstart : Word
  vstate : Word
  live : Nat
  v : Store Nat
  m : Store Nat
  tm : Word
  tn : Word
  tk : Word
  tmode : Word
  split : Nat
  ctx : Nat
  smin : Nat
  smax : Nat
  /-- Device slot numbers of the segments attached beyond segment 0, in order (R55). -/
  segs : List Nat
  deriving DecidableEq, Repr

/-- Where a reserved push goes (R231, R233): a data queue with its process and index, a scalar queue of a core with the handle
that bound it, or an engine's command queue through the port entry that bound it, with a place of its own or as the second half
of a command. -/
inductive PushTo where
  | data (key : Nat) (ctr : Nat)
  | scalarQ (core idx handle : Nat)
  | command (engine port : Nat) (place : Bool)
  deriving DecidableEq, Repr

/-- Where a scalar result of the vector unit goes: a register, a bound register's reserved push (R45, R66), or nowhere: the
handle of the push was retired since (R467). -/
inductive Dst where
  | reg (r : Reg)
  | push (r : Reg) (q : PushTo)
  | gone (r : Reg) (handle : Nat) (q : PushTo)
  deriving DecidableEq, Repr

/-- A port-table entry of a slot (R74, R234, R236, R467). -/
structure Port where
  handle : Nat
  asid : Nat
  kind : Nat
  /-- Queue index of the core, or engine number, or key of the data queue or of the result queue. -/
  base : Nat
  opt : Word
  /-- The low dword of a command whose high dword has not been pushed. -/
  low : Option Word
  /-- The second dword of a record of which one has been popped. -/
  half : Option Word
  /-- The queue was retired after QBIND. -/
  stale : Bool
  deriving DecidableEq, Repr

/-- A deferred effect that releases (R231, R298): a push, an engine command with the port that carries it, a task with its
card's tiles (source, bytes, destination word), a spawned thread; or one of the first three whose handle was retired since, with
the place that it gives back (R467). -/
inductive Release where
  | push (q : PushTo) (v : Word)
  | command (engine : Nat) (lo hi : Word) (port : Port)
  | task (key : Nat) (desc : BitVec 512) (ctr : Nat) (tiles : List (Word × Nat × Nat))
  | spawn (core : Nat) (pc arg : Word) (mig : Bool)
  | gone (handle : Nat) (q : PushTo)
  deriving DecidableEq, Repr

/-- What an entry of the vector instruction queue does: a vector, matrix or graphics instruction as fetched, or a repeat
frame; commands of a vector port that are still to be delivered, from the element `at` on (R236); the scalar side's grant
of vl and vtype, or of vl alone, with the live lanes it took (R145, R153, R154); a grant that the vector unit makes; the count of a BARARR that waits behind
element stores (R250); a release that waits behind them (R299). -/
inductive QWork where
  | vector (code : BitVec 32)
  | commands (port : Port) (dwords : List Word) (idx : Nat)
  | setVl (vl vtype : Word) (live : Nat)
  | setVlOnly (vl : Word) (live : Option Nat)
  | grant (request vtype : Word) (want : Nat) (loop : Bool)
  | arrive (va bytes : Word) (sc : Nat)
  | release (r : Release)
  deriving DecidableEq, Repr

/-- An entry of the vector instruction queue with the values captured at issue (R44, R46, R65, R96). -/
structure QEntry where
  work : QWork
  pc : Word
  vals : List Word
  fmt : Word
  frame : List (BitVec 32)
  /-- Performed steps of a repeat frame, or elements of a vector store done. -/
  done : Nat
  /-- vl and vtype captured when the entry was held (R436). -/
  cap : Option (Word × Word)
  /-- Where its scalar results go, in order. -/
  dst : List Dst
  /-- The bound vector registers that a started instruction has popped or will push, with their values so far (R165,
  R173). -/
  bound : List (Nat × Nat)
  deriving DecidableEq, Repr

/-- A store of the open chunk: where it goes, its bytes, and how the cluster treats the location (R292). -/
structure StoreRec where
  key : Nat
  bytes : List Byte
  /-- 0 tracked, 1 window, 2 untracked, 3 uncached memory, 4 a device register, 5 not performed. -/
  kind : Nat
  deriving DecidableEq, Repr

/-- A deferred effect of the open chunk (R291). -/
inductive Deferred where
  | vec (e : QEntry)
  | release (r : Release)
  | redadd (va value : Word) (sc : Nat)
  deriving DecidableEq, Repr

/-- The open chunk of a slot (R289, R290, R292, R296). An empty chunk has count 0. -/
structure Chunk where
  count : Nat
  ckpt : Option Regs
  ckptPorts : Store (Option Port)
  stores : List StoreRec
  /-- Sectors read and written that enter the signatures, as keys divided by 64. -/
  rset : List Nat
  wset : List Nat
  deferred : List Deferred
  closed : Bool
  prot : Bool
  /-- Held back by the plumb while it would squash a protected chunk. -/
  back : Bool
  deriving DecidableEq, Repr

/-- The answer of a counter's home to a waiting instruction (R339, R439): its value, or the reason of a cause; the
counter, and the units granted with it. -/
structure Answer where
  value : Word
  reason : Nat
  ctr : Nat
  units : Nat
  /-- The home has changed the counter for it: the instruction completes before an interrupt (R342, R344). -/
  applied : Bool
  deriving DecidableEq, Repr

/-- Why a slot is out of the rotation (R42, R43, R53, R243, R256, R317, R344, R349, R463). -/
inductive Wait where
  | none
  | pending (r : Reg)
  /-- The value of a load or atomic that is on its way, and the key of its bytes. -/
  | loadData (d : Reg) (v : Word) (key : Nat)
  | pop (port : Nat)
  /-- A place of a run queue (kind 0), a scalar queue of the core (1) or an engine's command queue (2). -/
  | capacity (kind idx : Nat)
  | counter (ctr : Nat)
  | barrier (key : Nat) (gen : Word)
  | sleep (till : Option Nat) (d : Reg)
  | halt
  | drain
  | grant
  /-- A queue that is not resident, and whether the host serves the miss: the mode in which it began (R285, R317, R318). -/
  | queueMiss (key : Nat) (host : Bool)
  | migrate (core : Nat) (since : Nat) (access : Bool)
  | ifetch (set line : Nat)
  | protectedChunk
  | exited
  deriving DecidableEq, Repr

/-- A vector fault reported and not yet taken (R254, R448). -/
structure VFault where
  cause : Nat
  addr : Word
  einfo : Word
  /-- The faulting instruction heads the vector instruction queue; a REDADD does not stand there. -/
  queued : Bool
  deriving DecidableEq, Repr

/-- What the thread of a slot runs for (R30 to R34, R330, R424). -/
structure TaskInfo where
  queue : Nat
  key : Nat
  launch : Nat
  index : Nat
  first : Nat
  gsize : Nat
  cls : Nat
  /-- Module cycle of dispatch or resume. -/
  since : Nat
  /-- The reason for which no placement covers its image, and the image's address, until its supervisor enqueues the resume task
  again (R471). -/
  stuck : Option (Nat × Word)
  deriving DecidableEq, Repr

/-- A thread slot. -/
structure Slot where
  res : Residency
  regs : Regs
  sys : SysRegs
  vec : Vec
  chunk : Chunk
  vq : List QEntry
  held : List QEntry
  vfault : Option VFault
  /-- Results of the vector unit on their way to a scalar register (R45). -/
  arrivals : List (Dst × Word)
  wait : Wait
  /-- What a home answered to the waiting instruction (R339, R439). -/
  answer : Option Answer
  /-- The counter of a capacity unit granted to the waiting push or enqueue (R502). -/
  granted : Option Nat
  ports : Store (Option Port)
  preempt : Option Nat
  irq : Bool
  /-- Cycle of the previous issue; none before the first (R40). -/
  last : Option Nat
  squashes : Nat
  /-- Instructions left to run one to a chunk after a protected chunk was squashed (R296). -/
  single : Nat
  qualified : Bool
  /-- Perform the next access here although another core owns it (R53). -/
  remote : Bool
  task : TaskInfo
  /-- Cycle at which a pair pass began to wait for its partner (R200). -/
  pairSince : Option Nat
  /-- The 64-byte line that the slot's fetch is in: its number by virtual and by physical address (R463). -/
  fetchLine : Option (Nat × Nat)
  /-- The cycle at which the slot's vector unit last finished an entry, or work came to it when it had none (R428). -/
  vqSince : Nat
  deriving DecidableEq, Repr

/-- A light thread on its way to a core, or in its run queue (R52). -/
structure Packet where
  pc : Word
  regs : List Word
  p : BitVec 32
  mig : Bool
  preempt : Bool
  cdst : Reg
  origin : Nat
  sys : SysRegs
  task : TaskInfo
  /-- Vector work that a trap of the thread set aside: it travels with it (R54, R436). -/
  held : List QEntry
  /-- It has not run yet: a spawned thread (R241, R331). -/
  fresh : Bool
  deriving DecidableEq, Repr

/-- A line of an instruction cache or a sampler cache: its set, its number (PA / 64) and its bytes. A cache lists its
lines from the least recently used. -/
structure CacheLine where
  set : Nat
  line : Nat
  bytes : List Byte
  deriving DecidableEq, Repr

/-- A cached translation (R276): process, page base in units of 4 KiB, page size code, address of the entry used. -/
structure TlbEntry where
  asid : Nat
  page : Nat
  size : Nat
  pte : Nat
  deriving DecidableEq, Repr

/-- An inter-slot scalar queue (R233): its elements, oldest first, and reserved pushes. -/
structure ScalarQ where
  elems : List Word
  resv : Nat
  deriving DecidableEq, Repr

/-- An inter-slot vector queue (R233): whole registers, oldest first. -/
structure VectorQ where
  elems : List Nat
  deriving DecidableEq, Repr

/-- The free run that is being formed (R198): its rows and columns, its descriptor, the accumulator before it, and the T
values of its members, in row order. -/
structure FreeRun where
  r : Nat
  tm : Nat
  tn : Nat
  fmt : Word
  base : Store (BitVec 32)
  ts : List (List Nat)
  deriving DecidableEq, Repr

/-- A core (R20, R67, R68, R278). Cell (r, c) of the accumulator has key 128 r + c, and byte b of row r of the block has key
128 r + b (R259). -/
structure CoreSt where
  split : Option Nat
  owner : Option Nat
  lanemap : BitVec 32
  /-- The lanes whose slices are not fenced (R499). -/
  fenced : BitVec 32
  retired : Bool
  mown : Nat
  acc : Store (BitVec 32)
  blk : Store Byte
  sB : BitVec 32
  /-- A scrub could not correct a cell of the block (R496). -/
  blkBad : Bool
  icache : List CacheLine
  /-- Line fills of the instruction cache in flight: set and line (R463). -/
  fills : List (Nat × Nat)
  tlb : List TlbEntry
  sampler : List CacheLine
  /-- What the core's sampler path read of lines since the last FSMP that covered it, where newer bytes took their place: values that
  R162 still allows. -/
  sampled : List CacheLine
  runq : List Packet
  runResv : Nat
  sq : Store ScalarQ
  vq : Store VectorQ
  ready : Nat
  /-- Retired ways of the instruction cache, the L1 slice and the sampler cache (R498). -/
  ways : Store Nat
  run : Option FreeRun
  /-- The levels at which the scalar, lane and vector-memory domains run, in the layout of pwreq (R374, R375). -/
  levels : Nat
  /-- A pair pass that the named core aborted before this core started its own: that core, and the reason due here
  (R472). -/
  pairOwed : Option (Nat × Nat)
  deriving DecidableEq, Repr

/-- A copy of an untracked sector (R282): sector number, bytes, and which bytes are dirty. -/
structure USector where
  sector : Nat
  bytes : List Byte
  dirty : BitVec 64
  deriving DecidableEq, Repr

/-- A commit packet on its way to a tile commit unit, or held there (R224, R362, R366). -/
structure TilePacket where
  /-- 0 PXCMT, 1 TCLR, 2 TRSLV. -/
  kind : Nat
  asid : Nat
  slot : Nat
  ptbase : Word
  record : Word
  tile : Nat
  ticket : Nat
  last : Bool
  /-- First pixel of a PXCMT in the tile. -/
  p0 : Nat
  /-- The control bits of a TRSLV: bit 0 expand, bit 1 signatures. -/
  ctl : Nat
  mask : List Bool
  /-- The four channels of a PXCMT, element by element, as FP32. -/
  colour : List (List Nat)
  /-- The barrier word of a TRSLV: its window key and the address it was named by. -/
  barrier : Option (Nat × Word)
  task : TaskInfo
  /-- A thread in user mode sent it (R268, R273). -/
  user : Bool
  deriving DecidableEq, Repr

/-- An open tile of a commit unit (R224 to R227, R366): its next ticket, the packets it holds, its block flags, and the
pixels in its buffer. Block (bx, by) of the target has key 8192 by + bx; channel c of pixel (x, y) has key
4 (65536 y + x) + c and holds the channel as the target stores it. -/
structure Tile where
  asid : Nat
  record : Word
  tile : Nat
  expect : Nat
  held : List TilePacket
  /-- 0 not yet known, 1 clear, 2 set. -/
  flags : Store Nat
  pixels : Store (BitVec 32)
  loaded : Store Bool
  written : Store Bool
  failed : Store Bool
  /-- The commit record that was applied last, the table base it was read under, and whether for user mode. -/
  record512 : BitVec 512
  ptbase : Word
  user : Bool
  changed : Nat
  reported : Bool
  /-- A packet has been applied to it: it is one of the unit's open tiles (R366). -/
  opened : Bool
  deriving DecidableEq, Repr

/-- The arrival and the bytes of a TRSLV whose writes have performed (R227). -/
structure Credit where
  key : Nat
  addr : Word
  bytes : Nat
  asid : Nat
  cluster : Nat
  deriving DecidableEq, Repr

/-- A cluster (R21, R337, R325, R326, R366, R381, R383, R384). -/
structure ClusterSt where
  step : Nat
  cap : Nat
  isOpen : Bool
  temp : Nat
  tooHot : Bool
  stopped : Bool
  calm : Nat
  /-- Allowances by counter address, least recently used first: (counter, a, g). -/
  allow : List (Nat × Nat × Nat)
  tiles : List Tile
  packets : List TilePacket
  tcstuck : Word
  tcsrec : Word
  deficit : Store Nat
  rrPtr : Nat
  idle : Nat
  /-- The reservations of the cluster in the order they started (R329): queue and sequence number of the unit, and its core
  when one is chosen. The first is held, the others wait their turn. -/
  reserve : List (Nat × Nat × Option Nat)
  /-- Slot that last held the protected place (R62). -/
  lastProt : Nat
  walk : List TlbEntry
  l1u : List USector
  ways : Store Nat
  /-- The cycle of the last turn of the dispatch unit (R323). -/
  turnAt : Option Nat
  /-- The cycle at which the commit unit last took a packet, or one came to it when it had none (R428). -/
  commitAt : Nat
  deriving DecidableEq, Repr

/-- A compute die: scheduler state and resident count (R315 to R317, R321), frame recall (R453), corrected errors
(R497). -/
structure DieSt where
  seq : Nat
  pending : List Nat
  qctl : Word
  recalling : Option Nat
  recallFail : Bool
  ffcnt : Store Nat
  reachable : Bool
  dcu : List USector
  ways : Store Nat
  /-- The slot whose miss last filled a line of the die cache (R75). -/
  filler : Nat
  deriving DecidableEq, Repr

/-- State of a sector in the directory (R281): agents 0 to 23 are clusters, 24 the host, 25 the peer domain. -/
inductive DirState where
  | I
  | S
  | E
  | M
  deriving DecidableEq, Repr

/-- A directory entry of one sector: `home` is none when the die cache does not hold it, and otherwise whether its copy
there is dirty. -/
structure DirEnt where
  st : DirState
  sharers : List Nat
  home : Option Bool
  deriving DecidableEq, Repr

/-- A request at a split counter's home (R339 to R341, R502): kind 0 take, 1 take partial, 2 give, 3 read, 4 set,
5 disarm, 6 capacity take, 7 units that come back without an instruction that waits. -/
structure CtrReq where
  slot : Nat
  kind : Nat
  value : Nat
  cluster : Nat
  allowance : Nat
  deriving DecidableEq, Repr

/-- An armed split counter (R336, R337). -/
structure Ctr where
  asid : Nat
  rem : Nat
  holders : List Nat
  recalling : Bool
  /-- Holders whose return has not arrived, with the units of those in flight. -/
  away : List (Nat × Option Nat)
  fifo : List CtrReq
  parked : List CtrReq
  /-- Requests and gives on their way to the home. -/
  asked : List CtrReq
  gives : List (Nat × Nat)
  /-- The cycle at which the recalls of the last round were sent (R474). -/
  since : Nat
  deriving DecidableEq, Repr

/-- A task, or what remains of a launch, in a queue (R30, R321, R324, R329, R333). -/
structure QTask where
  desc : BitVec 512
  seq : Nat
  launch : Nat
  /-- Tasks of a launch already dispatched. -/
  next : Nat
  /-- Tiles that have not landed (R359). -/
  tiles : Nat
  readyAt : Nat
  /-- Classes it has aged (R324). -/
  aged : Nat
  /-- Cycle at which it first led its queue (R329, R470). -/
  led : Option Nat
  /-- Cycle since which it has been a candidate nowhere, and cycle since which it has been one somewhere (R328, R331). -/
  nowhere : Option Nat
  cand : Option Nat
  /-- A closed cluster may take it (R328). -/
  fallback : Bool
  /-- It waited 10 ms for a core that covers its image (R471). -/
  overdue : Bool
  ctr : Nat
  /-- Cycle of its enqueue. -/
  enq : Nat
  /-- The device core that a job card names (R240). -/
  core : Option Nat
  /-- The slots whose pre-emption was requested for it, with the cycle at which their threads were dispatched (R331). -/
  victims : List (Nat × Nat)
  /-- It replays an orphaned reduction (R456 to R459). -/
  replay : Bool
  deriving DecidableEq, Repr

/-- A task or data queue of a process (R311 to R321): the fields of its entry as last read, and what it holds. -/
structure QueueSt where
  handle : Nat
  qtbase : Word
  ptbase : Word
  /-- The entry as it was last read, at the swap-in of a resident queue (R314). -/
  entry : Nat
  kind : Nat
  home : Nat
  cls : Nat
  cap : Nat
  ctrVa : Word
  ctr : Nat
  doneVa : Word
  irq : Bool
  msix : Nat
  pin : Bool
  resume : Bool
  base : Word
  resident : Bool
  tasks : List QTask
  elems : List Word
  last : Nat
  raised : Bool
  /-- Cycle at which it joined the pending list. -/
  joined : Nat
  posted : Bool
  /-- It joined the pending list in host-assisted mode (R285, R318). -/
  hostMode : Bool
  /-- Its die was lost: a qctl operation alone makes it resident again (R480). -/
  lost : Bool
  /-- Which header its backing store holds (R314): 0 the zeros of software, else the bytes that `Config.backing` gives
  this number. -/
  stamp : Nat
  deriving DecidableEq, Repr

/-- A launch, or a plain task as a launch of one (R35, R39, R330, R430). -/
structure Launch where
  key : Nat
  handle : Nat
  /-- Tasks and spawned threads that have not ended. -/
  left : Nat
  failed : Bool
  /-- Every task has been dispatched (or there is nothing to dispatch). -/
  started : Bool
  dies : List Nat
  dmax : Nat
  dmin : Nat
  first : Nat
  groupDie : Option Nat
  isTranslation : Bool
  /-- The argument pointer: a translation's request record (R406). -/
  arg : Word
  /-- The completion fields of its queue's entry and the tables they are read under (R330). -/
  doneVa : Word
  irq : Bool
  msix : Nat
  ptbase : Word
  home : Nat
  /-- Its threads on peer devices that have not ended (R327). -/
  peers : Nat
  /-- A launch of a peer device of which units run here: the device and the launch's number there, and the ends of threads that
  are still to be reported to it (R327). -/
  remote : Option (Nat × Nat)
  ended : Nat
  deriving DecidableEq, Repr

/-- What the supervisor has set for a process (R34, R70). -/
structure Proc where
  ptbase : Word
  qtbase : Word
  svec : Word
  deriving DecidableEq, Repr

/-- A non-returning reduction that has not performed (R245, R456): operation as in R458. -/
structure Red where
  op : Nat
  va : Word
  value : Word
  sc : Nat
  narrow : Bool
  slot : Nat
  asid : Nat
  ptbase : Word
  task : TaskInfo
  /-- Issued in user mode. -/
  user : Bool
  /-- It has faulted, and performs again after the ERET of its thread (R449). -/
  held : Bool
  deriving DecidableEq, Repr

/-- An orphaned reduction whose replay task is to be enqueued (R456 to R458): the ecause of its fault, and the cycle of the
next try. -/
structure Replay where
  red : Red
  code : Nat
  due : Nat
  deriving DecidableEq, Repr

/-- A command in an engine (R237, R351): its words, the binding that pushed it. -/
structure Cmd where
  lo : Word
  hi : Word
  handle : Nat
  asid : Nat
  ptbase : Word
  qtbase : Word
  opt : Word
  slot : Nat
  task : TaskInfo
  /-- A job-card tile: the queue and sequence number of its task. -/
  tile : Option (Nat × Nat)
  /-- The record read at its start, or the pattern of a fill, and the bytes moved so far. -/
  rec512 : Nat
  pos : Nat
  /-- Its place in the order in which the engine received its commands (R351, R352). -/
  seq : Nat
  /-- The index of the element of a gather or scatter that is being moved, once it has been read (R356). -/
  elem : Option Nat
  /-- The 4 KiB page of the destination in which the command last moved bytes (R468). -/
  page : Nat
  /-- A thread in user mode pushed it: its accesses are those of user mode (R268, R273). -/
  user : Bool
  deriving DecidableEq, Repr

/-- A result record to be placed (R238), with its binding. -/
structure ResultRec where
  lo : Word
  hi : Word
  cmd : Cmd
  deriving DecidableEq, Repr

/-- The translation that a command holds for the page it is in (R351): the command, which of its accesses uses it, the virtual
page, and the physical address of that page with its kind. -/
structure HeldPage where
  cmd : Nat
  role : Nat
  page : Nat
  base : Nat
  kind : Nat
  tracked : Bool
  deriving DecidableEq, Repr

/-- A hod engine (R351): queue, commands in flight in the order of their start, job-card tiles ahead of the queue,
completed records not yet placed, and records held by a full result queue. -/
structure EngineSt where
  cmds : List Cmd
  resv : Nat
  tiles : List Cmd
  fly : List Cmd
  done : List ResultRec
  stuck : List ResultRec
  /-- The number of the next command. -/
  next : Nat
  /-- The cycle at which the engine last moved a command, or work came to it when it had none (R428). -/
  since : Nat
  /-- The translations that its commands hold. -/
  pages : List HeldPage
  deriving DecidableEq, Repr

/-- A presentation head's own state beside its registers (R371, R372). -/
structure HeadSt where
  t0 : Nat
  deadline : Nat
  /-- The queues that the head raises now (R334): each from before a deadline until the head takes a frame. -/
  raised : List Nat
  taken : Nat
  repeated : Nat
  /-- Surface and size of the frame shown (hsurf, hsize), and its format (hctl.fmt). -/
  frame : Option (Word × Word)
  fmt : Nat
  target : Word
  usable : Bool
  deriving DecidableEq, Repr

/-- A move record of a page between devices (R288). -/
structure MoveRec where
  frame : Nat
  times : List Nat
  settledAt : Option Nat
  /-- Slots that have accessed the settled page remotely (R75). -/
  seen : List Nat
  deriving DecidableEq, Repr

/-- A host window write that the hub holds (R318, R469), with the tables of the binding it was accepted under (R388). -/
structure HeldWrite where
  port : Nat
  fn : Nat
  index : Nat
  desc : BitVec 512
  key : Nat
  since : Nat
  qtbase : Word
  ptbase : Word
  /-- Its queue-miss event has been posted (R318). -/
  posted : Bool
  deriving DecidableEq, Repr

/-- A translation that the translator keeps for a process, or has in progress (R410): the container as it was read, for
which its digest stands, split and cluster; the request and the slot that make it; the slots and requests that wait for it;
and the translation when it is ready. -/
structure Translation where
  asid : Nat
  container : List Byte
  split : Nat
  cluster : Nat
  /-- The slot that makes it, the address of its request and the request as it was read; and those that wait for it. -/
  maker : Nat × Word × Nat
  waiting : List (Nat × Word × Nat)
  out : Option (List Byte)
  deriving DecidableEq, Repr

/-- A held frame that FRSAVE has written to memory (R260): the split and segment count it was saved under, its entries, and the
reductions of the thread that had faulted (R449). -/
structure SavedFrame where
  split : Nat
  segs : Nat
  entries : List QEntry
  reds : List Red
  deriving DecidableEq, Repr

/-- The algorithms that the root offers (R397). -/
inductive Algorithm where
  | rsassa4096
  | sha512
  deriving DecidableEq, Repr

/-- What leaves the module: an MSI-X vector, an event posted to the host, a frame scanned out on a DisplayPort output, an answer
of the root over SPDM with what it states, a report over MCTP, a sector read by the host or a peer and whether it is poisoned,
the refusal of such a read, a flag message, a thread of a peer's launch that has been spawned or has ended (R318, R327, R330, R371, R372, R394, R397, R399, R426, R427). -/
inductive Output where
  | msix (port fn vector : Nat)
  | queueMiss (key : Nat)
  | frame (head out fmt : Nat) (surface size : Word)
  | spdm (request port : Nat) (algorithms : List Algorithm) (digests : List (BitVec 512)) (modctl : Option Word)
      (bytes : List Byte)
  | message (kind : Nat) (bytes : List Byte)
  | data (agent sector : Nat) (bytes : List Byte) (poisoned : Bool)
  | unsupported (agent addr : Nat)
  | flag (stream seq addr : Nat) (value : Word)
  | peerThread (peer launch : Nat) (ended : Bool)
  deriving DecidableEq, Repr

/-- A fault record's content (R424). -/
structure FaultRec where
  eaddr : Word
  einfo : Word
  epc : Word
  origin : Nat
  asid : Nat
  code : Nat
  flags : Nat
  task : Nat
  queue : Nat
  kind : Nat
  unit : Nat
  deriving DecidableEq, Repr

/-- What a step may move: a slot that issues, a step of the part itself, a store of a committed chunk that comes behind
one to a device register (R292), a store to a device register, the destruction of a process by system software, of which the
spec gives the effects and no step of the part (R54, R380, R410, R459), or the clock, behind the commits of a cycle (R293). -/
inductive Actor where
  | slot (k : Nat)
  | event (i : Instr)
  | store (cluster key kind : Nat) (bytes : List Byte)
  | reg (addr : Nat) (bytes : List Byte)
  | destroyed (asid : Nat)
  | clock
  deriving DecidableEq, Repr

/-- The N7. -/
structure State where
  slots : Store Slot
  cores : Store CoreSt
  clusters : Store ClusterSt
  dies : Store DieSt
  /-- Every byte of memory: key PA below 2^52, and 2^52 + cluster × 2^26 + offset for the scratchpad windows. -/
  mem : Store Byte
  dir : Store DirEnt
  moves : List MoveRec
  /-- Poisoned bytes (R427). -/
  poison : Store Bool
  /-- Device registers written and not at their reset value, by address (R268). -/
  dev : Store (Option Word)
  hmode : Store Word
  pool : Store Nat
  colour : Bool
  rdy : Word
  modctl : Word
  ctrs : Store (Option Ctr)
  queues : Store (Option QueueSt)
  launches : Store (Option Launch)
  procs : Store (Option Proc)
  reds : List Red
  replays : List Replay
  engines : Store EngineSt
  /-- The records of the result queues, oldest first, by process and handle (R233, R351). -/
  results : Store (List (Word × Word))
  heads : Store HeadSt
  heldWrites : List HeldWrite
  credits : List Credit
  translations : List Translation
  /-- The frames written by FRSAVE, by the number that their opaque bytes carry (R260). -/
  frames : Store (Option SavedFrame)
  /-- Last flag sequence number of each peer stream (R394). -/
  streams : Store Nat
  /-- The peer that each trained Birfel link reaches, by link 0 to 11 (R23), and peers that no link reaches (R482). -/
  links : Store (Option Nat)
  peersLost : Store Bool
  cecnt : Store Nat
  celast : Store Word
  retcnt : Store Nat
  railHold : Bool
  /-- Module power, package power and core-rail power of the last period of the slow loop (R382, R399). -/
  power : List Nat
  /-- The record of a power trip that the module controller keeps (R495). -/
  tripKept : Bool
  /-- Bits of rdy whose unit failed its bring-up (R389, R484), and bits that have set since reset (R390). -/
  absent : Word
  cameUp : Word
  /-- The cycle at which the bond fabric trained (R484). -/
  bondAt : Option Nat
  /-- The cycle of the last failure of a die's bond links, and of the drop of the last link to a peer (R479, R482). -/
  bondFailed : Store (Option Nat)
  peerDown : Store Nat
  /-- The records that reached each log last, by its address: their cycle, and the records in their order (R425). -/
  lately : Store (Nat × List FaultRec)
  /-- The firmware images that failed verification, as the root logged them (R396). -/
  rootLog : List Nat
  output : List Output
  /-- MSI-X vectors held until a host port trains (R483): port, function and vector. -/
  msixHeld : List (Nat × Nat × Nat)
  /-- Scalar cycles since bring-up. -/
  cycle : Nat
  /-- The model's own fields: agents due to move, next core of the barrel, the slot that issues, the numbers handed to
  free values and to launches. -/
  agenda : List Actor
  turn : Nat
  cur : Nat
  free : Nat
  nlaunch : Nat
  deriving DecidableEq, Repr

/-- Registers of a slot that has held no thread: zeros, which the spec does not state before a dispatch (log 2). -/
def Regs.zero : Regs := ⟨0, [], 0, 0, 0, 0, 0⟩

/-- System registers of a slot that has held no thread: status has ie = 1 (R71), pwbud is pwdef's reset value (R384); what
the spec does not state is zero, and pwreq level 5 in each domain (log 2). -/
def SysRegs.zero : SysRegs := ⟨4, 0, 0, 0, 0, 0, 0, 0, 0x16D, 0, 0x05000000, 0, 0, 0, 0, [], [], false, false⟩

/-- A vector context of zeros, every field of vstate clean (R72); log 2 names what the spec does not state. -/
def Vec.zero : Vec := ⟨0, 0, 0, 0x15, 32, [], [], 0, 0, 0, 0, 0, 0, 0, 0, []⟩

/-- A chunk that holds nothing. -/
def Chunk.empty : Chunk := ⟨0, none, [], [], [], [], [], false, false, false⟩

/-- No task. -/
def TaskInfo.none : TaskInfo := ⟨0, 0, 0, 0, 0, 1, 0, 0, .none⟩

/-- A slot that holds no thread. -/
def Slot.empty : Slot :=
  ⟨.empty, .zero, .zero, .zero, .empty, [], [], none, [], .none, none, none, [], none, false, none, 0, 0, false, false,
    .none, none, none, 0⟩

/-- A core that holds no context: all lanes live, no owner. -/
def CoreSt.reset : CoreSt :=
  ⟨none, none, 0xFFFFFFFF, 0xFFFFFFFF, false, 0xFF, [], [], 0, false, [], [], [], [], [], [], 0, [], [], 0, [], none, 0, none⟩

/-- A cluster right after reset: every cap at 0x16D, open (R384), and step 32 (DESIGN CHOICE, log 3). No slot has held the
protected place; the order of R62 then starts behind the cluster's slot 0 (DESIGN CHOICE, log 133). -/
def ClusterSt.reset : ClusterSt :=
  ⟨32, 0x16D, true, 0, false, false, 0, [], [], [], 0, 0, [], 0, 0, [], 0, [], [], [], none, 0⟩

/-- A die right after reset. -/
def DieSt.reset : DieSt := ⟨0, [], 0, none, false, [], true, [], [], 0⟩

/-- A sector that no agent caches. -/
def DirEnt.none : DirEnt := ⟨.I, [], .none⟩

/-- An inter-slot scalar queue that holds nothing. -/
def ScalarQ.empty : ScalarQ := ⟨[], 0⟩

/-- An inter-slot vector queue that holds nothing. -/
def VectorQ.empty : VectorQ := ⟨[]⟩

/-- An idle engine. -/
def EngineSt.idle : EngineSt := ⟨[], 0, [], [], [], [], 0, 0, []⟩

/-- A head that is not enabled. -/
def HeadSt.off : HeadSt := ⟨0, 0, [], 0, 0, none, 0, 0, false⟩

/-- What an unlisted byte of memory reads as. -/
def unlistedByte : Byte := 0

/-- Memory in its canonical form: addresses strictly rising, and no entry equal to what an unlisted address reads as. -/
def Memory.wf (m : Store Byte) : Bool := storeWf unlistedByte m

/-- The machine right after module reset: start-up mode, nothing ready, no thread, no queue, memory and scratchpads
zero (R389, R390, R398). -/
def State.reset : State where
  slots := []
  cores := []
  clusters := []
  dies := []
  mem := []
  dir := []
  moves := []
  poison := []
  dev := []
  hmode := []
  pool := []
  colour := false
  rdy := 0
  modctl := 1
  ctrs := []
  queues := []
  launches := []
  procs := []
  reds := []
  replays := []
  engines := []
  results := []
  heads := []
  heldWrites := []
  credits := []
  translations := []
  frames := []
  streams := []
  links := []
  peersLost := []
  cecnt := []
  celast := []
  retcnt := []
  railHold := false
  power := []
  tripKept := false
  absent := 0
  cameUp := 0
  bondAt := none
  bondFailed := []
  peerDown := []
  lately := []
  rootLog := []
  output := []
  msixHeld := []
  cycle := 0
  agenda := []
  turn := 0
  cur := 0
  free := 0
  nlaunch := 0

end Sys2Proof.Machine
end

