-- ==== Sys2Proof/Machine/Ops.lean ====
section
/-! DEFINITION. Machine/Ops.lean: named operations on slots, registers and memory, squashing a chunk, the fault records,
and taking an exception with the return from one (R253 to R255), each written once. -/

namespace Sys2Proof.Machine

/-! Units and their numbers (R17, R18). -/

/-- The core of a device slot. -/
def coreOf (k : Nat) : Nat := k / 16
/-- The cluster of a device slot. -/
def clusterOf (k : Nat) : Nat := k / 3072
/-- The compute die of a device slot. -/
def dieOf (k : Nat) : Nat := k / 9216
/-- The partition of a cluster (R19): 0 in a single device image. -/
def partOf (s : State) (c : Nat) : Nat := if s.modctl.getLsbD 2 && decide (12 ≤ c) then 1 else 0

/-- Slot `k`. -/
def State.slot (s : State) (k : Nat) : Slot := rd .empty s.slots k
/-- The state with slot `k` replaced. -/
def State.putSlot (s : State) (k : Nat) (x : Slot) : State := { s with slots := wr .empty s.slots k x }
/-- The state with slot `k` changed by `f`. -/
def State.onSlot (s : State) (k : Nat) (f : Slot → Slot) : State := s.putSlot k (f (s.slot k))
/-- The slot that issues. -/
def State.me (s : State) : Slot := s.slot s.cur
/-- The state with the issuing slot changed by `f`. -/
def State.onMe (s : State) (f : Slot → Slot) : State := s.onSlot s.cur f
/-- Slot `k` is back in the rotation. -/
def State.wake (s : State) (k : Nat) : State := s.onSlot k (fun x => { x with wait := .none })
/-- The slots that `f` names are back in the rotation. -/
def wakeWhere (s : State) (f : Nat → Slot → Bool) : State :=
  s.slots.foldl (fun t e => if f e.1 e.2 then t.wake e.1 else t) s
/-- Core `c`. -/
def State.core (s : State) (c : Nat) : CoreSt := rd .reset s.cores c
/-- The state with core `c` changed by `f`. -/
def State.onCore (s : State) (c : Nat) (f : CoreSt → CoreSt) : State :=
  { s with cores := wr .reset s.cores c (f (s.core c)) }
/-- Cluster `c`. -/
def State.cluster (s : State) (c : Nat) : ClusterSt := rd .reset s.clusters c
/-- The state with cluster `c` changed by `f`. -/
def State.onCluster (s : State) (c : Nat) (f : ClusterSt → ClusterSt) : State :=
  { s with clusters := wr .reset s.clusters c (f (s.cluster c)) }
/-- Compute die `d`. -/
def State.die (s : State) (d : Nat) : DieSt := rd .reset s.dies d
/-- The state with die `d` changed by `f`. -/
def State.onDie (s : State) (d : Nat) (f : DieSt → DieSt) : State :=
  { s with dies := wr .reset s.dies d (f (s.die d)) }
/-- The armed counter at an address, if any. -/
def State.ctr (s : State) (a : Nat) : Option Ctr := rd none s.ctrs a
/-- The state with the armed counter at `a` changed by `f`. -/
def State.onCtr (s : State) (a : Nat) (f : Ctr → Ctr) : State :=
  match s.ctr a with
  | some c => { s with ctrs := wr none s.ctrs a (some (f c)) }
  | none => s
/-- The queue of a process and index, if it is known to its home. -/
def State.queue (s : State) (key : Nat) : Option QueueSt := rd none s.queues key
/-- The state with a queue replaced. -/
def State.putQueue (s : State) (key : Nat) (q : Option QueueSt) : State :=
  { s with queues := wr none s.queues key q }
/-- The state with a known queue changed by `f`. -/
def State.onQueue (s : State) (key : Nat) (f : QueueSt → QueueSt) : State :=
  match s.queue key with
  | some q => s.putQueue key (some (f q))
  | none => s
/-- A launch by its number. -/
def State.launch (s : State) (n : Nat) : Option Launch := rd none s.launches n
/-- The state with launch `n` changed by `f`. -/
def State.onLaunch (s : State) (n : Nat) (f : Launch → Launch) : State :=
  match s.launch n with
  | some l => { s with launches := wr none s.launches n (some (f l)) }
  | none => s
/-- Engine `e`. -/
def State.engine (s : State) (e : Nat) : EngineSt := rd .idle s.engines e
/-- The state with engine `e` changed by `f`. -/
def State.onEngine (s : State) (e : Nat) (f : EngineSt → EngineSt) : State :=
  { s with engines := wr .idle s.engines e (f (s.engine e)) }

/-- The process of a queue's number (`queueKey`). -/
def keyAsid (key : Nat) : Nat := key / 65536 % 65536

/-- The number by which the model knows a result queue: process and handle. -/
def resultKey (asid handle : Nat) : Nat := asid * 2 ^ 32 + handle
/-- The records of a result queue. -/
def State.resultsOf (s : State) (key : Nat) : List (Word × Word) := rd [] s.results key
/-- The records of a result queue replaced. -/
def State.putResults (s : State) (key : Nat) (l : List (Word × Word)) : State := { s with results := wr [] s.results key l }
/-- hmode of the partition of cluster `c` (R285). -/
def hmodeAt (s : State) (c : Nat) : Word := rd 0 s.hmode (partOf s c)
/-- A field of hmode is set: the service is host-assisted (R285). -/
def assisted (s : State) (c field : Nat) : Bool := (hmodeAt s c).getLsbD field

/-! The scalar side's registers (R63, R64). -/

/-- Register `r` without the effects of a binding: zr reads zero. -/
def Regs.get (x : Regs) (r : Reg) : Word := if r = 31 then 0 else rd 0 x.s r.toNat
/-- A write of register `r`: discarded for zr; cdst names the register in either case (R63, R64). -/
def Regs.set (x : Regs) (r : Reg) (v : Word) : Regs :=
  { x with s := if r = 31 then x.s else wr 0 x.s r.toNat v, cdst := r }
/-- A write that leaves cdst as it is: a result that arrives, whose instruction set cdst at issue (R64). -/
def Regs.land (x : Regs) (r : Reg) (v : Word) : Regs :=
  { x with s := if r = 31 then x.s else wr 0 x.s r.toNat v }
/-- A write of predicate bit `r`. -/
def Regs.setP (x : Regs) (r : Reg) (v : Bool) : Regs :=
  { x with p := if v then x.p ||| (1#32 <<< r.toNat) else x.p &&& ~~~(1#32 <<< r.toNat) }
/-- Predicate bit `r`. -/
def Regs.getP (x : Regs) (r : Reg) : Bool := x.p.getLsbD r.toNat
/-- The registers with the pc moved on by `n` bytes. -/
def Regs.skip (x : Regs) (n : Nat) : Regs := { x with pc := x.pc + word n }

/-! Fields of status (R71). -/

/-- Supervisor mode. -/
def Slot.spv (x : Slot) : Bool := x.sys.status.getLsbD 0
/-- A light thread. -/
def Slot.light (x : Slot) : Bool := x.sys.status.getLsbD 4
/-- Interrupts and time slices are enabled. -/
def Slot.ie (x : Slot) : Bool := x.sys.status.getLsbD 2
/-- Migrate mode. -/
def Slot.mig (x : Slot) : Bool := x.sys.status.getLsbD 5
/-- A graphics task. -/
def Slot.gfx (x : Slot) : Bool := x.sys.status.getLsbD 6
/-- The address-space number (R70). -/
def Slot.asidN (x : Slot) : Nat := x.sys.asid.toNat % 65536

/-- status after a trap: spv to pspv, ie to pie, spv set, ie cleared (R71). -/
def statusTrap (w : Word) : Word :=
  (w &&& ~~~(0xF : Word)) ||| (if w.getLsbD 0 then 2 else 0) ||| (if w.getLsbD 2 then 8 else 0) ||| 1
/-- status after ERET: pspv to spv and pie to ie (R71). -/
def statusReturn (w : Word) : Word :=
  (w &&& ~~~(0x5 : Word)) ||| (if w.getLsbD 1 then 1 else 0) ||| (if w.getLsbD 3 then 4 else 0)

/-! Memory as bytes (R6, R268, R277). -/

/-- The key of a byte of a cluster's scratchpad window. -/
def winKey (cluster off : Nat) : Nat := 2 ^ 52 + cluster * 2 ^ 26 + off
/-- `n` bytes of memory from a key on, as a number. -/
def State.le (s : State) (key n : Nat) : Nat := ofLe (rdMany unlistedByte s.mem key n)
/-- Bytes written to memory from a key on; a poisoned 64-bit word that is written in full is whole again (R427). -/
def State.putBytes (s : State) (key : Nat) (bs : List Byte) : State :=
  { s with
    mem := wrMany unlistedByte s.mem key bs
    poison := delWhere (fun a => decide (key ≤ a / 8 * 8 ∧ a / 8 * 8 + 8 ≤ key + bs.length)) s.poison }
/-- `n` bytes of a value written to memory. -/
def State.putLe (s : State) (key n v : Nat) : State := s.putBytes key (toLe n v)

/-- The sectors that `n` bytes from a key on meet. -/
def sectorsOf (key n : Nat) : List Nat := if n = 0 then [] else upFrom (key / 64) ((key + n - 1) / 64 - key / 64 + 1)

/-! Event counters (R75). -/

/-- One occurrence of event `ev`, `n` times over, under a privilege, in the evc of one evsel, when it names the event. -/
def countOne (spv : Bool) (ev n : Nat) (y : SysRegs) (e : Nat × Word) : SysRegs :=
  if e.2.getLsbD 18 && (if spv then e.2.getLsbD 17 else e.2.getLsbD 16) && decide (fieldOf e.2 7 0 = ev ∧ ev ≠ 0) then
    let old := rd 0 y.evc e.1
    { y with
      evc := wr 0 y.evc e.1 (old + word n)
      evsel := if 2 ^ 64 ≤ old.toNat + n then wr 0 y.evsel e.1 (e.2 ||| 0x80000) else y.evsel }
  else y

/-- One occurrence of event `ev`, `n` times over, under a privilege, in the evc that name it. -/
def countAs (x : Slot) (spv : Bool) (ev n : Nat) : Slot :=
  { x with sys := x.sys.evsel.foldl (countOne spv ev n) x.sys }

/-- One occurrence of event `ev`, `n` times over, under the slot's privilege. -/
def countEvent (x : Slot) (ev n : Nat) : Slot := countAs x x.spv ev n

/-- One occurrence of event `ev` in slot `k`. -/
def State.count (s : State) (k ev : Nat) : State := s.onSlot k (fun x => countEvent x ev 1)

/-! Physical ranges (R268). -/

/-- A physical address lies in the populated tier 0 range of some compute die. -/
def inTier0 (pa : Nat) : Bool := decide (pa < 8 * 0x800000000 ∧ pa % 0x800000000 < 16000000000)
/-- A physical address lies in the populated tier 1 range of some compute die. -/
def inTier1 (pa : Nat) : Bool :=
  decide (0x100000000000 ≤ pa ∧ pa < 0x100000000000 + 8 * 0x8000000000 ∧
    (pa - 0x100000000000) % 0x8000000000 < 256000000000)
/-- A physical address lies in the device register range. -/
def inDevice (pa : Nat) : Bool := decide (0xF00000000000 ≤ pa ∧ pa < 0x1000000000000)
/-- A physical address lies behind a host port. -/
def inTier2 (pa : Nat) : Bool := decide (0x2000000000000 ≤ pa ∧ pa < 0x4000000000000)
/-- A physical address lies in a peer's tier 0 or tier 1 range. -/
def inTier3 (pa : Nat) : Bool :=
  decide (0x8000000000000 ≤ pa ∧ pa < 0x10000000000000) &&
    (inTier0 (pa % 0x200000000000) || inTier1 (pa % 0x200000000000))
/-- The address lies in a populated range of the tier. -/
def inTier (tier pa : Nat) : Bool :=
  match tier with
  | 0 => inTier0 pa
  | 1 => inTier1 pa
  | 2 => inTier2 pa
  | _ => inTier3 pa
/-- The home die of a physical address; the hub for device registers is die 8 (R268). -/
def homeOf (pa : Nat) : Nat :=
  if inTier0 pa then pa / 0x800000000
  else if inTier1 pa then (pa - 0x100000000000) / 0x8000000000
  else if inDevice pa then 8
  else (pa / 4096) % 8

/-! Giving back reserved capacity (R231, R295, R340). -/

/-- `n` units given to a counter from a cluster: to its allowance when it holds one that covers them and no take is
parked, and otherwise on the way to the home (R340, R502). -/
def giveUnits (s : State) (cluster ctr n : Nat) : State :=
  match s.ctr ctr with
  | none => s
  | some c =>
    match ((s.cluster cluster).allow.find? (fun e => e.1 == ctr)) with
    | some (_, a, g) =>
      if a + n ≤ g ∧ c.parked = [] then
        s.onCluster cluster (fun y => { y with allow := y.allow.filter (fun e => !(e.1 == ctr)) ++ [(ctr, a + n, g)] })
      else s.onCtr ctr (fun c => { c with gives := c.gives ++ [(cluster, n)] })
    | none => s.onCtr ctr (fun c => { c with gives := c.gives ++ [(cluster, n)] })

/-- A reserved push that will not happen gives its place back (R231). -/
def unreserve (s : State) (cluster : Nat) : PushTo → State
  | .data _ ctr => giveUnits s cluster ctr 1
  | .scalarQ c i _ => s.onCore c (fun y =>
      let q := rd .empty y.sq i
      { y with sq := wr .empty y.sq i { q with resv := q.resv - 1 } })
  | .command e _ place => if place then s.onEngine e (fun y => { y with resv := y.resv - 1 }) else s

/-- The reserved pushes of a queue entry. -/
def QEntry.pushes (e : QEntry) : List PushTo :=
  e.dst.filterMap (fun d => match d with | .push _ q => some q | .gone _ _ q => some q | .reg _ => none)

/-- A release that does not happen gives back what it reserved (R231). -/
def unrelease (cluster : Nat) (s : State) : Release → State
  | .push q _ => unreserve s cluster q
  | .command e _ _ _ => s.onEngine e (fun y => { y with resv := y.resv - 1 })
  | .task _ _ ctr _ => giveUnits s cluster ctr 1
  | .spawn core _ _ _ => s.onCore core (fun y => { y with runResv := y.runResv - 1 })
  | .gone _ q => unreserve s cluster q

/-- A deferred effect that is discarded gives back what it reserved (R231, R295). -/
def discardDeferred (cluster : Nat) (s : State) : Deferred → State
  | .vec e => e.pushes.foldl (fun s q => unreserve s cluster q) s
  | .release r => unrelease cluster s r
  | .redadd _ _ _ => s

/-- The engines of command ports that hold a low dword waiting for its high dword. -/
def lowEngines (ports : Store (Option Port)) : List Nat :=
  ports.filterMap (fun e => e.2.bind (fun p => p.low.map (fun _ => p.base)))

/-- A discarded low dword gives back the command place it took, and one whose high dword is discarded keeps its own
(R236). -/
def discardLows (s : State) (now before : Store (Option Port)) : State :=
  let s1 := (lowEngines now).foldl (fun s e => s.onEngine e (fun y => { y with resv := y.resv - 1 })) s
  (lowEngines before).foldl (fun s e => s.onEngine e (fun y => { y with resv := y.resv + 1 })) s1

/-- A waiting slot's request withdrawn before it was linearised (R344, R502). -/
def withdraw (s : State) (k : Nat) : State :=
  { s with ctrs := s.ctrs.map (fun e => (e.1, e.2.map (fun c => { c with
      asked := c.asked.filter (fun r => !(r.slot == k))
      fifo := c.fifo.filter (fun r => !(r.slot == k && r.kind != 7))
      parked := c.parked.filter (fun r => !(r.slot == k)) }))) }

/-- The home lends no allowance: the counter's home is a peer device's (R338), host-assisted rebalance (R345), or a take is
parked (R502). -/
def noLending (s : State) (ctr : Nat) (c : Ctr) : Bool :=
  decide (c.parked ≠ []) || inTier3 ctr || assisted s (homeOf ctr % 8 * 3) 3

/-- A cluster's entry set, most recently used last; a full table returns its least recently used entry to that
counter's home (R337). -/
def putAllow (s : State) (cluster ctr a g : Nat) : State :=
  let l := (s.cluster cluster).allow.filter (fun e => !(e.1 == ctr))
  if 1024 ≤ l.length then
    let s1 := s.onCluster cluster (fun y => { y with allow := l.drop 1 ++ [(ctr, a, g)] })
    (l.take 1).foldl (fun s (e : Nat × Nat × Nat) =>
      s.onCtr e.1 (fun c => { c with away := c.away ++ [(cluster, some e.2.1)] })) s1
  else s.onCluster cluster (fun y => { y with allow := l ++ [(ctr, a, g)] })

/-- Units granted to an instruction that does not complete are added to its cluster's allowance (R344); where the cluster has no
entry and the home lends none, or a round runs, they travel to the home as a give. -/
def restoreUnits (s : State) (cluster ctr n : Nat) : State :=
  match s.ctr ctr with
  | none => s
  | some c => match (s.cluster cluster).allow.find? (fun e => e.1 == ctr) with
    | some (_, a, g) => putAllow s cluster ctr (a + n) (max g (a + n))
    | none =>
      if noLending s ctr c || c.recalling then giveUnits s cluster ctr n
      else putAllow (s.onCtr ctr (fun c => { c with holders := addOnce c.holders cluster })) cluster ctr n n

/-- What homes have granted to an instruction that does not complete goes back, and its request is withdrawn (R231,
R344). -/
def dropRequests (s : State) (k : Nat) : State :=
  let x := s.slot k
  let s1 := match x.answer with
    | some a => if a.units = 0 then s else restoreUnits s (clusterOf k) a.ctr a.units
    | none => s
  let s2 := match x.granted with
    | some c => restoreUnits s1 (clusterOf k) c 1
    | none => s1
  (withdraw s2 k).onSlot k (fun y => { y with answer := none, granted := none })

/-- The home has applied the counter instruction that the slot executes (R342). -/
def Slot.answered (x : Slot) : Bool := match x.answer with | some a => a.applied | none => false

/-- A squash of slot `k`'s chunk (R295): the checkpoint comes back, stores and deferred effects go, the event counts. The
fourth squash in a row qualifies the slot for protection, and a squashed protected chunk re-runs one instruction to
a chunk (R62, R296). -/
def squash (s : State) (k : Nat) : State :=
  let x := s.slot k
  let s1 := x.chunk.deferred.foldl (discardDeferred (clusterOf k)) (dropRequests s k)
  let s2 := if x.chunk.count = 0 then s1 else discardLows s1 x.ports x.chunk.ckptPorts
  (s2.onSlot k (fun y => { y with
    regs := x.chunk.ckpt.getD y.regs
    ports := if x.chunk.count = 0 then y.ports else x.chunk.ckptPorts
    chunk := .empty
    wait := .none
    squashes := y.squashes + 1
    single := if x.chunk.prot then max y.single x.chunk.count else y.single
    qualified := y.qualified || decide (4 ≤ y.squashes + 1) })).count k 4

/-- Whether two sets of sectors share a signature bit (R292). -/
def conflict (xs ys : List Nat) : Bool :=
  xs.any (fun x => ys.any (fun y => x == y || Config.sigHash x == Config.sigHash y))

/-- A chunk of one instruction that waits for its commit: it always commits (R296). -/
def Chunk.sure (c : Chunk) : Bool := c.closed && c.count == 1

/-- The slots of the machine that hold an open chunk whose reads meet the sectors, in a cluster that `f` names. -/
def readersOf (s : State) (f : Nat → Bool) (sectors : List Nat) : List Nat :=
  (s.slots.filter (fun e => f (clusterOf e.1) && !e.2.chunk.sure && conflict e.2.chunk.rset sectors)).map Prod.fst

/-- The squashes that a write from outside the chunks of the named clusters causes (R294). -/
def squashReaders (s : State) (f : Nat → Bool) (sectors : List Nat) : State :=
  (readersOf s f sectors).foldl squash s

/-- The cached entries that `gone` names leave the TLBs and walk caches of the clusters that `f` names. -/
def dropEntries (s : State) (f : Nat → Bool) (gone : TlbEntry → Bool) : State :=
  if s.cores.any (fun c => c.2.tlb.any gone) || s.clusters.any (fun c => c.2.walk.any gone) then
    { s with
      cores := s.cores.foldl (fun m c => if f (c.1 / 192) then wr .reset m c.1 { c.2 with tlb := c.2.tlb.filter (fun e => !gone e) }
        else m) s.cores
      clusters := s.clusters.foldl (fun m c => if f c.1 then wr .reset m c.1 { c.2 with walk := c.2.walk.filter (fun e => !gone e) }
        else m) s.clusters }
  else s

/-- A cached translation goes when its entry is written (R276). -/
def dropTranslations (s : State) (key n : Nat) : State :=
  dropEntries s (fun _ => true) (fun e => decide (e.pte + 8 > key ∧ e.pte < key + n))

/-- A cached entry goes with its cluster's share of the sector that holds it (R276). -/
def dropShares (s : State) (f : Nat → Bool) (sec : Nat) : State := dropEntries s f (fun e => e.pte / 64 == sec)

/-- A write performed by a home, an engine, a host or another agent outside every cluster's chunks: the sectors leave
every cluster's cache and stay, dirty, in the die cache; every reading chunk is squashed, and translations that used the
bytes go (R276, R281, R294). -/
def outsideWrite (s : State) (key : Nat) (bs : List Byte) : State :=
  let secs := sectorsOf key bs.length
  let s1 := squashReaders s (fun _ => true) secs
  let s2 := { s1 with dir := s1.dir.map (fun (e : Nat × DirEnt) => if secs.contains e.1 then (e.1, ⟨.I, [], some true⟩) else e) }
  secs.foldl (fun s sec => dropShares s (fun _ => true) sec) (s2.putBytes key bs)

/-! Causes and records (R421 to R426). -/

/-- An exception: its code, eaddr and einfo. -/
structure Cause where
  code : Nat
  addr : Word
  info : Word
  deriving DecidableEq, Repr

/-- einfo.wr of an access (R421): for a permission violation only with the reasons of writing and for an AMO (R445). -/
def wrOf (code reason : Nat) (write : Bool) : Bool :=
  write && (code != 0x16 || reason == 3 || reason == 6 || reason == 7)

/-- einfo of a precise cause (R421). -/
def einfoOf (reason level : Nat) (wr : Bool) (aux : Nat) : Word :=
  word (reason + level * 256 + b2n wr * 2048 + (aux % 2 ^ 32) * 2 ^ 32)

/-- The 64 bytes of a record (R424). -/
def recordBytes (r : FaultRec) (time seq : Nat) : List Byte :=
  toLe 8 r.eaddr.toNat ++ toLe 8 r.einfo.toNat ++ toLe 8 r.epc.toNat ++ toLe 4 r.origin ++ toLe 2 r.asid ++
  toLe 1 r.code ++ toLe 1 r.flags ++ toLe 4 r.task ++ toLe 4 r.queue ++ toLe 8 time ++ toLe 8 seq ++
  toLe 8 (r.kind + r.unit * 256)

/-- The reset value of a plain device register: agelim and sctl of a die (R315), pwdef of a partition (R384), and zero
for the others. -/
def devReset (a : Nat) : Word :=
  if a = 0xF00000030008 ∨ a = 0xF00000031008 then 0x05000000
  else if 0xF00000010000 ≤ a ∧ a < 0xF00000018000 then
    (if a % 0x1000 = 0 then 0x000A0A0A0A0A0A0A else if a % 0x1000 = 8 then 0x1408 else 0)
  else 0
/-- The value of a plain device register. -/
def State.dreg (s : State) (a : Nat) : Word := (rd none s.dev a).getD (devReset a)
/-- The state with a plain device register written. -/
def State.putDreg (s : State) (a : Nat) (v : Word) : State :=
  { s with dev := wr none s.dev a (if v = devReset a then none else some v) }

/-- Address of dlbase; dlctl follows (R426). -/
def dlbaseA : Nat := 0xF00000050000
/-- Address of clbase of a process; clctl follows (R426). -/
def clbaseA (asid : Nat) : Nat := 0xF00000100000 + 16 * asid

/-- An MSI-X vector of a function raised at its host port (R386), at the other port when that one is down, or held until one
trains (R483). A number above 63 names no vector of the function, and raises none (DESIGN CHOICE, log 183). -/
def raiseMsix (s : State) (fn : Nat × Nat) (vector : Nat) : State :=
  if 64 ≤ vector then s
  else if s.rdy.getLsbD (40 + fn.1) then { s with output := s.output ++ [.msix fn.1 fn.2 vector] }
  else if s.rdy.getLsbD (41 - fn.1) then { s with output := s.output ++ [.msix (1 - fn.1) fn.2 vector] }
  else { s with msixHeld := s.msixHeld ++ [(fn.1, fn.2, vector)] }

/-- The host port and function of a process: the first function bound to it (R388). -/
def portOfProc (s : State) (asid : Nat) : Nat × Nat :=
  match s.dev.find? (fun e => decide (0xF00000080000 ≤ e.1 ∧ e.1 < 0xF000000A0000 ∧ e.1 % 32 = 0) &&
      (match e.2 with | some v => v.getLsbD 16 && decide (fieldOf v 15 0 = asid) | none => false)) with
  | some e => ((e.1 - 0xF00000080000) / 0x10000, (e.1 - 0xF00000080000) % 0x10000 / 32)
  | none => (0, 0)

/-- A record takes its place among those that reached its log in the same cycle: slots in their order, and units behind them
(R425). -/
def placeRec (r : FaultRec) (l : List FaultRec) : List FaultRec :=
  let after (x : FaultRec) : Bool := decide (r.origin < x.origin)
  l.takeWhile (fun x => !after x) ++ [r] ++ l.dropWhile (fun x => !after x)

/-- The records that reached a log in this cycle, in their places. -/
def lateRecs (s : State) (base : Nat) : List FaultRec :=
  let e := rd (0, []) s.lately base
  if e.1 = s.cycle then e.2 else []

/-- Records written to their places of a ring, from record number `w` on. -/
def writeRecs (base entries time : Nat) : State → Nat → List FaultRec → State
  | s, _, [] => s
  | s, w, r :: rest => writeRecs base entries time (outsideWrite s (base + 64 + 64 * (w % entries)) (recordBytes r time w)) (w + 1) rest

/-- A record written to one ring (R425): only while a place is free, else the overflow count grows. -/
def ringWrite (s : State) (base entries : Nat) (r : FaultRec) : State :=
  if base = 0 then s else
  let w := s.le base 8
  let rcount := s.le (base + 8) 8
  if w - rcount < entries then
    let late := lateRecs s base
    let s1 := writeRecs base entries (s.cycle / 16) s (w - late.length) (placeRec r late)
    outsideWrite { s1 with lately := wr (0, []) s1.lately base (s.cycle, placeRec r late) } base (toLe 8 (w + 1))
  else outsideWrite s (base + 16) (toLe 8 (s.le (base + 16) 8 + 1))

/-- A fault record (R424 to R426): to the log of its context and to the log of the device, which raises its vector for
flag bits 1 and 3 and when the count passes half of the entries beyond the read count. -/
def logRecord (s : State) (r : FaultRec) : State :=
  let s1 := ringWrite s (s.dreg (clbaseA r.asid)).toNat (fieldOf (s.dreg (clbaseA r.asid + 8)) 15 0 + 1) r
  let dl := (s1.dreg dlbaseA).toNat
  let ctl := s1.dreg (dlbaseA + 8)
  let entries := fieldOf ctl 15 0 + 1
  let s2 := ringWrite s1 dl entries r
  if dl = 0 then s2 else
  let used := s2.le dl 8 - s2.le (dl + 8) 8
  let before := s1.le dl 8 - s1.le (dl + 8) 8
  if r.flags.testBit 1 || r.flags.testBit 3 || decide (2 * used > entries ∧ ¬ 2 * before > entries) then
    raiseMsix s2 (b2n (ctl.getLsbD 32), 0) (fieldOf ctl 31 16)
  else s2

/-- A record of an event that no slot takes (R423). -/
def eventRecord (s : State) (asid code reason : Nat) (addr : Word) (flags kind unit : Nat) (t : TaskInfo) : State :=
  logRecord s ⟨addr, word reason, 0, 0xFFFFFFFF, asid, code, flags, t.index, t.queue, kind, unit⟩

/-! Taking an exception and returning from one (R253, R255). -/

/-- The open chunk closes; its commit is requested (R290). -/
def Slot.close (x : Slot) : Slot := { x with chunk := { x.chunk with closed := true } }

/-- Results that have arrived are written (R45). -/
def landArrivals (x : Slot) : Slot :=
  { x with
    regs := x.arrivals.foldl (fun r a => match a.1 with | .reg d => r.land d a.2 | _ => r) x.regs
    arrivals := x.arrivals.filter (fun a => match a.1 with | .reg _ => false | _ => true) }

/-- The data of an outstanding load or atomic is written (R43). -/
def landData (x : Slot) : Slot :=
  match x.wait with
  | .loadData d v _ => { x with regs := x.regs.land d v, wait := .none }
  | _ => x

/-- The undispatched entries become the held frame, with vl and vtype captured (R253, R436). -/
def holdFrame (x : Slot) : Slot :=
  { x with
    vq := []
    held := (x.held ++ x.vq).map (fun e => match e.cap with
      | some _ => e
      | none => { e with cap := some (x.vec.vl, x.vec.vtype) }) }

/-- The exception registers, status and pc of a trap (R253 steps 4 to 6). -/
def trapRegs (x : Slot) (c : Cause) (epc : Word) : Slot :=
  { x with
    sys := { x.sys with
      epc := epc, ecause := word c.code, eaddr := c.addr, einfo := c.info, status := statusTrap x.sys.status }
    regs := { x.regs with pc := x.sys.svec }
    wait := .none
    fetchLine := none }

/-- The trap entry of a slot whose chunk holds nothing (R253): the vector unit stops, arrived results land, the frame is
held, the registers are written; a cause of 0x10 or above is logged (R423). Bits [63:8] of einfo are zero for 0x10, 0x11 and a
precise 0x12 (R432), also where R421's field held would be set (DESIGN CHOICE, log 182). -/
def takeTrap (s : State) (k : Nat) (c : Cause) (epc : Word) (precise : Bool) : State :=
  let s := dropRequests s k
  let x := holdFrame (landArrivals (landData (s.slot k)))
  let info := if 0x13 ≤ c.code ∧ precise then
      c.info ||| (if x.held = [] then 0 else 0x2000) else c.info
  let c' : Cause := { c with info := info }
  let s1 := s.putSlot k (trapRegs x c' epc)
  if 0x10 ≤ c.code then
    logRecord s1 ⟨c'.addr, c'.info, epc, k, x.asidN, c.code, b2n precise, x.task.index, x.task.queue, 0, 0⟩
  else s1

/-- A precise cause of the issuing slot's instruction (R253 step 1): the open chunk commits first and the trap is taken
when execution reaches it again; with no open chunk it is taken at once. -/
def raise (s : State) (c : Cause) (epc : Word) : State :=
  if s.me.chunk.count = 0 then takeTrap s s.cur c epc true else s.onMe Slot.close

/-- Two records of what a thread runs for are of one thread: also before and after a trap of its resume task (R471). -/
def sameThread (a b : TaskInfo) : Bool := decide ({ a with stuck := none } = { b with stuck := none })

/-- A reduction of the thread in a slot has faulted, and is part of the thread's held frame (R449). -/
def redHeld (x : Slot) (r : Red) : Bool := r.held && sameThread r.task x.task && decide (r.asid = x.asidN)

/-- The faulted reductions of the thread in a slot perform again (R449, R456). -/
def resumeReds (s : State) (k : Nat) : State :=
  { s with reds := s.reds.map (fun r => if redHeld (s.slot k) r then { r with slot := k, held := false } else r) }

/-- An entry joins the vector instruction queue at a cycle. -/
def Slot.enqueue (x : Slot) (now : Nat) (e : QEntry) : Slot :=
  { x with vq := x.vq ++ [e], vqSince := if x.vq = [] then now else x.vqSince }

/-- The return from an exception (R255 steps 2 to 4): status is restored, the pc is epc, the held frame resumes. -/
def Slot.eret (now : Nat) (x : Slot) : Slot :=
  { x with
    sys := { x.sys with status := statusReturn x.sys.status, leaseSaved := false }
    regs := { x.regs with pc := x.sys.epc }
    vq := x.held ++ x.vq
    held := []
    vqSince := now
    fetchLine := none }

end Sys2Proof.Machine
end

