-- ==== Sys2Proof/Machine/Mmu.lean ====
section
/-! DEFINITION. Machine/Mmu.lean: the physical ranges of R268, the walk and permissions of R269 to R275, translation
caching (R276), the directory (R281), untracked copies (R282), frame recalls (R453, R454), windows (R277, R278), discarded
pages (R286, R392) and aliases (R283). -/

namespace Sys2Proof.Machine

/-! Ranges of leaves (R268). -/

/-- The device range of the tier that holds the address: what a leaf must lie wholly in. -/
def rangeOf (pa : Nat) : Nat :=
  if inDevice pa then 1000
  else if inTier0 pa then pa / 0x800000000
  else if inTier1 pa then 100 + (pa - 0x100000000000) / 0x8000000000
  else if inTier2 pa then 200 + pa / 0x1000000000000
  else if inTier3 pa then 300 + 256 * (pa / 0x200000000000) + homeOf (pa % 0x200000000000) +
    (if inTier1 (pa % 0x200000000000) then 100000 else 0)
  else 2000000 + pa

/-- The first byte of `n` that is marked as poisoned (R427). -/
def badMark (s : State) (key n : Nat) : Option Nat :=
  (s.poison.find? (fun e => decide (key ≤ e.1 ∧ e.1 < key + n))).map Prod.fst

/-- An address is homed on an unreachable die (R479). -/
def homeLost (s : State) (pa : Nat) : Bool := decide (pa < 2 ^ 52 ∧ homeOf pa < 8) && !(s.die (homeOf pa)).reachable

/-- The first poisoned byte of `n`: one that is marked, or one homed on an unreachable die (R427, R479). -/
def badByte (s : State) (key n : Nat) : Option Nat :=
  match badMark s key n with
  | some a => some a
  | none => if homeLost s key then some key else none

/-- No route leads to an address behind a peer's links or a host port (R482, R483). -/
def routeLost (s : State) (pa : Nat) : Bool :=
  if inTier3 pa then rd false s.peersLost ((pa - 0x8000000000000) / 0x200000000000)
  else inTier2 pa && !s.rdy.getLsbD (40 + pa / 2 ^ 48 % 2)

/-- An access to the address finds no home: no route leads there, or the home's die is unreachable. -/
def lostPlace (s : State) (pa : Nat) : Bool := routeLost s pa || homeLost s pa

/-- An uncorrectable error, or a lost route, is a device fault of the process that met it (R428). -/
def faultOf (s : State) (asid key : Nat) : State :=
  { s with agenda := .event (.uncorrectedError asid 1 key) :: s.agenda }

/-! Modes under which a frame is cached (R283). -/

/-- Some line of the 4 KiB frame is cached tracked: an agent or the die cache holds it (R281). -/
def cachedTracked (s : State) (frame : Nat) : Bool :=
  s.dir.any (fun e => decide (e.1 / 64 = frame))
/-- Some line of the 4 KiB frame is cached untracked. -/
def cachedUntracked (s : State) (frame : Nat) : Bool :=
  s.clusters.any (fun c => c.2.l1u.any (fun u => u.sector / 64 == frame)) ||
  s.dies.any (fun d => d.2.dcu.any (fun u => u.sector / 64 == frame))

/-! The walk (R269 to R275). -/

/-- What an access needs of a page (R273). -/
structure Want where
  read : Bool
  write : Bool
  sampler : Bool
  fetch : Bool
  user : Bool
  /-- A unit of the part makes it: no slot's TLB takes part. -/
  unit : Bool := false
  deriving DecidableEq, Repr

/-- A leaf found by a walk: its entry's address and value, its level, and the physical address of the access. -/
structure Leaf where
  pteA : Nat
  pte : Nat
  level : Nat
  pa : Nat
  /-- Addresses of the pointer entries on the way. -/
  path : List Nat
  deriving DecidableEq, Repr

/-- A result, or a cause with its reason and level (R421). -/
inductive Found (α : Type) where
  | ok (a : α)
  | bad (code reason level : Nat)
  deriving DecidableEq, Repr

/-- A virtual address is canonical (R267). -/
def canonical (va : Word) : Bool := decide (va.toNat / 2 ^ 56 = 0 ∨ va.toNat / 2 ^ 56 = 255)

/-- Bytes that a leaf maps at a size code (R271). -/
def leafBytes (size : Nat) : Nat :=
  match size with
  | 0 => 2 ^ 12
  | 1 => 2 ^ 16
  | 2 => 2 ^ 21
  | _ => 2 ^ 30

/-- The checks of a leaf entry (R272 reasons 4 and 5): level and size, w without r, alignment, populated range. -/
def leafFault (pte level idx : Nat) : Option Nat :=
  let size := bits pte 14 13
  let frame := bits pte 55 16
  let base := if size = 1 then frame - idx % 16 else frame
  let bytes := leafBytes size
  if level < 2 ∨ (level = 2 ∧ size ≠ 3) ∨ (level = 3 ∧ size ≠ 2) ∨ (level = 4 ∧ 1 < size) ∨
      (bit pte 2 = true ∧ bit pte 1 = false) then some 4
  else if (size = 1 ∧ frame % 16 ≠ idx % 16) ∨ (base * 4096) % bytes ≠ 0 then some 5
  else if rangeOf (base * 4096) ≠ rangeOf (base * 4096 + bytes - 1) then some 5
  else if inDevice (base * 4096) then none
  else if inTier (bits pte 12 11) (base * 4096) then none else some 5

/-- The walk from a table of level `4 - fuel` (R272). -/
def walk (s : State) (va : Nat) : Nat → Nat → List Nat → Found Leaf
  | table, fuel, path =>
    let level := 4 - fuel
    let idx := (va >>> (12 + 9 * fuel)) % 512
    let a := table * 4096 + 8 * idx
    if ¬ (inTier0 (table * 4096) = true ∨ inTier1 (table * 4096) = true) ∨ cachedUntracked s table = true then
      .bad 0x14 6 level
    else
      let pte := s.le a 8
      if bit pte 0 = false then .bad 0x14 2 level
      else if bits pte 63 56 ≠ 0 ∨ bit pte 15 = true then .bad 0x14 3 level
      else if bits pte 3 1 = 0 then
        if pte - 1 ≠ bits pte 55 16 * 65536 then .bad 0x14 3 level
        else match fuel with
          | 0 => .bad 0x14 4 level
          | f + 1 => walk s va (bits pte 55 16) f (path ++ [a])
      else match leafFault pte level idx with
        | some r => .bad 0x14 r level
        | none =>
          let size := bits pte 14 13
          let base := if size = 1 then bits pte 55 16 - idx % 16 else bits pte 55 16
          .ok ⟨a, pte, level, base * 4096 + va % leafBytes size, path⟩
termination_by structural _ fuel _ => fuel

/-- The addresses of the entries that a walk from a table of level `4 - fuel` reads. -/
def walkReads (s : State) (va : Nat) : Nat → Nat → List Nat
  | table, 0 => [table * 4096 + 8 * ((va >>> 12) % 512)]
  | table, f + 1 =>
    let a := table * 4096 + 8 * ((va >>> (12 + 9 * (f + 1))) % 512)
    let pte := s.le a 8
    a :: (if bit pte 0 = true ∧ bits pte 3 1 = 0 then walkReads s va (bits pte 55 16) f else [])
termination_by structural _ fuel => fuel

/-- Poisoned entries that a walk of a process reads are a device fault of it (R427, R428). -/
def entriesPoisoned (s : State) (asid : Nat) (as : List Nat) : State :=
  match as.findSome? (fun a => badByte s a 8) with
  | some a => faultOf s asid a
  | none => s

/-- The permission checks, in the order of R273 (reasons of R444 and R445). -/
def permFault (l : Leaf) (w : Want) : Option (Nat × Nat) :=
  if w.fetch then
    if bit l.pte 3 = false then some (0x15, 10)
    else if w.user = true ∧ (bit l.pte 4 = false ∨ inDevice l.pa = true) then some (0x15, 11)
    else none
  else if w.user = true ∧ (bit l.pte 4 = false ∨ inDevice l.pa = true) then some (0x16, 1)
  else if w.read = true ∧ bit l.pte 1 = false then some (0x16, 2)
  else if w.write = true ∧ bit l.pte 2 = false then some (0x16, 3)
  else if w.sampler = true ∧ bit l.pte 10 = false then some (0x16, 4)
  else none

/-- A translation of a canonical address outside the window region: walk, host-assisted bits (R272 reason 7),
permissions. -/
def translate (s : State) (ptbase va : Word) (pgf : Bool) (w : Want) : Found Leaf :=
  match walk s va.toNat (bits ptbase.toNat 51 12) 4 [] with
  | .bad c r l => .bad (if w.fetch then 0x15 else c) r l
  | .ok l =>
    if pgf = true ∧ (bit l.pte 7 = false ∨ (w.write = true ∧ bit l.pte 8 = false)) then
      .bad (if w.fetch then 0x15 else 0x14) 7 l.level
    else match permFault l w with
      | some (c, r) => .bad c r 0
      | none => .ok l

/-- The page entry a cached translation is kept under (R276): page base in units of its size. -/
def tlbEntryOf (asid : Nat) (va : Word) (l : Leaf) : TlbEntry :=
  ⟨asid, va.toNat / leafBytes (bits l.pte 14 13), bits l.pte 14 13, l.pteA⟩

/-! The directory, one request at the home at a time (R281). Agents 0 to 23 are clusters, 24 the host, 25 the peers. -/

/-- The entry of a sector. -/
def State.dirOf (s : State) (sec : Nat) : DirEnt := rd .none s.dir sec
/-- A read by an agent: the die cache holds the sector then, and the data of a modified one is written into it. -/
def dirRead (s : State) (sec agent : Nat) : State :=
  let e := s.dirOf sec
  let home := some (e.home.getD false)
  let e' : DirEnt := match e.st with
    | .I => ⟨.E, [agent], home⟩
    | .S => ⟨.S, addOnce e.sharers agent, home⟩
    | .E => if e.sharers.contains agent then e else ⟨.S, e.sharers ++ [agent], home⟩
    | .M => if e.sharers.contains agent then e else ⟨.S, e.sharers ++ [agent], some true⟩
  { s with dir := wr .none s.dir sec e' }
/-- Write ownership by an agent: every other sharer is invalidated (R281). A chunk of another cluster that read the sector
is squashed (R294), also where its copy has left meanwhile: R297 holds for it all the same. -/
def dirOwn (s : State) (sec agent : Nat) : State :=
  let others (c : Nat) : Bool := c != agent
  squashReaders (dropShares { s with dir := wr .none s.dir sec ⟨.M, [agent], some ((s.dirOf sec).home.getD false)⟩ } others sec)
    others [sec]
/-- An agent's copy leaves; modified data is written into the die cache. -/
def dirEvict (s : State) (sec agent : Nat) : State :=
  let e := s.dirOf sec
  let rest := e.sharers.filter (· != agent)
  if e.sharers.contains agent = false then s else
  let e' : DirEnt :=
    if e.st = .S ∧ rest ≠ [] then ⟨.S, rest, e.home⟩ else ⟨.I, [], some (e.home.getD false || decide (e.st = .M))⟩
  dropShares { s with dir := wr .none s.dir sec e' } (fun c => c == agent) sec
/-- A die-cache line of four sectors leaves: every sharer is invalidated. -/
def dirDrop (s : State) (line : Nat) : State :=
  let secs := upFrom (4 * line) 4
  let s1 := secs.foldl (fun s sec => squashReaders s (fun c => (s.dirOf sec).sharers.contains c) [sec]) s
  secs.foldl (fun s sec => dropShares s (fun _ => true) sec) { s1 with dir := delWhere (fun a => secs.contains a) s1.dir }

/-- A translation for slot `k` enters a core's TLB, the bank of its page number holding 64 entries, and its pointer entries the
cluster's walk cache; the cluster becomes a sharer of the sectors that hold these entries; a miss counts in the slot (R276,
R75). -/
def noteTranslation (s : State) (k core asid : Nat) (va : Word) (l : Leaf) : State :=
  let e := tlbEntryOf asid va l
  if (s.core core).tlb.contains e then s else
  let s1 := s.onCore core (fun c =>
    let bank := c.tlb.filter (fun x => x.page % 8 == e.page % 8)
    let old := if 64 ≤ bank.length then bank.take 1 else []
    { c with tlb := (c.tlb.filter (fun x => !old.contains x)) ++ [e] })
  let ps := l.path.map (fun a => (⟨asid, 0, 4, a⟩ : TlbEntry))
  let s2 := s1.onCluster (core / 192) (fun c => { c with walk := c.walk ++ ps.filter (fun p => !c.walk.contains p) })
  let s3 := (l.path ++ [l.pteA]).foldl (fun s a => dirRead s (a / 64) (core / 192)) s2
  (entriesPoisoned s3 asid (l.path ++ [l.pteA])).count k 11

/-- The miss of a slot's translation that fails (R75): a walk that ends in a fault, reason 7 of R272 among them, which caches
nothing (R464), or one whose leaf the access may not use. -/
def noteFailedWalk (s : State) (k core asid : Nat) (ptbase va : Word) (reason : Nat) : State :=
  if canonical va = false then s
  else
    let miss := (entriesPoisoned s asid (walkReads s va.toNat (bits ptbase.toNat 51 12) 4)).count k 11
    if reason = 7 then miss
    else match walk s va.toNat (bits ptbase.toNat 51 12) 4 [] with
    | .ok l => noteTranslation s k core asid va l
    | .bad _ _ _ => miss

/-- The accessed and modified bits of a leaf (R274), set in its entry by an access of slot `k` that passes every check: a
PTE store at device scope, which squashes every other slot's chunk that read the entry and drops the cached copies of it
(R276, R294). -/
def markLeaf (s : State) (k cluster : Nat) (l : Leaf) (write : Bool) : State :=
  let new := l.pte ||| 0x80 ||| (if write then 0x100 else 0)
  if new = l.pte then s else
    let secs := sectorsOf l.pteA 8
    let s1 := ((readersOf s (fun _ => true) secs).filter (· != k)).foldl squash s
    let s2 := secs.foldl (fun s sec => dirOwn s sec cluster) s1
    dropTranslations (s2.putLe l.pteA 8 new) l.pteA 8

/-! Untracked sectors (R282). -/

/-- The copy of a sector in a list. -/
def findSector (l : List USector) (sec : Nat) : Option USector := l.find? (fun u => u.sector == sec)
/-- A list of copies with one replaced or added. -/
def putSector (l : List USector) (u : USector) : List USector := l.filter (fun v => !(v.sector == u.sector)) ++ [u]
/-- The bytes of `old` where `dirty` is clear and of `new` where it is set. -/
def mergeBytes (dirty : BitVec 64) (new old : List Byte) : List Byte :=
  (List.range 64).map (fun i => if dirty.getLsbD i then new.getD i 0 else old.getD i 0)
/-- The home die cache's bytes of a sector. -/
def homeSector (s : State) (sec : Nat) : List Byte :=
  match findSector (s.die (homeOf (sec * 64))).dcu sec with
  | some u => u.bytes
  | none => rdMany unlistedByte s.mem (sec * 64) 64
/-- A sector brought into the home die cache. -/
def fillHome (s : State) (sec : Nat) : State :=
  s.onDie (homeOf (sec * 64)) (fun d =>
    match findSector d.dcu sec with
    | some _ => d
    | none => { d with dcu := d.dcu ++ [⟨sec, rdMany unlistedByte s.mem (sec * 64) 64, 0⟩] })
/-- A sector brought into a cluster's L1. -/
def fillL1 (s : State) (cluster sec : Nat) : State :=
  match findSector (s.cluster cluster).l1u sec with
  | some _ => s
  | none =>
    let s1 := fillHome s sec
    s1.onCluster cluster (fun c => { c with l1u := c.l1u ++ [⟨sec, homeSector s1 sec, 0⟩] })
/-- The dirty bytes of a cluster's copy go to the home die cache. -/
def writeBackL1 (s : State) (cluster sec : Nat) : State :=
  match findSector (s.cluster cluster).l1u sec with
  | none => s
  | some u =>
    let s1 := fillHome s sec
    let s2 := s1.onDie (homeOf (sec * 64)) (fun d =>
      match findSector d.dcu sec with
      | none => d
      | some h => { d with dcu := putSector d.dcu ⟨sec, mergeBytes u.dirty u.bytes h.bytes, h.dirty ||| u.dirty⟩ })
    s2.onCluster cluster (fun c => { c with l1u := putSector c.l1u { u with dirty := 0 } })
/-- The dirty bytes of a word of a copy go to memory: a word that is dirty whole is one write (R427). -/
def writeWord (h : USector) (s : State) (i : Nat) : State :=
  if (upFrom (8 * i) 8).all (fun b => h.dirty.getLsbD b) then s.putBytes (h.sector * 64 + 8 * i) ((h.bytes.drop (8 * i)).take 8)
  else ((upFrom (8 * i) 8).filter (fun b => h.dirty.getLsbD b)).foldl (fun s b => s.putBytes (h.sector * 64 + b) [h.bytes.getD b 0]) s
/-- The dirty bytes of the home die cache's copy go to memory. -/
def writeBackHome (s : State) (sec : Nat) : State :=
  match findSector (s.die (homeOf (sec * 64))).dcu sec with
  | none => s
  | some h =>
    if h.dirty = 0 then s else
    ((upFrom 0 8).foldl (writeWord h) s).onDie (homeOf (sec * 64))
      (fun d => { d with dcu := putSector d.dcu { h with dirty := 0 } })
/-- A cluster's copy is dropped. -/
def dropL1 (s : State) (cluster sec : Nat) : State :=
  s.onCluster cluster (fun c => { c with l1u := c.l1u.filter (fun u => !(u.sector == sec)) })
/-- The home die cache's copy is dropped. -/
def dropHome (s : State) (sec : Nat) : State :=
  s.onDie (homeOf (sec * 64)) (fun d => { d with dcu := d.dcu.filter (fun u => !(u.sector == sec)) })

/-- Engines hold no translation to a frame any more: their next access of it is retried from translation (R287, R453). -/
def dropHeldPages (s : State) (frame : Nat) : State :=
  { s with engines := s.engines.foldl (fun m e =>
      wr .idle m e.1 { e.2 with pages := e.2.pages.filter (fun p => p.base / 4096 != frame) }) [] }

/-- Every cached copy of a frame's sectors is written back and dropped (R453). -/
def recallFrame (s : State) (frame : Nat) : State :=
  let s := dropHeldPages s frame
  let lines := upFrom (frame * 16) 16
  let secs := upFrom (frame * 64) 64
  let s1 := lines.foldl dirDrop s
  secs.foldl (fun s sec =>
    let s2 := (upFrom 0 24).foldl (fun s c => dropL1 (writeBackL1 s c sec) c sec) s
    dropHome (writeBackHome s2 sec) sec) s1

/-- The recall that runs at a die is done. -/
def endRecall (s : State) (die : Nat) : State :=
  match (s.die die).recalling with
  | some f => (recallFrame s f).onDie die (fun d => { d with recalling := none })
  | none => s

/-- An access to a frame under recall waits for the recall (R454): it finds it done. -/
def awaitRecall (s : State) (pa : Nat) : State :=
  if (s.die (homeOf pa)).recalling = some (pa / 4096) then endRecall s (homeOf pa) else s

/-- The reads of a walk wait for the recalls of their frames (R454). -/
def awaitWalk (s : State) (ptbase va : Word) : State :=
  if s.dies.any (fun d => d.2.recalling.isSome) then
    (walkReads s va.toNat (bits ptbase.toNat 51 12) 4).foldl awaitRecall s
  else s

/-! Where an access goes. -/

/-- A location: the memory key of its first byte and how the cluster treats it (kinds of `StoreRec`, and 5 where the access is not
performed), and whether its
page is discarded or has t = 1; window locations count as tracked. -/
structure Loc where
  key : Nat
  kind : Nat
  disc : Bool
  tracked : Bool
  deriving DecidableEq, Repr

/-- The first 4 KiB frame of the page of a leaf that may move (R287): the one under which a move record stands. -/
def moveFrame (l : Leaf) : Nat :=
  if bits l.pte 14 13 = 1 then l.pa / 65536 * 16 else l.pa / 4096

/-- The kind of a translated location: 4 a device register; 3 memory that the cluster does not cache, behind a host port
that is not in CXL mode or settled on another device (R292); 0 tracked; 2 untracked. -/
def kindOf (s : State) (l : Leaf) : Nat :=
  if inDevice l.pa then 4
  else if inTier2 l.pa && !Config.portCxl ((l.pa / 0x1000000000000) % 2) then 3
  else if inTier3 l.pa && s.moves.any (fun m => m.frame == moveFrame l && m.settledAt.isSome) then 3
  else if bit l.pte 5 then 0 else 2

/-- The region of the scratchpad windows (R277). -/
def inWindowRegion (va : Word) : Bool := decide (va.toNat / 2 ^ 28 = 0xF000000)
/-- The core within its cluster that a window address of slot `k` names, and its offset in the cluster window. -/
def windowOff (k : Nat) (va : Word) : Option Nat :=
  let o := va.toNat % 2 ^ 28
  if o < 0x3000000 then some o
  else if 0x8000000 ≤ o ∧ o < 0x8040000 then some ((coreOf k % 192) * 0x40000 + (o - 0x8000000))
  else none
/-- The device core that a cluster window offset names. -/
def windowCore (cluster off : Nat) : Nat := cluster * 192 + off / 0x40000

/-- The page's home takes free frames from its stack until one lies in range; a frame out of range is skipped and
logged (R286, R392). -/
def popFrame (s : State) (d tier asid : Nat) : Nat → State × Option Nat
  | 0 => (s, none)
  | n + 1 =>
    let f := s.le ((s.dreg (0xF00000040000 + d * 0x100 + tier * 0x20)).toNat + 8 * n) 8
    let s1 := s.onDie d (fun y => { y with ffcnt := wr 0 y.ffcnt tier n })
    if inTier tier (f * 4096) ∧ homeOf (f * 4096) = d then (s1, some f)
    else popFrame (eventRecord s1 asid 0x17 2 (word (f * 4096)) 4 4 d .none) d tier asid n

/-- The chunks that have read a discarded page, under the frame its entry named, are squashed when it gets a frame (R297). -/
def squashPage (s : State) (pa n : Nat) : State :=
  (s.slots.filter (fun e => !e.2.chunk.sure &&
    e.2.chunk.rset.any (fun sec => decide (pa ≤ sec * 64 ∧ sec * 64 < pa + n)))).foldl (fun s e => squash s e.1) s

/-- The bytes of a frame become zero, in the copies that caches hold as well, and whole (R286, R427). -/
def zeroFrame (s : State) (pa n : Nat) : State :=
  let within (a : Nat) : Bool := decide (pa ≤ a ∧ a < pa + n)
  let zero (u : USector) : USector := if within (u.sector * 64) then { u with bytes := List.replicate 64 0 } else u
  { s with
    mem := delWhere within s.mem
    poison := delWhere within s.poison
    clusters := s.clusters.foldl (fun m c => wr .reset m c.1 { c.2 with l1u := c.2.l1u.map zero }) s.clusters
    dies := s.dies.foldl (fun m d => wr .reset m d.1 { d.2 with dcu := d.2.dcu.map zero }) s.dies }

/-- A write to a discarded page allocates a zeroed frame and installs it (R286), or has no frame. A 64 KiB leaf's
sixteen entries are written together. -/
def allocate (s : State) (asid : Nat) (l : Leaf) : State × Option Leaf :=
  let tier := bits l.pte 12 11
  if 1 < tier then (s, none) else
  let size := bits l.pte 14 13
  let d := homeOf l.pa
  match popFrame s d tier asid (rd 0 (s.die d).ffcnt tier) with
  | (s1, none) => (s1, none)
  | (s1, some f) =>
    let bytes := leafBytes size
    let s2 := zeroFrame (awaitRecall s1 (f * 4096)) (f * 4096) bytes
    let entry (i : Nat) : Nat := (l.pte - (if bit l.pte 6 then 64 else 0)) - bits l.pte 55 16 * 65536 + (f + i) * 65536
    let i0 := (l.pteA / 8) % 16
    let s3 := if size = 1 then
        (upFrom 0 16).foldl (fun s i => outsideWrite s (l.pteA - 8 * i0 + 8 * i) (toLe 8 (entry i))) s2
      else outsideWrite s2 l.pteA (toLe 8 (entry 0))
    let own := entry (if size = 1 then i0 else 0)
    (squashPage s3 (l.pa / bytes * bytes) bytes, some { l with pte := own, pa := f * 4096 + l.pa % bytes })

/-- The access is against the mode under which its frame is cached (R283, R447). -/
def aliasFault (s : State) (loc : Loc) : Option Nat :=
  if loc.kind = 0 ∧ cachedUntracked s (loc.key / 4096) = true then some 1
  else if loc.kind = 2 ∧ cachedTracked s (loc.key / 4096) = true then some 2
  else none

/-- Poisoned data consumed by a process (R427, R428); a discarded page has none (R286). -/
def poisoned (s : State) (asid : Nat) (l : Loc) (n : Nat) : State :=
  if l.disc then s else
  match badMark s l.key n with
  | some a => faultOf s asid a
  | none => s

/-- A slot's first remote access to a settled page counts the settle (R75, R288). -/
def noteSettle (s : State) (k : Nat) (l : Leaf) : State :=
  match s.moves.find? (fun m => m.frame == moveFrame l && m.settledAt.isSome && !m.seen.contains k) with
  | some m => ({ s with moves := s.moves.map (fun (n : MoveRec) => if n.frame = m.frame then { n with seen := n.seen ++ [k] } else n) }).count
      k 15
  | none => s

/-- What an access leaves at its translation: a lost route or home is met there (R479, R482, R483), but not by a read of a discarded
page, which accesses no memory (R286). -/
def noteAccess (s : State) (k core asid : Nat) (va : Word) (l : Leaf) (loc : Loc) (w : Want) : State :=
  let s0 := if lostPlace s l.pa && !loc.disc then faultOf s asid l.pa else s
  if w.unit then entriesPoisoned s0 asid (l.path ++ [l.pteA])
  else
    let s1 := noteTranslation s0 k core asid va l
    if loc.kind = 3 then noteSettle s1 k l else s1

/-- An access that is not performed: its home is lost, or its walk reads a poisoned entry, no cached translation standing for the
walk. Its process is discarded next (R427 to R429, R479, R482, R483). -/
def unperformed (s : State) (core asid : Nat) (va : Word) (l : Leaf) (w : Want) : Bool :=
  lostPlace s l.pa || ((w.unit || !(s.core core).tlb.contains (tlbEntryOf asid va l)) &&
    (l.path ++ [l.pteA]).any (fun a => (badByte s a 8).isSome))

/-- An access through a leaf that is not discarded: it waits for a recall of its frame (R454), which may be cached under the
other mode (R283). -/
def resolveLeaf (s : State) (k core asid : Nat) (va : Word) (l : Leaf) (w : Want) : State × Found Loc :=
  let loc : Loc := ⟨l.pa, if unperformed s core asid va l w then 5 else kindOf s l, false, bit l.pte 5⟩
  let s := if w.sampler then s else awaitRecall s l.pa
  match (if w.sampler then none else aliasFault s loc) with
  | some r =>
    (if w.unit then entriesPoisoned s asid (l.path ++ [l.pteA]) else noteTranslation s k core asid va l, .bad 0x18 r 0)
  | none => (noteAccess (markLeaf s k (core / 192) l w.write) k core asid va l loc w, .ok loc)

/-- A memory access of slot `k` with its process, made by a core: where it goes, or the cause it raises, in the order of R139
and R244 after alignment. Window addresses are those of the slot (R159). The state carries what a translation leaves
behind. DESIGN CHOICE, log 143: a write to a discarded page raises 0x17 also in hardware mode without a frame, as R286 and R446 say,
where the tables of R167 and of the scalar chapter name host-assisted mode only. -/
def resolveAt (s : State) (k core asid : Nat) (ptbase va : Word) (w : Want) : State × Found Loc :=
  if canonical va = false then (s, .bad 0x14 1 0)
  else if inWindowRegion va = true then
    match windowOff k va with
    | none => (s, .bad 0x14 8 0)
    | some o =>
      if w.sampler = true then (s, .bad 0x16 4 0)
      else if (s.core (windowCore (clusterOf k) o)).owner = some asid then
        (s, .ok ⟨winKey (clusterOf k) o, 1, false, true⟩)
      else (s, .bad 0x16 5 0)
  else
    let pgf := assisted s (core / 192) 0
    let s := awaitWalk s ptbase va
    let note (s : State) (l : Leaf) : State :=
      if w.unit then entriesPoisoned s asid (l.path ++ [l.pteA]) else noteTranslation s k core asid va l
    match translate s ptbase va pgf w with
    | .bad c r l =>
      (if w.unit then entriesPoisoned s asid (walkReads s va.toNat (bits ptbase.toNat 51 12) 4)
        else noteFailedWalk s k core asid ptbase va (if c = 0x16 then 0 else r), .bad c r l)
    | .ok l =>
      if bit l.pte 6 = true ∧ w.write = true then
        if pgf = true then (note s l, .bad 0x17 1 0)
        else match allocate s asid l with
          | (s1, none) => (note s1 l, .bad 0x17 2 0)
          | (s1, some l1) => resolveLeaf s1 k core asid va l1 w
      else if bit l.pte 6 = true then
        let loc : Loc := ⟨l.pa, if bit l.pte 5 then 0 else 2, true, bit l.pte 5⟩
        (noteAccess (markLeaf s k (core / 192) l false) k core asid va l loc w, .ok loc)
      else resolveLeaf s k core asid va l w

/-- A memory access made by the core of slot `k`. -/
def resolve (s : State) (k : Nat) (asid : Nat) (ptbase va : Word) (w : Want) : State × Found Loc :=
  resolveAt s k (coreOf k) asid ptbase va w

/-- An access of the thread of slot `k`. -/
def resolveFor (s : State) (k : Nat) (va : Word) (w : Want) : State × Found Loc :=
  let x := s.slot k
  resolve s k x.asidN x.sys.ptbase va { w with user := !x.spv }

/-- A read. -/
def wantRead : Want := ⟨true, false, false, false, true, false⟩
/-- A write. -/
def wantWrite : Want := ⟨false, true, false, false, true, false⟩
/-- An atomic access. -/
def wantBoth : Want := ⟨true, true, false, false, true, false⟩
/-- A read through the sampler cache. -/
def wantSampler : Want := ⟨true, false, true, false, true, false⟩
/-- An instruction fetch. -/
def wantFetch : Want := ⟨false, false, false, true, true, false⟩

end Sys2Proof.Machine
end

