-- ==== Sys2Proof/Machine/Mem.lean ====
section
/-! DEFINITION. Machine/Mem.lean: the slices of the L1 (R280), and the reads and writes that clusters, engines and homes
perform at a location. -/

namespace Sys2Proof.Machine

/-- The L1 slice of a cluster that holds a physical address (R280). -/
def sliceOf (pa : Nat) : Nat :=
  let n := pa / 256
  Nat.xor (n % 2 ^ 20) ((n / 2 ^ 20) % 2 ^ 20) % 192

/-- One byte of a list of sector copies. -/
def sectorByte (l : List USector) (a : Nat) (other : Byte) : Byte :=
  match findSector l (a / 64) with
  | some u => u.bytes.getD (a % 64) 0
  | none => other
/-- A byte as the home of its line holds it: what an engine or a host reads. -/
def homeByte (s : State) (a : Nat) : Byte :=
  sectorByte (s.die (homeOf a)).dcu a (rd unlistedByte s.mem a)

/-! Reads and writes at a location. -/

/-- The bytes that a cluster reads at a location that is no device register. -/
def peekLoc (s : State) (cluster : Nat) (l : Loc) (n : Nat) : List Byte :=
  if l.disc ∨ l.kind = 5 then List.replicate n 0
  else if l.kind = 2 then
    (upFrom l.key n).map (fun a => sectorByte (s.cluster cluster).l1u a (homeByte s a))
  else rdMany unlistedByte s.mem l.key n

/-- The location is present in the cluster's L1. -/
def presentLoc (s : State) (cluster : Nat) (l : Loc) (n : Nat) : Bool :=
  if l.kind = 0 then (sectorsOf l.key n).all (fun sec => (s.dirOf sec).sharers.contains cluster)
  else if l.kind = 2 then (sectorsOf l.key n).all (fun sec => (findSector (s.cluster cluster).l1u sec).isSome)
  else l.kind = 1

/-- The location is one that its cluster caches: memory that is not discarded. -/
def Loc.cached (l : Loc) : Bool := !l.disc && (l.kind == 0 || l.kind == 2)

/-- The die cache of its home holds a sector of a location. -/
def homeHolds (s : State) (l : Loc) (sec : Nat) : Bool :=
  if l.kind = 0 then (s.dirOf sec).home.isSome else (findSector (s.die (homeOf (sec * 64))).dcu sec).isSome

/-- The misses of slot `k` that the die cache must fill from memory count (R75), and the fills are the slot's. -/
def noteFill (s : State) (k : Nat) (l : Loc) (n : Nat) : State :=
  let fills := (sectorsOf l.key n).filter (fun sec => l.cached && !homeHolds s l sec)
  if fills = [] then s
  else (s.onSlot k (fun x => countEvent x 9 fills.length)).onDie (homeOf l.key) (fun d => { d with filler := k })

/-- What an access for slot `k` by a cluster does to the caches. -/
def touchLoc (s : State) (k cluster : Nat) (l : Loc) (n : Nat) : State :=
  let t := noteFill s k l n
  if l.disc then s
  else if l.kind = 0 then (sectorsOf l.key n).foldl (fun s sec => dirRead s sec cluster) t
  else if l.kind = 2 then (sectorsOf l.key n).foldl (fun s sec => fillL1 s cluster sec) t
  else s

/-- A miss of a scalar load or store of slot `k` in the L1 counts (R75). -/
def noteMiss (s : State) (k : Nat) (l : Loc) (n : Nat) : State :=
  if l.cached && !presentLoc s (clusterOf k) l n then s.count k 8 else s

/-- The same for a scalar load or store, whose miss in the L1 counts (R75). -/
def touchScalar (s : State) (k : Nat) (l : Loc) (n : Nat) : State := touchLoc (noteMiss s k l n) k (clusterOf k) l n

/-! What the caches hold (R20, R21, R280, R281, R498): a set that holds more lines than it has ways must give one up. -/

/-- The list without repeats, in the order of first occurrence. -/
def distinct (l : List Nat) : List Nat := l.foldl addOnce []

/-- The 256-byte lines that a cluster's L1 slices hold. -/
def l1Lines (s : State) (cluster : Nat) : List Nat :=
  distinct ((s.dir.filter (fun e => e.2.sharers.contains cluster)).map (fun e => e.1 / 4) ++
    (s.cluster cluster).l1u.map (fun u => u.sector / 4))

/-- The 256-byte lines that a die cache holds. -/
def dieLines (s : State) (d : Nat) : List Nat :=
  distinct ((s.dir.filter (fun e => homeOf (e.1 * 64) == d)).map (fun e => e.1 / 4) ++ (s.die d).dcu.map (fun u => u.sector / 4))

/-- The number under which a set's retired ways of an L1 stand: slice and set. -/
def l1Key (line : Nat) : Nat := sliceOf (line * 256) * 64 + (Config.l1Set line).toNat

/-- Ways of a set of a die cache that hold lines: 16 less the retired ones and the storage pinned for queues (R316), which
is spread over the sets. -/
def dieWays (s : State) (d set : Nat) : Nat :=
  16 - rd 0 (s.die d).ways set - (fieldOf (s.dreg (0xF00000010008 + d * 0x1000)) 3 0 + set % 4) / 4

/-- The lines of an L1 whose set holds more lines than ways: one of them must leave. -/
def l1Crowded (s : State) (cluster : Nat) : List Nat :=
  let lines := l1Lines s cluster
  if lines.length ≤ 8 ∧ (s.cluster cluster).ways = [] then [] else
  lines.filter (fun x => decide (8 - rd 0 (s.cluster cluster).ways (l1Key x) <
    (lines.filter (fun y => l1Key y == l1Key x)).length))

/-- The lines of a die cache whose set holds more lines than ways. -/
def dieCrowded (s : State) (d : Nat) : List Nat :=
  let lines := dieLines s d
  if lines.length ≤ 13 ∧ (s.die d).ways = [] then [] else
  lines.filter (fun x => decide (dieWays s d (Config.dieSet x).toNat <
    (lines.filter (fun y => Config.dieSet y == Config.dieSet x)).length))

/-- Bytes written over an untracked copy. -/
def writeU (u : USector) (a : Nat) (b : Byte) : USector :=
  { u with bytes := u.bytes.set (a % 64) b, dirty := u.dirty ||| (1#64 <<< (a % 64)) }

/-- The bytes that a cluster writes at a location that is no device register, performed (R281, R282). -/
def pokeLoc (s : State) (cluster : Nat) (key kind : Nat) (bs : List Byte) : State :=
  if kind = 5 then s
  else if kind = 2 then
    let s1 := (sectorsOf key bs.length).foldl (fun s sec => fillL1 s cluster sec) s
    (bs.zip (upFrom key bs.length)).foldl (fun s (e : Byte × Nat) =>
      s.onCluster cluster (fun c => match findSector c.l1u (e.2 / 64) with
        | some u => { c with l1u := putSector c.l1u (writeU u e.2 e.1) }
        | none => c)) s1
  else
    let s1 := if kind = 0 then (sectorsOf key bs.length).foldl (fun s sec => dirOwn s sec cluster) s else s
    dropTranslations (s1.putBytes key bs) key bs.length

/-- A write that reaches a cluster from outside its chunks (R294): it squashes the cluster's own readers as well. A window's
cluster is that of its key. -/
def elementWrite (s : State) (cluster : Nat) (key kind : Nat) (bs : List Byte) : State :=
  let own := if kind = 1 then (key - 2 ^ 52) / 2 ^ 26 else cluster
  let s1 := if kind ≤ 1 then squashReaders s (fun c => c == own) (sectorsOf key bs.length) else s
  pokeLoc s1 cluster key kind bs

end Sys2Proof.Machine
end

