-- ==== Sys2Proof/Machine/Device.lean ====
section
/-! DEFINITION. Machine/Device.lean: reading the device register range (R268, R315, R371, R384, R388, R389, R392, R426,
R453, R457, R488, R497). A write-only register and an address without a register read zero. -/

namespace Sys2Proof.Machine

/-- Live lanes of a core (R73, R498). -/
def liveOf (c : CoreSt) : Nat := popCount 32 c.lanemap.toNat
/-- A core takes new threads: it has a live lane and is not retired (R498, R499). -/
def takesWork (c : CoreSt) : Bool := !c.retired && decide (liveOf c ≠ 0)

/-- Lanes active now: the live lanes under the step of the cluster (R73, R381). -/
def actOf (s : State) (core : Nat) : Nat := min (s.cluster (core / 192)).step (liveOf (s.core core))

/-- Resident queues of a die (R315). -/
def residentCount (s : State) (d : Nat) : Nat :=
  (s.queues.filter (fun e => match e.2 with | some q => q.resident && q.home == d | none => false)).length

/-- ccap of a cluster (R384). -/
def ccapOf (c : ClusterSt) : Word := word (c.cap % 512 + b2n c.isOpen * 512 + (c.temp % 256) * 65536)

/-- hcount of a head (R371). -/
def hcountOf (h : HeadSt) : Word := word (h.taken % 2 ^ 32 + (h.repeated % 2 ^ 32) * 2 ^ 32)

/-- Cluster `i` of a partition's power block (R384): a single device image has one block for all clusters. -/
def powerCluster (s : State) (p i : Nat) : Option Nat :=
  if s.modctl.getLsbD 2 then (if i < 12 then some (12 * p + i) else none)
  else if p = 0 ∧ i < 24 then some i else none

/-- The 64-bit device register that holds an address. -/
def devReg (s : State) (a : Nat) : Word :=
  let o := a - 0xF00000000000
  if o = 0 then 0x20480007
  else if o = 8 then s.rdy
  else if o = 0x10 then s.modctl
  else if 0x1000 ≤ o ∧ o < 0x1000 + 4608 then
    word (ofLe ((upFrom (o - 0x1000) 8).map (fun k =>
      if k < 4608 ∧ s.rdy.getLsbD (k / 192) = true then BitVec.ofNat 8 (liveOf (s.core k)) else 0)))
  else if 0x10000 ≤ o ∧ o < 0x18000 then
    let d := (o - 0x10000) / 0x1000
    if o % 0x1000 = 0x10 then (s.die d).qctl
    else if o % 0x1000 = 0x18 then word (residentCount s d)
    else s.dreg a
  else if 0x20000 ≤ o ∧ o < 0x20400 ∧ o % 0x100 = 0x30 then hcountOf (rd .off s.heads ((o - 0x20000) / 0x100))
  else if 0x30000 ≤ o ∧ o < 0x32000 then
    let p := (o - 0x30000) / 0x1000
    let r := o % 0x1000
    if powerCluster s p 0 = none then 0
    else if r = 0 then word (rd 0 s.pool p)
    else if 0x100 ≤ r ∧ r < 0x100 + 8 * 24 then
      (match powerCluster s p ((r - 0x100) / 8) with | some c => ccapOf (s.cluster c) | none => 0)
    else s.dreg a
  else if 0x40000 ≤ o ∧ o < 0x40800 then
    let d := (o - 0x40000) / 0x100
    let r := o % 0x100
    if r = 8 then word (rd 0 (s.die d).ffcnt 0)
    else if r = 0x28 then word (rd 0 (s.die d).ffcnt 1)
    else if r = 0x48 then word (b2n (s.die d).recalling.isSome + 2 * b2n (s.die d).recallFail)
    else if r = 0 ∨ r = 0x20 then s.dreg a else 0
  else if 0x60000 ≤ o ∧ o < 0x61800 then
    let c := s.cluster ((o - 0x60000) / 0x100)
    if o % 0x100 = 0 then c.tcstuck else if o % 0x100 = 8 then c.tcsrec else 0
  else if 0x70000 ≤ o ∧ o < 0x70800 then
    let d := (o - 0x70000) / 0x100
    let r := o % 0x100
    if r = 0 then word (rd 0 s.cecnt d)
    else if r = 8 then rd 0 s.celast d
    else if r = 0x10 then word (rd 0 s.retcnt d)
    else 0
  else s.dreg a

/-- The `n` bytes at an address in the device register range. -/
def devRead (s : State) (a n : Nat) : List Byte :=
  (upFrom a n).map (fun b => BitVec.ofNat 8 ((devReg s (b - b % 8)).toNat >>> (8 * (b % 8))))

/-- What a write of a device register is (R8, R315, R371, R384, R389, R392, R453, R489). -/
def devWriteEvent (a : Nat) (v : Word) : Instr :=
  let o := a - 0xF00000000000
  if o = 0x10 then .modctlWrite v
  else if 0x10000 ≤ o ∧ o < 0x18000 then
    let d := (o - 0x10000) / 0x1000
    if o % 0x1000 = 8 then .sctlWrite d v
    else if o % 0x1000 = 0x10 then
      (match fieldOf v 63 62 with
      | 1 => .qctlMakeResident d (fieldOf v 47 32) (fieldOf v 31 0)
      | 2 => .qctlEvict d (fieldOf v 47 32) (fieldOf v 31 0)
      | 3 => .qctlRetire d (fieldOf v 47 32) (fieldOf v 31 0)
      | _ => .registerWrite a v)
    else .registerWrite a v
  else if 0x20000 ≤ o ∧ o < 0x20400 ∧ o % 0x100 = 0 then .hctlWrite ((o - 0x20000) / 0x100) v
  else if 0x30000 ≤ o ∧ o < 0x32000 ∧ 0x100 ≤ o % 0x1000 ∧ o % 0x1000 < 0x100 + 8 * 24 then
    .ccapWrite ((o - 0x30000) / 0x1000) ((o % 0x1000 - 0x100) / 8) v
  else if 0x40000 ≤ o ∧ o < 0x40800 then
    let d := (o - 0x40000) / 0x100
    let r := o % 0x100
    if r = 0x10 then .ffaddWrite d 0 v
    else if r = 0x30 then .ffaddWrite d 1 v
    else if r = 0x40 then .frameRecall d v
    else .registerWrite a v
  else if 0x60000 ≤ o ∧ o < 0x61800 ∧ o % 0x100 = 0x10 then .tcskipWrite ((o - 0x60000) / 0x100) v
  else .registerWrite a v

/-- The pieces of a store that each lie in one register. -/
def devPieces (a : Nat) (bs : List Byte) : List (Nat × List Byte) :=
  (upFrom (a / 8) (bs.length / 8 + 2)).filterMap (fun r =>
    let lo := max a (8 * r)
    let hi := min (a + bs.length) (8 * r + 8)
    if lo < hi then some (lo, (bs.drop (lo - a)).take (hi - lo)) else none)

/-- The write that a piece of a store is: bytes beside the stored ones keep what the register reads as. -/
def devStore (s : State) (a : Nat) (bs : List Byte) : Instr :=
  let old := toLe 8 (devReg s (a - a % 8)).toNat
  devWriteEvent (a - a % 8) (word (ofLe ((old.take (a % 8) ++ bs ++ old.drop (a % 8 + bs.length)).take 8)))

/-- A value that a register refuses (R385): one whose level or time pwbud would refuse (R378), written to pwdef of a partition that
there is (R384). -/
def devRefused (s : State) (a : Nat) (v : Word) : Bool :=
  (a == 0xF00000030008 || (a == 0xF00000031008 && s.modctl.getLsbD 2)) && (decide (fieldOf v 26 24 < 5) || decide (10000 < fieldOf v 23 0))

/-- Byte `a` as the listed stores leave it, the latest first (R140). -/
def forwardByte (st : List StoreRec) (a : Nat) (b : Byte) : Byte :=
  match st.reverse.find? (fun r => decide (r.key ≤ a ∧ a < r.key + r.bytes.length)) with
  | some r => r.bytes.getD (a - r.key) 0
  | none => b

/-- A store behind the listed ones would write a value that its register refuses. -/
def storeRefused (s : State) (st : List StoreRec) (a : Nat) (bs : List Byte) : Bool :=
  (devPieces a bs).any (fun e =>
    let r := e.1 - e.1 % 8
    let old := ((toLe 8 (devReg s r).toNat).zip (upFrom r 8)).map (fun b => forwardByte st b.2 b.1)
    devRefused s r (word (ofLe ((old.take (e.1 % 8) ++ e.2 ++ old.drop (e.1 % 8 + e.2.length)).take 8))))

/-- The stores to device registers that stand on the agenda. -/
def pendingStores (s : State) : List StoreRec :=
  s.agenda.filterMap (fun a => match a with | .reg a bs => some ⟨a, bs, 4⟩ | _ => none)

/-- A list of actors with others put behind the last store to a device register that it holds, or first. -/
def behindRegs (l new : List Actor) : List Actor :=
  let tail := (l.reverse.takeWhile (fun a => match a with | .reg _ _ => false | _ => true)).reverse
  l.take (l.length - tail.length) ++ new ++ tail

/-- Stores to the device register range: the registers take them as the machine's next steps, behind those that the same
instruction stored before (R160, R292). -/
def devStores (s : State) (l : List (Nat × List Byte)) : State :=
  { s with agenda := behindRegs s.agenda ((l.flatMap (fun e => devPieces e.1 e.2)).map (fun e => .reg e.1 e.2)) }

/-- A write of an engine, a home or a host at an address or a window key; device registers take theirs at the hub next
(R272, R292). -/
def agentWrite (s : State) (key kind : Nat) (bs : List Byte) : State :=
  if kind = 4 then devStores s [(key, bs)]
  else if kind = 5 then s
  else if kind = 2 then
    if (sectorsOf key bs.length).any (fun sec => (findSector (s.die (homeOf (sec * 64))).dcu sec).isSome) then
      (bs.zip (upFrom key bs.length)).foldl (fun s (e : Byte × Nat) =>
        match findSector (s.die (homeOf e.2)).dcu (e.2 / 64) with
        | some u => s.onDie (homeOf e.2) (fun d => { d with dcu := putSector d.dcu (writeU u e.2 e.1) })
        | none => s.putBytes e.2 [e.1]) s
    else s.putBytes key bs
  else if kind = 1 then
    (squashReaders s (fun c => c == (key - 2 ^ 52) / 2 ^ 26) (sectorsOf key bs.length)).putBytes key bs
  else outsideWrite s key bs

/-- The bytes that an engine, a home or a host reads. -/
def agentRead (s : State) (key kind n : Nat) (disc : Bool) : List Byte :=
  if disc ∨ kind = 5 then List.replicate n 0
  else if kind = 4 then devRead s key n
  else if kind = 2 then (upFrom key n).map (homeByte s)
  else rdMany unlistedByte s.mem key n

/-- Bytes that an irrevocable instruction or an element access of a cluster writes at a location, performed at once; a
device register takes its bytes next. -/
def writeAt (s : State) (cluster : Nat) (l : Loc) (bs : List Byte) : State :=
  if l.kind = 4 then devStores s [(l.key, bs)]
  else elementWrite s cluster l.key l.kind bs

/-- Pieces written one after the other under the rights of slot `s.cur`, up to the first that fails (R258); a register that
refuses its bytes fails as R385 says. -/
def savePieces (s : State) : List (Word × List Byte) → State × Option (Word × Nat × Nat × Nat)
  | [] => (s, none)
  | (va, bs) :: rest =>
    match resolveFor s s.cur va wantWrite with
    | (s1, .bad c r l) => (s1, some (va, c, r, l))
    | (s1, .ok loc) =>
      if loc.kind = 4 ∧ storeRefused s1 [] loc.key bs = true then (s1, some (va, 0x12, 5, 0)) else
      savePieces (writeAt (noteFill s1 s1.cur loc bs.length) (clusterOf s1.cur) loc bs) rest

end Sys2Proof.Machine
end

