-- ==== Sys2Proof/Machine/Table.lean ====
section
/-! DEFINITION. Machine/Table.lean: queue handles and table entries (R311 to R314, R466), residency (R316 to R318), and
taking a unit of a split counter from a cluster's allowance or asking its home (R337, R339). -/

namespace Sys2Proof.Machine

/-! Split counters, the cluster's side. -/

/-- The physical address of a counter object named by a virtual address, under a process's tables. -/
def ctrAddr (s : State) (ptbase va : Word) : Option Nat :=
  if canonical va = false ∨ inWindowRegion va = true then none else
  match walk s va.toNat (bits ptbase.toNat 51 12) 4 [] with
  | .ok l => some l.pa
  | .bad _ _ _ => none

/-- The allowance entry of a cluster for a counter: (a, g). -/
def allowOf (s : State) (cluster ctr : Nat) : Option (Nat × Nat) :=
  ((s.cluster cluster).allow.find? (fun e => e.1 == ctr)).map Prod.snd

/-- A take of `b` units served from the cluster's allowance (R339); none while a take is parked on the counter (R502). -/
def localTake (s : State) (cluster ctr b : Nat) : Option State :=
  match allowOf s cluster ctr, s.ctr ctr with
  | some (a, g), some c => if b ≤ a ∧ c.parked = [] then some (putAllow s cluster ctr (a - b) g) else none
  | _, _ => none

/-- A request sent to the home with the cluster's allowance, once per waiting slot (R339). -/
def askHome (s : State) (ctr kind value : Nat) : State :=
  let a := ((allowOf s (clusterOf s.cur) ctr).map Prod.fst).getD 0
  s.onCtr ctr (fun c => { c with asked := c.asked ++ [⟨s.cur, kind, value, clusterOf s.cur, a⟩] })

/-- A recall round starts: every holder whose return is not on its way is sent a recall (R341). -/
def startRound (now : Nat) (c : Ctr) : Ctr :=
  { c with
    recalling := true
    since := now
    away := c.away ++ (c.holders.filter (fun h => !c.away.any (fun a => a.1 == h))).map (fun h => (h, none)) }

/-! Queue table entries. -/

/-- The fields of a queue-table entry (R313). -/
structure QEnt where
  raw : Nat
  deriving DecidableEq, Repr

/-- Field `[hi:lo]` of an entry. -/
def QEnt.f (e : QEnt) (hi lo : Nat) : Nat := bits e.raw hi lo
/-- The queue kind. -/
def QEnt.kind (e : QEnt) : Nat := e.f 162 160

/-- The entry holds no reserved value (R313). -/
def QEnt.ok (e : QEnt) : Bool :=
  decide (e.f 511 336 = 0 ∧ e.f 175 168 = 0 ∧ e.f 152 152 = 0 ∧ e.f 127 64 = 0 ∧ e.f 159 156 ≤ 7 ∧ e.kind ≤ 5) &&
  (if e.kind ≤ 1 then
    decide (e.f 63 0 % 64 = 0 ∧ e.f 255 192 % 64 = 0 ∧ e.f 319 256 % 8 = 0 ∧
      (e.kind = 1 → e.f 167 167 = 0 ∧ e.f 319 256 = 0))
   else
    decide (e.f 335 192 = 0 ∧ e.f 167 164 = 0 ∧ e.f 159 128 = 0 ∧
      e.f 63 0 < (if e.kind = 2 then 16 else if e.kind = 3 then 8 else 32)))

/-- A memory read by the part on behalf of a process, with supervisor rights. -/
def procRead (s : State) (k asid : Nat) (ptbase va : Word) (n : Nat) : State × Found Nat :=
  match resolve s k asid ptbase va { wantRead with user := false, unit := true } with
  | (s1, .ok l) => (s1, .ok (ofLe (agentRead s1 l.key l.kind n l.disc)))
  | (s1, .bad c r l) => (s1, .bad c r l)

/-- The number by which the model knows a queue: process and index. -/
def queueKey (asid handle : Nat) : Nat := asid * 65536 + handle % 65536

/-- The entry of a resident queue as its home read it at the swap-in: a store to it meanwhile is not seen (R314). -/
def lastRead (s : State) (key : Nat) (qtbase : Word) : Option Nat :=
  match s.queue key with
  | some q => if q.resident = true ∧ q.qtbase = qtbase then some q.entry else none
  | none => none

/-- The checks of R311 on a handle, with the table of a process: the entry, or the cause with its eaddr and einfo. A
host window write, which carries no generation and checks only the length, valid, kind and hwin (R387), passes `gen` false. -/
def readEntry (s : State) (k asid : Nat) (ptbase qtbase : Word) (handle : Nat) (gen : Bool) : State × (QEnt ⊕ Cause) :=
  let idx := handle % 65536
  let va := qtbase + word (64 * idx)
  let bad (code reason : Nat) : Cause := ⟨code, va, einfoOf reason 0 false handle⟩
  match procRead s k asid ptbase qtbase 64 with
  | (s1, .bad c r l) => (s1, .inr ⟨c, qtbase, einfoOf r l false 0⟩)
  | (s1, .ok h) =>
    if idx = 0 ∨ bits h 23 8 < idx ∨ (gen = true ∧ (bits h 7 0 = 0 ∨ bits h 511 24 ≠ 0)) then (s1, .inr ⟨0x12, va, einfoOf 18 0 false 0⟩)
    else match (match lastRead s (queueKey asid handle) qtbase with
        | some raw => (s1, Found.ok raw)
        | none => procRead s1 k asid ptbase va 64) with
      | (s2, .bad c r l) => (s2, .inr ⟨c, va, einfoOf r l false 0⟩)
      | (s2, .ok raw) =>
        let e : QEnt := ⟨raw⟩
        if e.f 163 163 = 0 then (s2, .inr (bad 0x19 1))
        else if gen && decide (e.f 191 176 ≠ handle / 65536 % 65536) then (s2, .inr (bad 0x19 2))
        else if gen = true ∧ e.ok = false then (s2, .inr ⟨0x12, va, einfoOf 18 0 false 0⟩)
        else (s2, .inl e)

/-- A presentation head raises the queue (R334). -/
def isRaised (s : State) (key : Nat) : Bool := s.heads.any (fun e => e.2.raised.contains key)

/-- The queue as its entry gives it, empty, not resident; a head may raise it already (R334). -/
def queueOfEntry (s : State) (asid : Nat) (qtbase ptbase : Word) (handle : Nat) (e : QEnt) : QueueSt :=
  { handle := e.f 191 176 * 65536 + handle % 65536, qtbase, ptbase, entry := e.raw, kind := e.kind, home := e.f 159 156
    cls := e.f 155 153, cap := e.f 151 128, ctrVa := word (e.f 255 192)
    ctr := (ctrAddr s ptbase (word (e.f 255 192))).getD (2 ^ 60), doneVa := word (e.f 319 256), irq := bit e.raw 164
    msix := e.f 335 320, pin := bit e.raw 166, resume := bit e.raw 167, base := word (e.f 63 0), resident := false
    tasks := [], elems := [], last := 0, raised := isRaised s (queueKey asid handle), joined := 0, posted := false
    hostMode := false, lost := false
    stamp := 0 }

/-- The queue is resident (R316). -/
def residentQ (s : State) (key : Nat) : Bool :=
  match s.queue key with
  | some q => q.resident
  | none => false

/-- A queue of kind 0 or 1 becomes known to its home when an access first names it; it is not resident yet. -/
def meetQueue (s : State) (key : Nat) (qtbase ptbase : Word) (handle : Nat) (e : QEnt) : State :=
  match s.queue key with
  | some q => s.putQueue key (some { q with qtbase := qtbase, ptbase := ptbase })
  | none => s.putQueue key (some (queueOfEntry s (keyAsid key) qtbase ptbase handle e))

/-- An access to a queue is recorded at its home, for the eviction order of R317. -/
def touchQueue (s : State) (key : Nat) : State := s.onQueue key (fun q => { q with last := s.cycle })

end Sys2Proof.Machine
end

