-- ==== Sys2Proof/WellFormed.lean ====
section
/-! DEFINITION. WellFormed.lean: which field values an instruction admits (R84 to R86, R168, R232, R234, R252), in the
order of the reasons of R434. An instruction that breaks one decodes, and traps with ecause 0x12 when it is reached. -/

namespace Sys2Proof

/-- A field that names a destination mask: m1 to m7 (R168). -/
def isMask (r : Reg) : Bool := decide (1 ≤ r.toNat ∧ r.toNat ≤ 7)

/-- A field that names a source mask: 0 reads as all ones, 1 to 7 name m1 to m7 (R168). -/
def isMaskOrZero (r : Reg) : Bool := decide (r.toNat ≤ 7)

/-- A window register of the class that sc names: s24 to s29, or v28 to v31 (R233, R234). -/
def isWindow (sc : BitVec 3) (r : Reg) : Bool :=
  if sc = 0 then decide (24 ≤ r.toNat ∧ r.toNat ≤ 29) else decide (28 ≤ r.toNat)

/-- The reason of R434 that the fields alone give: 1 when a field the entry does not use is nonzero or sc lies outside
the accepted range, else 2 when a field holds a value the entry excludes. -/
def reasonOf (unused values : Bool) : Option Nat :=
  if unused = false then some 1 else if values = false then some 2 else none

/-- The field check of TRAP, BRK (R84). -/
def zeroXFAD (x : XF) : Option Nat :=
  reasonOf (decide (x.a = 0 ∧ x.d = 0))
    (true)

/-- The field check of ERET, HALT (R84). -/
def zeroXFImmAD (x : XF) : Option Nat :=
  reasonOf (decide (x.imm = 0 ∧ x.a = 0 ∧ x.d = 0))
    (true)

/-- The field check of SYSRD (R84). -/
def zeroXFA (x : XF) : Option Nat :=
  reasonOf (decide (x.a = 0))
    (true)

/-- The field check of SYSWR (R84). -/
def zeroXFD (x : XF) : Option Nat :=
  reasonOf (decide (x.d = 0))
    (true)

/-- The field check of VSAVE, VRSTR, ASAVE, ARSTR, FRSAVE, FRLOAD (R84). -/
def zeroXFImmD (x : XF) : Option Nat :=
  reasonOf (decide (x.imm = 0 ∧ x.d = 0))
    (true)

/-- The field check of FENCE (R84). -/
def reasonFence (x : QF) : Option Nat :=
  reasonOf (decide (x.b = 0 ∧ x.a = 0 ∧ x.sc.toNat ≤ 5))
    (decide (x.d ≠ 0 ∧ x.d.toNat < 4))

/-- The field check of FSMP (R84). -/
def zeroQFBADFrom1Scope2 (x : QF) : Option Nat :=
  reasonOf (decide (x.b = 0 ∧ x.a = 0 ∧ x.d = 0 ∧ 1 ≤ x.sc.toNat ∧ x.sc.toNat ≤ 2))
    (true)

/-- The field check of CHUNK, YIELD, EXIT (R84). -/
def zeroQFScBAD (x : QF) : Option Nat :=
  reasonOf (decide (x.sc = 0 ∧ x.b = 0 ∧ x.a = 0 ∧ x.d = 0))
    (true)

/-- The field check of DCWB, DCINV (R84). -/
def zeroQFDFrom2Scope5 (x : QF) : Option Nat :=
  reasonOf (decide (x.d = 0 ∧ 2 ≤ x.sc.toNat ∧ x.sc.toNat ≤ 5))
    (true)

/-- The field check of ICINV (R84). -/
def zeroQFDFrom1Scope4 (x : QF) : Option Nat :=
  reasonOf (decide (x.d = 0 ∧ 1 ≤ x.sc.toNat ∧ x.sc.toNat ≤ 4))
    (true)

/-- The field check of IPF, DPF, MIGR (R84). -/
def zeroQFScBD (x : QF) : Option Nat :=
  reasonOf (decide (x.sc = 0 ∧ x.b = 0 ∧ x.d = 0))
    (true)

/-- The field check of JR, PWR (R84). -/
def zeroTFBD (x : TF) : Option Nat :=
  reasonOf (decide (x.b = 0 ∧ x.d = 0))
    (true)

/-- The field check of CALLR, CLZ, CTZ, POPC, PNOT, FSQRT (R84). -/
def zeroTFB (x : TF) : Option Nat :=
  reasonOf (decide (x.b = 0))
    (true)

/-- The field check of PRD (R84). -/
def zeroTFBA (x : TF) : Option Nat :=
  reasonOf (decide (x.b = 0 ∧ x.a = 0))
    (true)

/-- The field check of AMOADD, AMOAND, AMOOR, AMOXOR, AMOMIN, AMOMAX, AMOMINU, AMOMAXU, AMOSWP, AMOCAS, BARWT (R84). -/
def zeroQFFrom1Scope5 (x : QF) : Option Nat :=
  reasonOf (decide (1 ≤ x.sc.toNat ∧ x.sc.toNat ≤ 5))
    (true)

/-- The field check of REDADD, STL, BARARR (R84). -/
def zeroQFDFrom1Scope5 (x : QF) : Option Nat :=
  reasonOf (decide (x.d = 0 ∧ 1 ≤ x.sc.toNat ∧ x.sc.toNat ≤ 5))
    (true)

/-- The field check of LDA, BARTST (R84). -/
def zeroQFBFrom1Scope5 (x : QF) : Option Nat :=
  reasonOf (decide (x.b = 0 ∧ 1 ≤ x.sc.toNat ∧ x.sc.toNat ≤ 5))
    (true)

/-- The field check of QBIND (R84). -/
def reasonQbind (x : QF) : Option Nat :=
  reasonOf (decide (x.sc &&& 6 = 0))
    (isWindow x.sc x.d)

/-- The field check of QFREE (R84). -/
def reasonQfree (x : QF) : Option Nat :=
  reasonOf (decide (x.sc &&& 6 = 0 ∧ x.b = 0 ∧ x.d = 0))
    (isWindow x.sc x.a)

/-- The field check of QPUSHN, QPOPN (R84). -/
def reasonQpushn (x : QF) : Option Nat :=
  reasonOf (decide (x.sc = 0))
    (decide (24 ≤ x.a.toNat ∧ x.a.toNat ≤ 29))

/-- The field check of QSTAT (R84). -/
def reasonQstat (x : QF) : Option Nat :=
  reasonOf (decide (x.sc &&& 6 = 0 ∧ x.b = 0))
    (isWindow x.sc x.a)

/-- The field check of TQENQ, JCENQ, SPAWN, SCARM, SCTAKE, SCTAKEP, SCSET (R84). -/
def zeroQFSc (x : QF) : Option Nat :=
  reasonOf (decide (x.sc = 0))
    (true)

/-- The field check of SLEEP, SCREAD, SCDSRM (R84). -/
def zeroQFScB (x : QF) : Option Nat :=
  reasonOf (decide (x.sc = 0 ∧ x.b = 0))
    (true)

/-- The field check of SCGIVE, BARINIT, BAREXP (R84). -/
def zeroQFScD (x : QF) : Option Nat :=
  reasonOf (decide (x.sc = 0 ∧ x.d = 0))
    (true)

/-- The field check of SETVL, VSPAN (R84). -/
def zeroGFZ (x : GF) : Option Nat :=
  reasonOf (decide (x.z = 0))
    (true)

/-- The field check of SETVLI (R84). -/
def zeroGIFImmLowZ (x : GIF) : Option Nat :=
  reasonOf (decide (x.imm &&& 3072 = 0 ∧ x.z = 0))
    (true)

/-- The field check of VLD, VLDFF, VLDC, VST (R84). -/
def zeroVMFB (x : VMF) : Option Nat :=
  reasonOf (decide (x.b = 0))
    (true)

/-- The field check of VLDSEG, VSTSEG (R84). -/
def reasonVldseg (x : VMF) : Option Nat :=
  reasonOf (true)
    (decide (2 ≤ x.b.toNat ∧ x.b.toNat ≤ 8))

/-- The field check of VAMOADD, VAMOMIN, VAMOMAX, VAMOAND, VAMOOR, VAMOXOR, VAMOSWP, VAMOCAS, VAMOADD_NR, VAMOMIN_NR, VAMOMAX_NR, VAMOAND_NR, VAMOOR_NR, VAMOXOR_NR, VAMOSWP_NR (R84). -/
def zeroVAFFrom1Scope5 (x : VAF) : Option Nat :=
  reasonOf (decide (1 ≤ x.sc.toNat ∧ x.sc.toNat ≤ 5))
    (true)

/-- The field check of VADD, VSUB, VMUL, VMULH, VMULHU, VMACC, VAND, VOR, VXOR, VSLL, VSRL, VSRA, VMIN, VMAX, VMINU, VMAXU, VNARROW, VWIDEN, VPERM, VSLUP, VSLDN, VXCHG, BOXT, TRIT, TEXF, TEXQ (R84). -/
def zeroVFF (x : VF) : Option Nat :=
  reasonOf (decide (x.f = 0))
    (true)

/-- The field check of VFABS, VFNEG, VFSQRT, VFRCP, VFRSQ, VFEXP2, VFLOG2, VFSIN, VFCOS, VFCVTI, VFCVTF, TRDA, TADDA (R84). -/
def zeroVFVb (x : VF) : Option Nat :=
  reasonOf (decide (x.vb = 0))
    (true)

/-- The field check of VCMPEQ, VCMPNE, VCMPLT, VCMPLE, VCMPLTU, VCMPLEU (R84). -/
def reasonVcmpeq (x : VF) : Option Nat :=
  reasonOf (decide (x.f = 0))
    (isMask x.vd)

/-- The field check of VFCMPEQ, VFCMPLT, VFCMPLE, VFCMPUN (R84). -/
def reasonVfcmpeq (x : VF) : Option Nat :=
  reasonOf (true)
    (isMask x.vd)

/-- The field check of MAND, MOR, MXOR (R84). -/
def reasonMand (x : VF) : Option Nat :=
  reasonOf (decide (x.f = 0 ∧ x.m = 0))
    (isMask x.vd && isMaskOrZero x.va && isMaskOrZero x.vb)

/-- The field check of MNOT (R84). -/
def reasonMnot (x : VF) : Option Nat :=
  reasonOf (decide (x.f = 0 ∧ x.m = 0 ∧ x.vb = 0))
    (isMask x.vd && isMaskOrZero x.va)

/-- The field check of MFFS, MPOP (R84). -/
def reasonMffs (x : VF) : Option Nat :=
  reasonOf (decide (x.f = 0 ∧ x.vb = 0))
    (isMaskOrZero x.va)

/-- The field check of MSET (R84). -/
def reasonMset (x : VF) : Option Nat :=
  reasonOf (decide (x.f = 0 ∧ x.m = 0 ∧ x.vb = 0))
    (isMask x.vd)

/-- The field check of VIDX (R84). -/
def zeroVFFVbVa (x : VF) : Option Nat :=
  reasonOf (decide (x.f = 0 ∧ x.vb = 0 ∧ x.va = 0))
    (true)

/-- The field check of VMSEL (R84). -/
def reasonVmsel (x : VF) : Option Nat :=
  reasonOf (decide (x.f = 0))
    (decide (x.m ≠ 0))

/-- The field check of VCMPR, VEXPD, VBCST, VMOV, VKRANK, VHIST (R84). -/
def zeroVFFVb (x : VF) : Option Nat :=
  reasonOf (decide (x.f = 0 ∧ x.vb = 0))
    (true)

/-- The field check of VMVXS, VMVSX, TLDB (R84). -/
def zeroVFFM (x : VF) : Option Nat :=
  reasonOf (decide (x.f = 0 ∧ x.m = 0))
    (true)

/-- The field check of TSET (R84). -/
def reasonTset (x : VF) : Option Nat :=
  reasonOf (decide (x.vb &&& 30 = 0))
    (decide (x.m.toNat ≤ 2) && decide (x.vd.toNat ≤ 28) && decide (x.va.toNat ≤ 28))

/-- The field check of TMMA, TMMAF, TMMAP, TMMAPF, MMSX (R84). -/
def zeroVFM (x : VF) : Option Nat :=
  reasonOf (decide (x.m = 0))
    (true)

/-- The field check of TZACC (R84). -/
def zeroVFFMVb (x : VF) : Option Nat :=
  reasonOf (decide (x.f = 0 ∧ x.m = 0 ∧ x.vb = 0))
    (true)

/-- The field check of EDGE (R84). -/
def reasonEdge (x : VF) : Option Nat :=
  reasonOf (true)
    (isMask x.vd && decide (x.va.toNat ≤ 28) && decide (x.f ≠ 3))

/-- The field check of PXCMT (R84). -/
def reasonPxcmt (x : VF) : Option Nat :=
  reasonOf (decide (x.f = 0))
    (decide (x.vb.toNat ≤ 29))

/-- The field check of TCLR (R84). -/
def zeroVFFMVa (x : VF) : Option Nat :=
  reasonOf (decide (x.f = 0 ∧ x.m = 0 ∧ x.va = 0))
    (true)

/-- The field check of TRSLV (R84). -/
def reasonTrslv (x : VF) : Option Nat :=
  reasonOf (decide (x.f = 0 ∧ x.m = 0))
    (decide (x.vb.toNat ≤ 29))

/-- The field check of REPF (R84). -/
def zeroPFZ (x : PF) : Option Nat :=
  reasonOf (decide (x.z = 0))
    (true)

/-- The field check of CMOV, CADD, CSUB, CAND, CVADD, CVMUL, CVFADD (R84). -/
def zeroCFImm (x : CF) : Option Nat :=
  reasonOf (decide (x.imm = 0))
    (true)

/-- The lowest reason of R434 that the fields alone give, if any. -/
def fieldReason : Instr → Option Nat
  | .trap x => zeroXFAD x
  | .eret x => zeroXFImmAD x
  | .sysrd x => zeroXFA x
  | .syswr x => zeroXFD x
  | .sysset _ => none
  | .sysclr _ => none
  | .vsave x => zeroXFImmD x
  | .vrstr x => zeroXFImmD x
  | .asave x => zeroXFImmD x
  | .arstr x => zeroXFImmD x
  | .frsave x => zeroXFImmD x
  | .frload x => zeroXFImmD x
  | .halt x => zeroXFImmAD x
  | .brk x => zeroXFAD x
  | .fence x => reasonFence x
  | .fsmp x => zeroQFBADFrom1Scope2 x
  | .chunk x => zeroQFScBAD x
  | .dcwb x => zeroQFDFrom2Scope5 x
  | .dcinv x => zeroQFDFrom2Scope5 x
  | .icinv x => zeroQFDFrom1Scope4 x
  | .ipf x => zeroQFScBD x
  | .dpf x => zeroQFScBD x
  | .br _ => none
  | .call _ => none
  | .bp _ => none
  | .bpn _ => none
  | .jr x => zeroTFBD x
  | .callr x => zeroTFB x
  | .smloop _ => none
  | .liw _ => none
  | .pcadd _ => none
  | .add _ => none
  | .sub _ => none
  | .mul _ => none
  | .mulh _ => none
  | .mulhu _ => none
  | .div _ => none
  | .divu _ => none
  | .rem _ => none
  | .remu _ => none
  | .and _ => none
  | .or _ => none
  | .xor _ => none
  | .sll _ => none
  | .srl _ => none
  | .sra _ => none
  | .min _ => none
  | .max _ => none
  | .minu _ => none
  | .maxu _ => none
  | .clz x => zeroTFB x
  | .ctz x => zeroTFB x
  | .popc x => zeroTFB x
  | .sel _ => none
  | .addi _ => none
  | .andi _ => none
  | .ori _ => none
  | .xori _ => none
  | .slli _ => none
  | .srli _ => none
  | .srai _ => none
  | .cmpeq _ => none
  | .cmpne _ => none
  | .cmplt _ => none
  | .cmple _ => none
  | .cmpltu _ => none
  | .cmpleu _ => none
  | .pand _ => none
  | .por _ => none
  | .pxor _ => none
  | .pnot x => zeroTFB x
  | .prd x => zeroTFBA x
  | .pwr x => zeroTFBD x
  | .cmpeqi _ => none
  | .cmplti _ => none
  | .ld8 _ => none
  | .ld8u _ => none
  | .ld16 _ => none
  | .ld16u _ => none
  | .ld32 _ => none
  | .ld32u _ => none
  | .ld64 _ => none
  | .st8 _ => none
  | .st16 _ => none
  | .st32 _ => none
  | .st64 _ => none
  | .fadd _ => none
  | .fsub _ => none
  | .fmul _ => none
  | .fma _ => none
  | .fdiv _ => none
  | .fsqrt x => zeroTFB x
  | .fcmpeq _ => none
  | .fcmplt _ => none
  | .fcmple _ => none
  | .fcmpun _ => none
  | .fcvtif _ => none
  | .fcvtfi _ => none
  | .amoadd x => zeroQFFrom1Scope5 x
  | .amoand x => zeroQFFrom1Scope5 x
  | .amoor x => zeroQFFrom1Scope5 x
  | .amoxor x => zeroQFFrom1Scope5 x
  | .amomin x => zeroQFFrom1Scope5 x
  | .amomax x => zeroQFFrom1Scope5 x
  | .amominu x => zeroQFFrom1Scope5 x
  | .amomaxu x => zeroQFFrom1Scope5 x
  | .amoswp x => zeroQFFrom1Scope5 x
  | .amocas x => zeroQFFrom1Scope5 x
  | .redadd x => zeroQFDFrom1Scope5 x
  | .lda x => zeroQFBFrom1Scope5 x
  | .stl x => zeroQFDFrom1Scope5 x
  | .qbind x => reasonQbind x
  | .qfree x => reasonQfree x
  | .qpushn x => reasonQpushn x
  | .qpopn x => reasonQpushn x
  | .qstat x => reasonQstat x
  | .tqenq x => zeroQFSc x
  | .jcenq x => zeroQFSc x
  | .spawn x => zeroQFSc x
  | .migr x => zeroQFScBD x
  | .yield x => zeroQFScBAD x
  | .exit x => zeroQFScBAD x
  | .sleep x => zeroQFScB x
  | .scarm x => zeroQFSc x
  | .sctake x => zeroQFSc x
  | .sctakep x => zeroQFSc x
  | .scgive x => zeroQFScD x
  | .scread x => zeroQFScB x
  | .scset x => zeroQFSc x
  | .scdsrm x => zeroQFScB x
  | .barinit x => zeroQFScD x
  | .bararr x => zeroQFDFrom1Scope5 x
  | .barexp x => zeroQFScD x
  | .barwt x => zeroQFFrom1Scope5 x
  | .bartst x => zeroQFBFrom1Scope5 x
  | .setvl x => zeroGFZ x
  | .setvli x => zeroGIFImmLowZ x
  | .vspan x => zeroGFZ x
  | .vld x => zeroVMFB x
  | .vlds _ => none
  | .vldg _ => none
  | .vldff x => zeroVMFB x
  | .vldseg x => reasonVldseg x
  | .vldb _ => none
  | .vldc x => zeroVMFB x
  | .vst x => zeroVMFB x
  | .vsts _ => none
  | .vstsc _ => none
  | .vstseg x => reasonVldseg x
  | .vstb _ => none
  | .vamoadd x => zeroVAFFrom1Scope5 x
  | .vamomin x => zeroVAFFrom1Scope5 x
  | .vamomax x => zeroVAFFrom1Scope5 x
  | .vamoand x => zeroVAFFrom1Scope5 x
  | .vamoor x => zeroVAFFrom1Scope5 x
  | .vamoxor x => zeroVAFFrom1Scope5 x
  | .vamoswp x => zeroVAFFrom1Scope5 x
  | .vamocas x => zeroVAFFrom1Scope5 x
  | .vamoaddNr x => zeroVAFFrom1Scope5 x
  | .vamominNr x => zeroVAFFrom1Scope5 x
  | .vamomaxNr x => zeroVAFFrom1Scope5 x
  | .vamoandNr x => zeroVAFFrom1Scope5 x
  | .vamoorNr x => zeroVAFFrom1Scope5 x
  | .vamoxorNr x => zeroVAFFrom1Scope5 x
  | .vamoswpNr x => zeroVAFFrom1Scope5 x
  | .vadd x => zeroVFF x
  | .vsub x => zeroVFF x
  | .vmul x => zeroVFF x
  | .vmulh x => zeroVFF x
  | .vmulhu x => zeroVFF x
  | .vmacc x => zeroVFF x
  | .vand x => zeroVFF x
  | .vor x => zeroVFF x
  | .vxor x => zeroVFF x
  | .vsll x => zeroVFF x
  | .vsrl x => zeroVFF x
  | .vsra x => zeroVFF x
  | .vmin x => zeroVFF x
  | .vmax x => zeroVFF x
  | .vminu x => zeroVFF x
  | .vmaxu x => zeroVFF x
  | .vsadd _ => none
  | .vssub _ => none
  | .vnarrow x => zeroVFF x
  | .vwiden x => zeroVFF x
  | .vfadd _ => none
  | .vfsub _ => none
  | .vfmul _ => none
  | .vfma _ => none
  | .vfms _ => none
  | .vfnma _ => none
  | .vfmin _ => none
  | .vfmax _ => none
  | .vfabs x => zeroVFVb x
  | .vfneg x => zeroVFVb x
  | .vfdiv _ => none
  | .vfsqrt x => zeroVFVb x
  | .vfrcp x => zeroVFVb x
  | .vfrsq x => zeroVFVb x
  | .vfexp2 x => zeroVFVb x
  | .vflog2 x => zeroVFVb x
  | .vfsin x => zeroVFVb x
  | .vfcos x => zeroVFVb x
  | .vfcvt _ => none
  | .vfcvti x => zeroVFVb x
  | .vfcvtf x => zeroVFVb x
  | .vcmpeq x => reasonVcmpeq x
  | .vcmpne x => reasonVcmpeq x
  | .vcmplt x => reasonVcmpeq x
  | .vcmple x => reasonVcmpeq x
  | .vcmpltu x => reasonVcmpeq x
  | .vcmpleu x => reasonVcmpeq x
  | .vfcmpeq x => reasonVfcmpeq x
  | .vfcmplt x => reasonVfcmpeq x
  | .vfcmple x => reasonVfcmpeq x
  | .vfcmpun x => reasonVfcmpeq x
  | .mand x => reasonMand x
  | .mor x => reasonMand x
  | .mxor x => reasonMand x
  | .mnot x => reasonMnot x
  | .mffs x => reasonMffs x
  | .mpop x => reasonMffs x
  | .mset x => reasonMset x
  | .vidx x => zeroVFFVbVa x
  | .vmsel x => reasonVmsel x
  | .vperm x => zeroVFF x
  | .vslup x => zeroVFF x
  | .vsldn x => zeroVFF x
  | .vcmpr x => zeroVFFVb x
  | .vexpd x => zeroVFFVb x
  | .vbcst x => zeroVFFVb x
  | .vmvxs x => zeroVFFM x
  | .vmvsx x => zeroVFFM x
  | .vmov x => zeroVFFVb x
  | .vxchg x => zeroVFF x
  | .vkrank x => zeroVFFVb x
  | .vhist x => zeroVFFVb x
  | .vredsum _ => none
  | .vredmax _ => none
  | .vredmin _ => none
  | .vfredo _ => none
  | .vfredf _ => none
  | .vfredmax _ => none
  | .vfredmin _ => none
  | .tset x => reasonTset x
  | .tldb x => zeroVFFM x
  | .tmma x => zeroVFM x
  | .tmmaf x => zeroVFM x
  | .tmmap x => zeroVFM x
  | .tmmapf x => zeroVFM x
  | .trda x => zeroVFVb x
  | .tzacc x => zeroVFFMVb x
  | .tadda x => zeroVFVb x
  | .mmsx x => zeroVFM x
  | .edge x => reasonEdge x
  | .boxt x => zeroVFF x
  | .trit x => zeroVFF x
  | .texf x => zeroVFF x
  | .texq x => zeroVFF x
  | .pxcmt x => reasonPxcmt x
  | .tclr x => zeroVFFMVa x
  | .trslv x => reasonTrslv x
  | .repf x => zeroPFZ x
  | .cmov x => zeroCFImm x
  | .cli _ => none
  | .caddi _ => none
  | .cadd x => zeroCFImm x
  | .csub x => zeroCFImm x
  | .cand x => zeroCFImm x
  | .cslli _ => none
  | .csrli _ => none
  | .cld _ => none
  | .cst _ => none
  | .cbp _ => none
  | .cbpn _ => none
  | .cvadd x => zeroCFImm x
  | .cvmul x => zeroCFImm x
  | .cvfadd x => zeroCFImm x
  | .cvfma _ => none
  | .dispatch _ => none
  | .launchCompletion _ => none
  | .chunkCommit _ => none
  | .externalClusterWrite _ _ => none
  | .impreciseFaultTrap _ => none
  | .pendingResultArrival _ => none
  | .loadDataArrival _ => none
  | .spanGrant _ => none
  | .icacheFill _ => none
  | .migrationArrival _ => none
  | .runQueueFallback _ => none
  | .popWaitWake _ => none
  | .capacityWaitWake _ => none
  | .preemptionRequest _ => none
  | .timeSliceTrap _ => none
  | .hostInterrupt _ => none
  | .slotReset _ => none
  | .sleepWake _ => none
  | .pairPartnerTimeout _ => none
  | .agingStep _ _ => none
  | .gangReservationStart _ => none
  | .closedClusterFallback _ => none
  | .clusterSteal _ => none
  | .resumeWaitTimeout _ => none
  | .homeTakeRequest _ => none
  | .homeGive _ => none
  | .recallMessage _ _ => none
  | .recallExactPoint _ => none
  | .parkedTakeGrant _ => none
  | .recallHolderTimeout _ _ => none
  | .barwtWake _ => none
  | .hcpy _ => none
  | .hcpyt _ => none
  | .hgth _ => none
  | .hsct _ => none
  | .hfil _ => none
  | .hred _ => none
  | .hsig _ => none
  | .engineCommandComplete _ => none
  | .resultRecordPlace _ => none
  | .jobCardTile _ => none
  | .redaddPerform => none
  | .replayEnqueueRetry => none
  | .queueSwapIn _ => none
  | .pendingQueueSwapIn _ => none
  | .qctlMakeResident _ _ _ => none
  | .qctlEvict _ _ _ => none
  | .qctlRetire _ _ _ => none
  | .sctlWrite _ _ => none
  | .hostWindowWrite _ _ _ _ _ => none
  | .heldWindowWriteDrop => none
  | .translationRequest _ _ => none
  | .pageMove _ _ _ _ => none
  | .settleExpiry _ => none
  | .directoryRead _ _ => none
  | .directoryWriteOwnership _ _ => none
  | .sectorEvict _ _ => none
  | .dieCacheLineEviction _ => none
  | .ptbaseWrite _ _ => none
  | .vctxWrite _ _ => none
  | .vectorLengthWrite _ _ _ => none
  | .tileShapeWrite _ _ _ => none
  | .pwreqWrite _ _ => none
  | .leaseWrite _ _ => none
  | .pwbudWrite _ _ => none
  | .hmodeWrite _ _ => none
  | .registerWrite _ _ => none
  | .ffaddWrite _ _ _ => none
  | .frameRecall _ _ => none
  | .frameRecallComplete _ => none
  | .modctlWrite _ => none
  | .modeNormalEntry => none
  | .moduleReset => none
  | .hostPortEnumerated _ => none
  | .bondFabricTrained => none
  | .dieReady _ => none
  | .clusterReady _ => none
  | .bringupTimeout _ _ => none
  | .slowLoopPeriod _ => none
  | .leaseExpiry _ => none
  | .droopDetected _ _ => none
  | .railMonitorHold _ => none
  | .stepRise _ => none
  | .ccapWrite _ _ _ => none
  | .clusterOvertemp _ _ => none
  | .overtempClear _ _ => none
  | .thermalTrip _ _ => none
  | .thermalTripReturn _ _ => none
  | .railOvercurrent _ => none
  | .powerTrip _ _ => none
  | .watchdogExpiry _ => none
  | .correctedError _ _ => none
  | .uncorrectedError _ _ _ => none
  | .persistentError _ _ _ => none
  | .laneSliceFence _ => none
  | .macroScrub _ _ _ => none
  | .birfelFlitReplay _ => none
  | .birfelLinkDrop _ => none
  | .peerUnreachable _ => none
  | .peerFlagMessage _ _ _ _ => none
  | .bondLinkFailure _ => none
  | .dieUnreachable _ => none
  | .dieReturn _ => none
  | .hostPortLinkDown _ => none
  | .getVersion _ => none
  | .getCapabilities _ => none
  | .negotiateAlgorithms _ => none
  | .getDigests _ => none
  | .getCertificate _ => none
  | .challenge _ _ => none
  | .getMeasurements _ => none
  | .mctpReport => none
  | .hctlWrite _ _ => none
  | .headRaise _ => none
  | .headDeadline _ => none
  | .scanoutReadFault _ _ _ _ => none
  | .commitPacket _ => none
  | .resolveCredit => none
  | .stuckTile _ _ => none
  | .tcskipWrite _ _ => none
  | .vectorUnitDispatch _ => none
  | .unallocatedEncoding _ => none
  | .fetchFault _ _ _ => none
  | .birfelLinkTrained _ _ => none
  | .presentationHeadUsable _ => none

/-- Reason 24 of R434: a shift amount or conversion code with a bit that must be zero (R137, R146); and the pattern of zeros,
which is not cmov s0 (R81, R93). -/
def lateOk : Instr → Bool
  | .slli x | .srli x | .srai x => decide (x.imm.toNat < 64)
  | .fcvtif x | .fcvtfi x => decide (x.b.toNat < 16)
  | .cmov x => decide (x.r ≠ 0)
  | _ => true

/-- Every field holds a value the entry admits. -/
def WellFormed (i : Instr) : Prop := fieldReason i = none ∧ lateOk i = true

/-- Whether the row has an encoding: false for the steps of the part itself. -/
def isEncoded : Instr → Bool
  | .dispatch _ => false
  | .launchCompletion _ => false
  | .chunkCommit _ => false
  | .externalClusterWrite _ _ => false
  | .impreciseFaultTrap _ => false
  | .pendingResultArrival _ => false
  | .loadDataArrival _ => false
  | .spanGrant _ => false
  | .icacheFill _ => false
  | .migrationArrival _ => false
  | .runQueueFallback _ => false
  | .popWaitWake _ => false
  | .capacityWaitWake _ => false
  | .preemptionRequest _ => false
  | .timeSliceTrap _ => false
  | .hostInterrupt _ => false
  | .slotReset _ => false
  | .sleepWake _ => false
  | .pairPartnerTimeout _ => false
  | .agingStep _ _ => false
  | .gangReservationStart _ => false
  | .closedClusterFallback _ => false
  | .clusterSteal _ => false
  | .resumeWaitTimeout _ => false
  | .homeTakeRequest _ => false
  | .homeGive _ => false
  | .recallMessage _ _ => false
  | .recallExactPoint _ => false
  | .parkedTakeGrant _ => false
  | .recallHolderTimeout _ _ => false
  | .barwtWake _ => false
  | .hcpy _ => false
  | .hcpyt _ => false
  | .hgth _ => false
  | .hsct _ => false
  | .hfil _ => false
  | .hred _ => false
  | .hsig _ => false
  | .engineCommandComplete _ => false
  | .resultRecordPlace _ => false
  | .jobCardTile _ => false
  | .redaddPerform => false
  | .replayEnqueueRetry => false
  | .queueSwapIn _ => false
  | .pendingQueueSwapIn _ => false
  | .qctlMakeResident _ _ _ => false
  | .qctlEvict _ _ _ => false
  | .qctlRetire _ _ _ => false
  | .sctlWrite _ _ => false
  | .hostWindowWrite _ _ _ _ _ => false
  | .heldWindowWriteDrop => false
  | .translationRequest _ _ => false
  | .pageMove _ _ _ _ => false
  | .settleExpiry _ => false
  | .directoryRead _ _ => false
  | .directoryWriteOwnership _ _ => false
  | .sectorEvict _ _ => false
  | .dieCacheLineEviction _ => false
  | .ptbaseWrite _ _ => false
  | .vctxWrite _ _ => false
  | .vectorLengthWrite _ _ _ => false
  | .tileShapeWrite _ _ _ => false
  | .pwreqWrite _ _ => false
  | .leaseWrite _ _ => false
  | .pwbudWrite _ _ => false
  | .hmodeWrite _ _ => false
  | .registerWrite _ _ => false
  | .ffaddWrite _ _ _ => false
  | .frameRecall _ _ => false
  | .frameRecallComplete _ => false
  | .modctlWrite _ => false
  | .modeNormalEntry => false
  | .moduleReset => false
  | .hostPortEnumerated _ => false
  | .bondFabricTrained => false
  | .dieReady _ => false
  | .clusterReady _ => false
  | .bringupTimeout _ _ => false
  | .slowLoopPeriod _ => false
  | .leaseExpiry _ => false
  | .droopDetected _ _ => false
  | .railMonitorHold _ => false
  | .stepRise _ => false
  | .ccapWrite _ _ _ => false
  | .clusterOvertemp _ _ => false
  | .overtempClear _ _ => false
  | .thermalTrip _ _ => false
  | .thermalTripReturn _ _ => false
  | .railOvercurrent _ => false
  | .powerTrip _ _ => false
  | .watchdogExpiry _ => false
  | .correctedError _ _ => false
  | .uncorrectedError _ _ _ => false
  | .persistentError _ _ _ => false
  | .laneSliceFence _ => false
  | .macroScrub _ _ _ => false
  | .birfelFlitReplay _ => false
  | .birfelLinkDrop _ => false
  | .peerUnreachable _ => false
  | .peerFlagMessage _ _ _ _ => false
  | .bondLinkFailure _ => false
  | .dieUnreachable _ => false
  | .dieReturn _ => false
  | .hostPortLinkDown _ => false
  | .getVersion _ => false
  | .getCapabilities _ => false
  | .negotiateAlgorithms _ => false
  | .getDigests _ => false
  | .getCertificate _ => false
  | .challenge _ _ => false
  | .getMeasurements _ => false
  | .mctpReport => false
  | .hctlWrite _ _ => false
  | .headRaise _ => false
  | .headDeadline _ => false
  | .scanoutReadFault _ _ _ _ => false
  | .commitPacket _ => false
  | .resolveCredit => false
  | .stuckTile _ _ => false
  | .tcskipWrite _ _ => false
  | .vectorUnitDispatch _ => false
  | .unallocatedEncoding _ => false
  | .fetchFault _ _ _ => false
  | .birfelLinkTrained _ _ => false
  | .presentationHeadUsable _ => false
  | _ => true

end Sys2Proof
end

