-- ==== Sys2Proof/Machine/Operands.lean ====
section
/-! DEFINITION. Machine/Operands.lean: every operand form of the scalar side. How an instruction is checked (R89, R90),
waits (R42, R45, R47), pops and pushes bound registers (R133, R231, R235, R236, R467) and joins its slot's chunk (R289
to R291). -/

namespace Sys2Proof.Machine

/-- What a cause leaves behind beside the trap itself: nothing; a binding cleared because its queue was retired (R467);
a malformed command discarded with its reserved place (R438); what a save wrote before it failed (R258); what an access that
failed leaves at its translation (R75, R276, R286). -/
inductive Fix where
  | none
  | unbind (p : Nat)
  | dropCommand (p engine : Nat)
  | saved (pieces : List (Word × List Byte))
  | access (va : Word) (w : Want)
  deriving DecidableEq, Repr

/-- A request that a waiting instruction sends to a counter's home: counter, kind and value (R339). -/
structure Ask where
  ctr : Nat
  kind : Nat
  value : Nat
  deriving DecidableEq, Repr

/-- What carrying out an instruction came to: done with a value; a precise cause, of which nothing but the fix stays
done; a wait out of the rotation, with the request it sends; the open chunk must close and commit first; or its own
access has squashed the chunk (R294), and it has not happened. -/
inductive R (α : Type) where
  | ok (a : α) (s : State)
  | trap (c : Cause) (fix : Fix)
  | wait (w : Wait) (ask : Option Ask)
  | close
  | undone (s : State)

/-- One thing after another: the second happens when the first is done. -/
def R.bind {α β : Type} (r : R α) (f : α → State → R β) : R β :=
  match r with
  | .ok a s => f a s
  | .trap c x => .trap c x
  | .wait w a => .wait w a
  | .close => .close
  | .undone s => .undone s

/-- A change of state that always happens. -/
def R.step (f : State → State) (s : State) : R Unit := .ok () (f s)

/-- A wait that first commits the open chunk (R231). -/
def waitClosed {α : Type} (s : State) (w : Wait) (a : Option Ask) : R α :=
  if s.me.chunk.count = 0 then .wait w a else .close

/-! What an instruction names (R82, R84, R90, R252). -/

/-- The fields of an instruction that its checks read: the reason its field values give, the scalar registers it reads
and writes, whether it needs a full thread, supervisor mode (with the reason of R433), live vector state, what it needs of the matrix state (1 the
accumulator field, 2 the stores of R68), whether it runs alone, how many instructions it counts as (R96), and a reason below 12 that its operands give once they are
read (R434). -/
structure Form where
  reason : Option Nat := none
  srcs : List Reg := []
  dsts : List Reg := []
  full : Bool := false
  priv : Bool := false
  privReason : Nat := 1
  vec : Bool := false
  mat : Nat := 0
  irrev : Bool := false
  count : Nat := 1
  low : Option Nat := none

/-- A cause that names the instruction's own address in eaddr (R432). -/
def ownCause (x : Slot) (code reason : Nat) : Cause := ⟨code, x.regs.pc, einfoOf reason 0 false 0⟩
/-- A cause that an instruction's own table read met: for a precise 0x12, eaddr is the instruction's address (R432). -/
def entryCause (x : Slot) (c : Cause) : Cause := if c.code = 0x12 then { c with addr := x.regs.pc } else c

/-- The field vec of vstate (R72). -/
def Vec.vecField (v : Vec) : Nat := fieldOf v.vstate 1 0
/-- The field acc of vstate (R72). -/
def Vec.accField (v : Vec) : Nat := fieldOf v.vstate 3 2
/-- The field cim of vstate (R72). -/
def Vec.cimField (v : Vec) : Nat := fieldOf v.vstate 5 4

/-- Matrix first use (R68, R192, R254). -/
def matFault (x : Slot) (owner : Bool) (mat : Nat) : Option Cause :=
  if mat = 0 then none
  else if mat = 2 ∧ owner = false then some ⟨0x05, 0, 1⟩
  else if x.vec.accField = 0 then some ⟨0x05, 0, 2⟩
  else if mat = 2 ∧ x.vec.cimField = 0 then some ⟨0x05, 0, 3⟩
  else none

/-- Slot `k` is the matrix owner of its core (R68). -/
def isOwner (s : State) (k : Nat) : Bool := decide ((s.core (coreOf k)).mown = (s.slot k).vec.ctx)

/-- The decode checks of R89 from privilege on: 0x11, then 0x12 with the lowest reason, then vector and matrix first use. -/
def decodeFault (x : Slot) (owner : Bool) (f : Form) : Option Cause :=
  if f.priv = true ∧ x.spv = false then some (ownCause x 0x11 f.privReason)
  else match f.reason with
  | some r => some (ownCause x 0x12 r)
  | none =>
    if x.light = true ∧ (f.full = true ∨ (f.srcs ++ f.dsts).any (fun r => decide (10 ≤ r.toNat ∧ r.toNat ≤ 30)) = true) then
      some (ownCause x 0x12 3)
    else if f.vec = true ∧ x.vec.vecField = 0 then some ⟨0x04, 0, 0⟩
    else matFault x owner f.mat

/-! Registers pending on the vector unit (R45, R47). -/

/-- The register a destination names. -/
def Dst.name : Dst → Reg
  | .reg r => r
  | .push r _ => r
  | .gone r _ _ => r

/-- Registers made pending by entries of the vector instruction queue and results on their way. -/
def pendingRegs (x : Slot) : List Reg :=
  x.vq.flatMap (fun e => e.dst.map Dst.name) ++ x.arrivals.map (fun a => a.1.name)

/-- Registers that vector instructions of the open chunk will make pending. -/
def chunkPending (x : Slot) : List Reg :=
  x.chunk.deferred.flatMap (fun d => match d with | .vec e => e.dst.map Dst.name | _ => [])

/-! Ports (R74, R234 to R236). -/

/-- The port-table entry to which a window register is bound: s24 to s29 have the fields 0 to 5 of qmap. -/
def boundPort (x : Slot) (r : Reg) : Option Nat :=
  if 24 ≤ r.toNat ∧ r.toNat ≤ 29 then
    let f := fieldOf x.sys.qmap (6 * (r.toNat - 24) + 5) (6 * (r.toNat - 24))
    if f.testBit 5 then some (f % 32) else none
  else none

/-- The register is bound. -/
def isBound (x : Slot) (r : Reg) : Bool := (boundPort x r).isSome

/-- The port entry of a number. -/
def Slot.port (x : Slot) (p : Nat) : Option Port := rd none x.ports p
/-- The slot with a port entry replaced. -/
def Slot.putPort (x : Slot) (p : Nat) (q : Option Port) : Slot := { x with ports := wr none x.ports p q }

/-- The bound fields of qmap: window numbers 0 to 9 with their port entries. -/
def boundFields (q : Word) : List (Nat × Nat) :=
  (upFrom 0 10).filterMap (fun w =>
    let f := fieldOf q (6 * w + 5) (6 * w)
    if f.testBit 5 then some (w, f % 32) else none)

/-- A binding cleared from every field that names the entry, and the entry freed (R467). -/
def unbindPort (x : Slot) (p : Nat) : Slot :=
  { (x.putPort p none) with sys := { x.sys with
      qmap := (boundFields x.sys.qmap).foldl
        (fun q e => if e.2 = p then setField q (6 * e.1 + 5) (6 * e.1) 0 else q) x.sys.qmap } }

/-- The cause of an access to a binding whose queue was retired, with the binding cleared (R466, R467). -/
def staleTrap {α : Type} (s : State) (p : Nat) (q : Port) : R α :=
  .trap ⟨0x19, s.me.sys.qtbase + word (64 * (q.handle % 65536)), einfoOf 3 0 false q.handle⟩ (.unbind p)

/-- A queue that is not resident: a wait in hardware mode, ecause 0x07 in host-assisted mode (R317, R318). -/
def needResident {α : Type} (s : State) (key handle : Nat) (k : State → R α) : R α :=
  if residentQ s key then k (touchQueue s key)
  else if assisted s (clusterOf s.cur) 1 then .trap ⟨0x07, 0, word handle⟩ .none
  else waitClosed s (.queueMiss key false) none

/-- A push or a pop through a binding whose queue has left the queue storage: it waits until the queue is back (R317); the
miss traps only where a queue is named by its handle (R251, R318). -/
def awaitResident {α : Type} (s : State) (key : Nat) (k : State → R α) : R α :=
  if residentQ s key then k (touchQueue s key) else waitClosed s (.queueMiss key (assisted s (clusterOf s.cur) 1)) none

/-- A unit of a capacity counter that a pop or a dispatch gives back (R319); the unit is lost, with a record, when the
counter is no longer armed by the process (R314). -/
def returnUnit (s : State) (cluster asid ctr : Nat) (ctrVa : Word) (home handle : Nat) : State :=
  match s.ctr ctr with
  | some c => if c.asid = asid then giveUnits s cluster ctr 1
              else eventRecord s asid 0x1E 1 ctrVa 4 4 home { TaskInfo.none with queue := handle }
  | none => eventRecord s asid 0x1E 1 ctrVa 4 4 home { TaskInfo.none with queue := handle }

/-- The misuse of a window register (R235). -/
def portMisuse {α : Type} (s : State) : R α := .trap (ownCause s.me 0x12 12) .none

/-- The oldest entry of a bound scalar register's queue (R235). -/
def popPort (s : State) (p : Nat) : R Word :=
  match s.me.port p with
  | none => portMisuse s
  | some q =>
    if q.stale then staleTrap s p q
    else match q.kind with
    | 1 => awaitResident s q.base (fun s =>
        match s.queue q.base with
        | some qs => match qs.elems with
          | v :: rest =>
            .ok v (returnUnit (s.putQueue q.base (some { qs with elems := rest })) (clusterOf s.cur) q.asid qs.ctr
              qs.ctrVa qs.home q.handle)
          | [] => .wait (.pop p) none
        | none => .wait (.pop p) none)
    | 2 =>
      let c := coreOf s.cur
      let sq := rd ScalarQ.empty (s.core c).sq q.base
      match sq.elems with
      | v :: rest => .ok v (s.onCore c (fun y => { y with sq := wr .empty y.sq q.base { sq with elems := rest } }))
      | [] => .wait (.pop p) none
    | 5 => match q.half with
      | some v => .ok v (s.onMe (fun x => x.putPort p (some { q with half := none })))
      | none => match s.resultsOf q.base with
        | (lo, hi) :: rest =>
          .ok lo ((s.putResults q.base rest).onMe
            (fun x => x.putPort p (some { q with half := some hi })))
        | [] => .wait (.pop p) none
    | _ => portMisuse s

/-- The entry that a pop of the port would take is there. -/
def popReady (s : State) (k p : Nat) : Bool :=
  match (s.slot k).port p with
  | none => true
  | some q => q.stale || (match q.kind with
    | 1 => match s.queue q.base with | some qs => !qs.elems.isEmpty || !qs.resident | none => true
    | 2 => !(rd ScalarQ.empty (s.core (coreOf k)).sq q.base).elems.isEmpty
    | 5 => q.half.isSome || !(s.resultsOf q.base).isEmpty
    | _ => true)

/-- Every bound register among the sources is popped once (R133), in the order in which the instruction's entry lists its
sources: the spec orders no two of them (DESIGN CHOICE, log 170). -/
def popAll (s : State) : List Reg → List (Reg × Word) → R (List (Reg × Word))
  | [], got => .ok got s
  | r :: rs, got =>
    match boundPort s.me r with
    | none => popAll s rs got
    | some p =>
      if got.any (fun e => e.1 == r) then popAll s rs got
      else match popPort s p with
        | .ok v s' => popAll s' rs (got ++ [(r, v)])
        | .trap c x => .trap c x
        | .wait w a => .wait w a
        | .close => .close
        | .undone t => .undone t

/-- The value of a source register: the popped value when it was popped, and otherwise the register. -/
def srcVal (s : State) (got : List (Reg × Word)) (r : Reg) : Word :=
  match got.find? (fun e => e.1 == r) with
  | some e => e.2
  | none => s.me.regs.get r

/-! Pushes (R231, R235, R236). -/

/-- A deferred effect joins the open chunk. -/
def defer (s : State) (d : Deferred) : State :=
  s.onMe (fun x => { x with chunk := { x.chunk with deferred := x.chunk.deferred ++ [d] } })

/-- One unit of a capacity counter is taken for the slot (R231, R339): from the allowance, or by a unit the home has
granted; otherwise a blocking form asks the home and waits. A take served behind a disarm traps with reason 3 (R439). -/
def takeCapacity (s : State) (ctr asid : Nat) (ctrVa : Word) : R Unit :=
  match s.me.answer.filter (fun a => a.ctr == ctr && a.reason != 0) with
  | some a => .trap ⟨0x1E, ctrVa, einfoOf a.reason 0 false 0⟩ .none
  | none => match s.ctr ctr with
  | none => .trap ⟨0x1E, ctrVa, einfoOf 1 0 false 0⟩ .none
  | some c =>
    if c.asid ≠ asid then .trap ⟨0x1E, ctrVa, einfoOf 2 0 false 0⟩ .none
    else if s.me.granted = some ctr then .ok () (s.onMe (fun x => { x with granted := none }))
    else match localTake s (clusterOf s.cur) ctr 1 with
      | some s1 => .ok () s1
      | none => waitClosed s (.counter ctr) (some ⟨ctr, 6, 1⟩)

/-- A reservation in the queue itself: done when there is room, otherwise a wait (R231). -/
def reserve {α : Type} (s : State) (kind idx : Nat) (room : Bool) (k : R α) : R α :=
  if room then k else waitClosed s (.capacity kind idx) none

/-- Fields of a command word (R237). -/
structure CmdFields where
  cmd : Nat
  sig : Bool
  dir : Bool
  zero : Nat
  tag : Nat
  len : Nat
  off : Nat
  cluster : Nat
  mva : Nat
  deriving DecidableEq, Repr

/-- The fields of the command that two dwords make (R237). -/
def cmdFields (lo hi : Word) : CmdFields :=
  let w := lo.toNat + hi.toNat * 2 ^ 64
  { cmd := bits w 3 0, sig := bit w 4, dir := bit w 5, zero := bits w 7 6, tag := bits w 15 8, len := bits w 39 16
    off := bits w 65 40, cluster := bits w 70 66, mva := bits w 127 71 }

/-- The lowest reason for which a command is malformed (R237, R438): one that signals also needs the barrier word that
its binding names, aligned and within a cluster's window (R234). -/
def cmdFault (c : CmdFields) (opt : Word) : Option Nat :=
  let barrier := opt.getLsbD 31
  let word_ := fieldOf opt 25 0
  let record := decide (c.cmd = 1 ∨ c.cmd = 2 ∨ c.cmd = 3 ∨ c.cmd = 5)
  if 7 ≤ c.cmd then some 1
  else if c.zero ≠ 0 ∨ (record = true ∧ (c.off ≠ 0 ∨ c.cluster ≠ 0 ∨ c.len ≠ 0 ∨ c.dir = true)) ∨
      (c.cmd = 4 ∧ c.dir = false ∧ c.mva / 2 ^ 32 ≠ 0) ∨ (c.cmd = 6 ∧ c.mva ≠ 0) then some 2
  else if c.sig = true ∧ barrier = false then some 3
  else if (record = true ∧ c.mva % 64 ≠ 0) ∨ (c.cmd = 6 ∧ c.off % 32 ≠ 0) ∨
      (c.cmd = 4 ∧ c.dir = true ∧ c.off % 4 ≠ 0) ∨ (c.sig = true ∧ word_ % 32 ≠ 0) then some 4
  else if (record = false ∧ (23 < c.cluster ∨
      0x3000000 < c.off + (if c.cmd = 6 then 32 else if c.cmd = 4 ∧ c.dir = true then 4 else c.len))) ∨
      (c.sig = true ∧ (23 < fieldOf opt 30 26 ∨ 0x3000000 < word_ + 32)) then some 5
  else none

/-- The value of a source before it is read: the register, or the entry that a bound one would pop. -/
def peekSrc (s : State) (r : Reg) : Word :=
  match boundPort s.me r with
  | none => s.me.regs.get r
  | some p => match popPort s p with
    | .ok v _ => v
    | _ => 0

/-- A destination is bound to a port that takes no push (R235). -/
def misusedDst (s : State) (d : Reg) : Bool :=
  match boundPort s.me d with
  | none => false
  | some p => match s.me.port p with
    | none => true
    | some q => !q.stale && !decide (q.kind = 1 ∨ q.kind = 2 ∨ q.kind = 4)

/-- A push to a bound scalar register: its capacity is reserved now and its value enters the queue at commit (R231,
R235, R236). -/
def pushPort (s : State) (p : Nat) (v : Word) : R Unit :=
  match s.me.port p with
  | none => portMisuse s
  | some q =>
    if q.stale then staleTrap s p q
    else match q.kind with
    | 1 => awaitResident s q.base (fun s =>
        match s.queue q.base with
        | some qs => (takeCapacity s qs.ctr q.asid qs.ctrVa).bind (fun _ s =>
            .ok () (defer s (.release (.push (.data q.base qs.ctr) v))))
        | none => portMisuse s)
    | 2 =>
      let c := coreOf s.cur
      let sq := rd ScalarQ.empty (s.core c).sq q.base
      reserve s 1 q.base (decide (sq.elems.length + sq.resv < 8))
        (.ok () (defer (s.onCore c (fun y => { y with sq := wr .empty y.sq q.base { sq with resv := sq.resv + 1 } }))
          (.release (.push (.scalarQ c q.base q.handle) v))))
    | 4 =>
      match q.low with
      | none =>
        reserve s 2 q.base (decide ((s.engine q.base).cmds.length + (s.engine q.base).resv < 64))
          (.ok () ((s.onEngine q.base (fun e => { e with resv := e.resv + 1 })).onMe
            (fun x => x.putPort p (some { q with low := some v }))))
      | some lo =>
        match cmdFault (cmdFields lo v) q.opt with
        | some r => .trap ⟨0x20, 0, einfoOf r 0 false (lo.toNat % 2 ^ 32)⟩ (.dropCommand p q.base)
        | none => .ok () (defer (s.onMe (fun x => x.putPort p (some { q with low := none })))
            (.release (.command q.base lo v { q with low := none })))
    | _ => portMisuse s

/-- A write of a scalar register by an instruction: a push when it is bound, and cdst names it in either case (R63, R64,
R66). -/
def writeDst (s : State) (d : Reg) (v : Word) : R Unit :=
  match boundPort s.me d with
  | none => .ok () (s.onMe (fun x => { x with regs := x.regs.set d v }))
  | some p => (pushPort s p v).bind (fun _ s =>
      .ok () (s.onMe (fun x => { x with regs := { x.regs with cdst := d } })))

/-! Joining the chunk (R289, R290, R296). -/

/-- The protected place of a cluster goes to this slot when it opens a chunk: it qualifies, no protected chunk is open,
and no other qualifying slot comes first after the slot that last held the place (R62). -/
def getsProtection (s : State) (k : Nat) : Bool :=
  let c := clusterOf k
  let last := (s.cluster c).lastProt
  let rank (j : Nat) : Nat := (j + 3072 * 24 - last - 1) % (3072 * 24)
  (s.slot k).qualified &&
    !s.slots.any (fun e => clusterOf e.1 == c && e.2.chunk.prot) &&
    !s.slots.any (fun e => clusterOf e.1 == c && e.2.qualified && e.1 != k && decide (rank e.1 < rank k))

/-- An instruction that is not irrevocable retires: it opens a chunk when none is open, with the state before it as the
checkpoint, and closes it at the limit (R289, R290, R296). -/
def joinChunk (s0 s1 : State) (n : Nat) : State :=
  let x0 := s0.me
  let fresh := x0.chunk.count = 0
  let prot := decide fresh && getsProtection s0 s0.cur
  let s2 := s1.onMe (fun x =>
    let limit := if 0 < x0.single then 1 else 256
    { x with
      chunk := { x.chunk with
        count := x.chunk.count + n
        ckpt := if fresh then some x0.regs else x.chunk.ckpt
        ckptPorts := if fresh then x0.ports else x.chunk.ckptPorts
        prot := prot || x.chunk.prot
        closed := x.chunk.closed || decide (limit ≤ x.chunk.count + n) }
      single := x0.single - n
      qualified := x0.qualified && !prot
      granted := none
      answer := none
      remote := false })
  if prot then (s2.onCluster (clusterOf s0.cur) (fun c => { c with lastProt := s0.cur })).count s0.cur 5 else s2

/-- An irrevocable instruction retires: it is a chunk of its own (R291), never squashed. One that pushes or stores has its
effects performed by the commit of that chunk. It counts under the privilege it was issued with. -/
def runAlone (s0 s1 : State) (n : Nat) : State :=
  s1.onMe (fun x =>
    let y := { x with granted := none, answer := none, remote := false }
    if x.chunk.deferred = [] ∧ x.chunk.stores = [] then
      countAs (countAs { y with
        sys := { x.sys with instret := x.sys.instret + word n }
        chunk := .empty
        squashes := 0 } s0.me.spv 2 n) s0.me.spv 3 1
    else { y with chunk := { x.chunk with
        count := n, rset := [], closed := true, ckpt := some x.regs, ckptPorts := x.ports } })

/-- What stays done beside a trap (R258, R438, R467). -/
def applyFix (s : State) : Fix → State
  | .none => s
  | .unbind p => s.onMe (fun x => unbindPort x p)
  | .dropCommand p e =>
    (s.onEngine e (fun y => { y with resv := y.resv - 1 })).onMe
      (fun x => x.putPort p ((x.port p).map (fun q => { q with low := none })))
  | .saved ws => (savePieces s ws).1
  | .access va w => (resolveFor s s.cur va w).1

/-- A precise cause of the issuing slot's instruction (R253): with an open chunk, that chunk commits first; an alias
counts its event (R447). -/
def trapWith (s : State) (c : Cause) (x : Fix) : State :=
  if s.me.chunk.count = 0 then
    let s1 := applyFix s x
    let s2 := if c.code = 0x18 then s1.count s1.cur 16 else s1
    takeTrap s2 s.cur c s.me.regs.pc true
  else s.onMe Slot.close

/-- The request of a waiting instruction goes out, once. -/
def sendAsk (s : State) : Option Ask → State
  | none => s
  | some a => askHome (withdraw s s.cur) a.ctr a.kind a.value

/-- What an instruction came to, carried out (R253, R290, R291). A done instruction has set its next pc. -/
def finish (irrev : Bool) (n : Nat) (s0 : State) : R Unit → State
  | .ok _ s1 => if irrev then runAlone s0 s1 n else joinChunk s0 s1 n
  | .trap c x => trapWith s0 c x
  | .wait w a => (sendAsk s0 a).onMe (fun x => { x with wait := w })
  | .close => s0.onMe Slot.close
  | .undone s1 => s1

/-- The held-frame rule of R260: a vector instruction of a supervisor whose held frame is not empty. -/
def heldFault (x : Slot) (f : Form) : Bool := (f.vec || f.mat != 0) && x.spv && !x.held.isEmpty

/-- The sources of an instruction; a misused binding among them reports the lower reason that its operands give, if any
(R434). -/
def popSources (f : Form) (s : State) : R (List (Reg × Word)) :=
  match popAll s f.srcs [], f.low with
  | .trap c x, some r => if c.code = 0x12 then .trap (ownCause s.me 0x12 r) .none else .trap c x
  | p, _ => p

/-- The cause of an instruction under the held-frame rule: a lower reason of its own, or reason 21 (R434). -/
def heldCause (x : Slot) : R Unit → Cause
  | .trap c _ => if c.code = 0x12 ∧ fieldOf c.info 7 0 < 21 then c else ownCause x 0x12 21
  | _ => ownCause x 0x12 21

/-- An instruction of slot `s.cur` with its popped sources at hand: checks, waits, closes, and its own effect. -/
def runSlot (f : Form) (s : State) (body : List (Reg × Word) → State → R Unit) : State :=
  let x := s.me
  match decodeFault x (isOwner s s.cur) f with
  | some c => raise s c x.regs.pc
  | none =>
    if heldFault x f then raise s (heldCause x ((popSources f s).bind body)) x.regs.pc else
    let alone := f.irrev || f.srcs.any (isBound x)
    match (f.srcs ++ f.dsts).find? (fun r => (pendingRegs x).contains r) with
    | some r => s.onMe (fun y => { y with wait := .pending r })
    | none =>
      if (f.srcs ++ f.dsts).any (fun r => (chunkPending x).contains r) || (alone && decide (x.chunk.count ≠ 0)) then
        s.onMe Slot.close
      else finish alone f.count s ((popSources f s).bind body)

/-- An instruction of the issuing slot; a slot that runs no thread issues none (R42, R55). -/
def run (f : Form) (s : State) (body : List (Reg × Word) → State → R Unit) :
    Host.Outcome State Fault Refusal :=
  match s.me.res with
  | .empty => .fault .emptySlot
  | .segment => .fault .emptySlot
  | _ => .next (runSlot f s body)

/-- The pc moves past an instruction of `n` bytes. -/
def advance (s : State) (n : Nat) : State := s.onMe (fun x => { x with regs := x.regs.skip n })

/-- The effect of an instruction that writes one scalar register: the write or push, then the next pc. -/
def writeAdvance (s : State) (d : Reg) (v : Word) (n : Nat) : R Unit :=
  (writeDst s d v).bind (fun _ s => .ok () (advance s n))

end Sys2Proof.Machine
end

