-- ==== Sys2Proof/Machine/Flags.lean ====
section
/-! DEFINITION. Machine/Flags.lean: the predicate word (R63, R138) and the state fields of vstate (R72), which are all
the flags the part has (R135). -/

namespace Sys2Proof.Machine

/-- A field of vstate at bit `lo` moves from clean to dirty (R72). -/
def dirtyField (w : Word) (lo : Nat) : Word := if fieldOf w (lo + 1) lo = 1 then setField w (lo + 1) lo 2 else w
/-- An instruction wrote vector state (R72). -/
def Vec.dirtyVec (v : Vec) : Vec := { v with vstate := dirtyField v.vstate 0 }
/-- An instruction wrote the accumulator store or the shape registers (R72). -/
def Vec.dirtyAcc (v : Vec) : Vec := { v with vstate := dirtyField v.vstate 2 }
/-- An instruction wrote the compute-in-memory block or sB (R72). -/
def Vec.dirtyCim (v : Vec) : Vec := { v with vstate := dirtyField v.vstate 4 }

/-- The effect of a compare: a predicate bit, then the next pc; cdst keeps its value (R132, R138). -/
def setPredAdvance (s : State) (p : Reg) (v : Bool) (n : Nat) : State :=
  s.onMe (fun x => { x with regs := (x.regs.setP p v).skip n })

/-- The whole predicate word replaced (R138). -/
def setPredWord (s : State) (v : BitVec 32) (n : Nat) : State :=
  s.onMe (fun x => { x with regs := { x.regs with p := v }.skip n })

end Sys2Proof.Machine
end

