-- ==== Sys2Proof/Decode.lean ====
section
/-! DEFINITION. Decode.lean: the decoder of R79 to R93 and R431, total on any bytes, and the encoder written from the
same tables. The definitions marked noncomputable are plain ones that the kernel evaluates: the compiler
gives no run-time tag to a constructor as late in the inductive as the ones they build. -/

namespace Sys2Proof

/-- What a pattern of bits stands for: an instruction, or an unallocated encoding with its reason (R431). -/
inductive Decoded where
  | instr (i : Instr)
  | unallocated (reason : Nat)
  deriving DecidableEq, Repr

/-- The fields of format TF in a word (R82, R85, R86, R91). -/
def fieldsTF (w : BitVec 32) : TF :=
  ⟨w.extractLsb' 17 5, w.extractLsb' 12 5, w.extractLsb' 7 5⟩

/-- The fields of format IF in a word (R82, R85, R86, R91). -/
def fieldsIF (w : BitVec 32) : IF :=
  ⟨w.extractLsb' 20 12, w.extractLsb' 12 5, w.extractLsb' 7 5⟩

/-- The fields of format SF in a word (R82, R85, R86, R91). -/
def fieldsSF (w : BitVec 32) : SF :=
  ⟨w.extractLsb' 20 12, w.extractLsb' 12 5, w.extractLsb' 7 5⟩

/-- The fields of format BF in a word (R82, R85, R86, R91). -/
def fieldsBF (w : BitVec 32) : BF :=
  ⟨w.extractLsb' 13 19, w.extractLsb' 7 5⟩

/-- The fields of format JF in a word (R82, R85, R86, R91). -/
def fieldsJF (w : BitVec 32) : JF :=
  ⟨w.extractLsb' 7 25⟩

/-- The fields of format WF in a word (R82, R85, R86, R91). -/
def fieldsWF (w : BitVec 32) : WF :=
  ⟨w.extractLsb' 12 20, w.extractLsb' 7 5⟩

/-- The fields of format LF in a word (R82, R85, R86, R91). -/
def fieldsLF (w : BitVec 32) : LF :=
  ⟨w.extractLsb' 17 15, w.extractLsb' 12 5, w.extractLsb' 7 5⟩

/-- The fields of format VF in a word (R82, R85, R86, R91). -/
def fieldsVF (w : BitVec 32) : VF :=
  ⟨w.extractLsb' 25 2, w.extractLsb' 22 3, w.extractLsb' 17 5, w.extractLsb' 12 5, w.extractLsb' 7 5⟩

/-- The fields of format VMF in a word (R82, R85, R86, R91). -/
def fieldsVMF (w : BitVec 32) : VMF :=
  ⟨w.extractLsb' 22 3, w.extractLsb' 17 5, w.extractLsb' 12 5, w.extractLsb' 7 5⟩

/-- The fields of format VAF in a word (R82, R85, R86, R91). -/
def fieldsVAF (w : BitVec 32) : VAF :=
  ⟨w.extractLsb' 25 3, w.extractLsb' 22 3, w.extractLsb' 17 5, w.extractLsb' 12 5, w.extractLsb' 7 5⟩

/-- The fields of format QF in a word (R82, R85, R86, R91). -/
def fieldsQF (w : BitVec 32) : QF :=
  ⟨w.extractLsb' 22 3, w.extractLsb' 17 5, w.extractLsb' 12 5, w.extractLsb' 7 5⟩

/-- The fields of format XF in a word (R82, R85, R86, R91). -/
def fieldsXF (w : BitVec 32) : XF :=
  ⟨w.extractLsb' 17 11, w.extractLsb' 12 5, w.extractLsb' 7 5⟩

/-- The fields of format PF in a word (R82, R85, R86, R91). -/
def fieldsPF (w : BitVec 32) : PF :=
  ⟨w.extractLsb' 24 8, w.extractLsb' 21 3, w.extractLsb' 18 3, w.extractLsb' 15 3, w.extractLsb' 11 4, w.extractLsb' 7 4⟩

/-- The fields of format GF in a word (R82, R85, R86, R91). -/
def fieldsGF (w : BitVec 32) : GF :=
  ⟨w.extractLsb' 24 8, w.extractLsb' 19 5, w.extractLsb' 12 5, w.extractLsb' 7 5⟩

/-- The fields of format GIF in a word (R82, R85, R86, R91). -/
def fieldsGIF (w : BitVec 32) : GIF :=
  ⟨w.extractLsb' 20 12, w.extractLsb' 19 1, w.extractLsb' 12 5, w.extractLsb' 7 5⟩

/-- The fields of format CF in a word (R82, R85, R86, R91). -/
def fieldsCF (w : BitVec 16) : CF :=
  ⟨w.extractLsb' 11 5, w.extractLsb' 6 5⟩

/-- The major opcode of a 32-bit word (R82). -/
def majorOf (w : BitVec 32) : Nat := (w.extractLsb' 1 6).toNat

/-- Major 0x00, SYS (R87). -/
def decodeSys (w : BitVec 32) : Decoded :=
  match (w.extractLsb' 28 4).toNat with
  | 0 => .instr (.trap (fieldsXF w))
  | 1 => .instr (.eret (fieldsXF w))
  | 2 => .instr (.sysrd (fieldsXF w))
  | 3 => .instr (.syswr (fieldsXF w))
  | 4 => .instr (.sysset (fieldsXF w))
  | 5 => .instr (.sysclr (fieldsXF w))
  | 6 => .instr (.vsave (fieldsXF w))
  | 7 => .instr (.vrstr (fieldsXF w))
  | 8 => .instr (.asave (fieldsXF w))
  | 9 => .instr (.arstr (fieldsXF w))
  | 10 => .instr (.frsave (fieldsXF w))
  | 11 => .instr (.frload (fieldsXF w))
  | 12 => .instr (.halt (fieldsXF w))
  | 13 => .instr (.brk (fieldsXF w))
  | _ => .unallocated 2

/-- Major 0x01, FENCE (R87). -/
def decodeFence (w : BitVec 32) : Decoded :=
  match (w.extractLsb' 25 7).toNat with
  | 0 => .instr (.fence (fieldsQF w))
  | 1 => .instr (.fsmp (fieldsQF w))
  | 2 => .instr (.chunk (fieldsQF w))
  | 3 => .instr (.dcwb (fieldsQF w))
  | 4 => .instr (.dcinv (fieldsQF w))
  | 5 => .instr (.icinv (fieldsQF w))
  | 6 => .instr (.ipf (fieldsQF w))
  | 7 => .instr (.dpf (fieldsQF w))
  | _ => .unallocated 2

/-- Major 0x04, BPRED (R87). -/
def decodeBpred (w : BitVec 32) : Decoded :=
  match (w.extractLsb' 12 1).toNat with
  | 0 => .instr (.bp (fieldsBF w))
  | _ => .instr (.bpn (fieldsBF w))

/-- Major 0x05, IND (R87). -/
def decodeInd (w : BitVec 32) : Decoded :=
  match (w.extractLsb' 22 10).toNat with
  | 0 => .instr (.jr (fieldsTF w))
  | 1 => .instr (.callr (fieldsTF w))
  | _ => .unallocated 2

/-- Major 0x09, INT (R87). -/
def decodeInt (w : BitVec 32) : Decoded :=
  match (w.extractLsb' 22 10).toNat with
  | 0 => .instr (.add (fieldsTF w))
  | 1 => .instr (.sub (fieldsTF w))
  | 2 => .instr (.mul (fieldsTF w))
  | 3 => .instr (.mulh (fieldsTF w))
  | 4 => .instr (.mulhu (fieldsTF w))
  | 5 => .instr (.div (fieldsTF w))
  | 6 => .instr (.divu (fieldsTF w))
  | 7 => .instr (.rem (fieldsTF w))
  | 8 => .instr (.remu (fieldsTF w))
  | 9 => .instr (.and (fieldsTF w))
  | 10 => .instr (.or (fieldsTF w))
  | 11 => .instr (.xor (fieldsTF w))
  | 12 => .instr (.sll (fieldsTF w))
  | 13 => .instr (.srl (fieldsTF w))
  | 14 => .instr (.sra (fieldsTF w))
  | 15 => .instr (.min (fieldsTF w))
  | 16 => .instr (.max (fieldsTF w))
  | 17 => .instr (.minu (fieldsTF w))
  | 18 => .instr (.maxu (fieldsTF w))
  | 19 => .instr (.clz (fieldsTF w))
  | 20 => .instr (.ctz (fieldsTF w))
  | 21 => .instr (.popc (fieldsTF w))
  | 22 => .instr (.sel (fieldsTF w))
  | _ => .unallocated 2

/-- Major 0x0a, INTI (R87). -/
def decodeInti (w : BitVec 32) : Decoded :=
  match (w.extractLsb' 17 3).toNat with
  | 0 => .instr (.addi (fieldsIF w))
  | 1 => .instr (.andi (fieldsIF w))
  | 2 => .instr (.ori (fieldsIF w))
  | 3 => .instr (.xori (fieldsIF w))
  | 4 => .instr (.slli (fieldsIF w))
  | 5 => .instr (.srli (fieldsIF w))
  | 6 => .instr (.srai (fieldsIF w))
  | _ => .unallocated 2

/-- Major 0x0b, CMP (R87). -/
def decodeCmp (w : BitVec 32) : Decoded :=
  match (w.extractLsb' 22 10).toNat with
  | 0 => .instr (.cmpeq (fieldsTF w))
  | 1 => .instr (.cmpne (fieldsTF w))
  | 2 => .instr (.cmplt (fieldsTF w))
  | 3 => .instr (.cmple (fieldsTF w))
  | 4 => .instr (.cmpltu (fieldsTF w))
  | 5 => .instr (.cmpleu (fieldsTF w))
  | 6 => .instr (.pand (fieldsTF w))
  | 7 => .instr (.por (fieldsTF w))
  | 8 => .instr (.pxor (fieldsTF w))
  | 9 => .instr (.pnot (fieldsTF w))
  | 10 => .instr (.prd (fieldsTF w))
  | 11 => .instr (.pwr (fieldsTF w))
  | _ => .unallocated 2

/-- Major 0x0c, CMPI (R87). -/
def decodeCmpi (w : BitVec 32) : Decoded :=
  match (w.extractLsb' 17 3).toNat with
  | 0 => .instr (.cmpeqi (fieldsIF w))
  | 1 => .instr (.cmplti (fieldsIF w))
  | _ => .unallocated 2

/-- Major 0x0d, LOAD (R87). -/
def decodeLoad (w : BitVec 32) : Decoded :=
  match (w.extractLsb' 17 3).toNat with
  | 0 => .instr (.ld8 (fieldsIF w))
  | 1 => .instr (.ld8u (fieldsIF w))
  | 2 => .instr (.ld16 (fieldsIF w))
  | 3 => .instr (.ld16u (fieldsIF w))
  | 4 => .instr (.ld32 (fieldsIF w))
  | 5 => .instr (.ld32u (fieldsIF w))
  | 6 => .instr (.ld64 (fieldsIF w))
  | _ => .unallocated 2

/-- Major 0x0e, STORE (R87). -/
def decodeStore (w : BitVec 32) : Decoded :=
  match (w.extractLsb' 17 3).toNat with
  | 0 => .instr (.st8 (fieldsSF w))
  | 1 => .instr (.st16 (fieldsSF w))
  | 2 => .instr (.st32 (fieldsSF w))
  | 3 => .instr (.st64 (fieldsSF w))
  | _ => .unallocated 2

/-- Major 0x0f, SFP (R87). -/
def decodeSfp (w : BitVec 32) : Decoded :=
  match (w.extractLsb' 22 10).toNat with
  | 0 => .instr (.fadd (fieldsTF w))
  | 1 => .instr (.fsub (fieldsTF w))
  | 2 => .instr (.fmul (fieldsTF w))
  | 3 => .instr (.fma (fieldsTF w))
  | 4 => .instr (.fdiv (fieldsTF w))
  | 5 => .instr (.fsqrt (fieldsTF w))
  | 6 => .instr (.fcmpeq (fieldsTF w))
  | 7 => .instr (.fcmplt (fieldsTF w))
  | 8 => .instr (.fcmple (fieldsTF w))
  | 9 => .instr (.fcmpun (fieldsTF w))
  | 10 => .instr (.fcvtif (fieldsTF w))
  | 11 => .instr (.fcvtfi (fieldsTF w))
  | _ => .unallocated 2

/-- Major 0x10, AMO (R87). -/
def decodeAmo (w : BitVec 32) : Decoded :=
  match (w.extractLsb' 25 7).toNat with
  | 0 => .instr (.amoadd (fieldsQF w))
  | 1 => .instr (.amoand (fieldsQF w))
  | 2 => .instr (.amoor (fieldsQF w))
  | 3 => .instr (.amoxor (fieldsQF w))
  | 4 => .instr (.amomin (fieldsQF w))
  | 5 => .instr (.amomax (fieldsQF w))
  | 6 => .instr (.amominu (fieldsQF w))
  | 7 => .instr (.amomaxu (fieldsQF w))
  | 8 => .instr (.amoswp (fieldsQF w))
  | 9 => .instr (.amocas (fieldsQF w))
  | 10 => .instr (.redadd (fieldsQF w))
  | 11 => .instr (.lda (fieldsQF w))
  | 12 => .instr (.stl (fieldsQF w))
  | _ => .unallocated 2

/-- Major 0x11, QUEUE (R87). -/
noncomputable def decodeQueue (w : BitVec 32) : Decoded :=
  match (w.extractLsb' 25 7).toNat with
  | 0 => .instr (.qbind (fieldsQF w))
  | 1 => .instr (.qfree (fieldsQF w))
  | 2 => .instr (.qpushn (fieldsQF w))
  | 3 => .instr (.qpopn (fieldsQF w))
  | 4 => .instr (.qstat (fieldsQF w))
  | _ => .unallocated 2

/-- Major 0x12, TASK (R87). -/
noncomputable def decodeTask (w : BitVec 32) : Decoded :=
  match (w.extractLsb' 25 7).toNat with
  | 0 => .instr (.tqenq (fieldsQF w))
  | 1 => .instr (.jcenq (fieldsQF w))
  | 2 => .instr (.spawn (fieldsQF w))
  | 3 => .instr (.migr (fieldsQF w))
  | 4 => .instr (.yield (fieldsQF w))
  | 5 => .instr (.exit (fieldsQF w))
  | 6 => .instr (.sleep (fieldsQF w))
  | _ => .unallocated 2

/-- Major 0x13, SCTR (R87). -/
noncomputable def decodeSctr (w : BitVec 32) : Decoded :=
  match (w.extractLsb' 25 7).toNat with
  | 0 => .instr (.scarm (fieldsQF w))
  | 1 => .instr (.sctake (fieldsQF w))
  | 2 => .instr (.sctakep (fieldsQF w))
  | 3 => .instr (.scgive (fieldsQF w))
  | 4 => .instr (.scread (fieldsQF w))
  | 5 => .instr (.scset (fieldsQF w))
  | 6 => .instr (.scdsrm (fieldsQF w))
  | _ => .unallocated 2

/-- Major 0x14, BAR (R87). -/
noncomputable def decodeBar (w : BitVec 32) : Decoded :=
  match (w.extractLsb' 25 7).toNat with
  | 0 => .instr (.barinit (fieldsQF w))
  | 1 => .instr (.bararr (fieldsQF w))
  | 2 => .instr (.barexp (fieldsQF w))
  | 3 => .instr (.barwt (fieldsQF w))
  | 4 => .instr (.bartst (fieldsQF w))
  | _ => .unallocated 2

/-- Major 0x18, VCFG (R87). -/
noncomputable def decodeVcfg (w : BitVec 32) : Decoded :=
  match (w.extractLsb' 17 2).toNat with
  | 0 => .instr (.setvl (fieldsGF w))
  | 1 => .instr (.setvli (fieldsGIF w))
  | 2 => .instr (.vspan (fieldsGF w))
  | _ => .unallocated 2

/-- Major 0x19, VLOAD (R87). -/
noncomputable def decodeVload (w : BitVec 32) : Decoded :=
  match (w.extractLsb' 25 7).toNat with
  | 0 => .instr (.vld (fieldsVMF w))
  | 1 => .instr (.vlds (fieldsVMF w))
  | 2 => .instr (.vldg (fieldsVMF w))
  | 3 => .instr (.vldff (fieldsVMF w))
  | 4 => .instr (.vldseg (fieldsVMF w))
  | 5 => .instr (.vldb (fieldsVMF w))
  | 6 => .instr (.vldc (fieldsVMF w))
  | _ => .unallocated 2

/-- Major 0x1a, VSTORE (R87). -/
noncomputable def decodeVstore (w : BitVec 32) : Decoded :=
  match (w.extractLsb' 25 7).toNat with
  | 0 => .instr (.vst (fieldsVMF w))
  | 1 => .instr (.vsts (fieldsVMF w))
  | 2 => .instr (.vstsc (fieldsVMF w))
  | 3 => .instr (.vstseg (fieldsVMF w))
  | 4 => .instr (.vstb (fieldsVMF w))
  | _ => .unallocated 2

/-- Major 0x1b, VAMO (R87). -/
noncomputable def decodeVamo (w : BitVec 32) : Decoded :=
  match (w.extractLsb' 28 4).toNat with
  | 0 => .instr (.vamoadd (fieldsVAF w))
  | 1 => .instr (.vamomin (fieldsVAF w))
  | 2 => .instr (.vamomax (fieldsVAF w))
  | 3 => .instr (.vamoand (fieldsVAF w))
  | 4 => .instr (.vamoor (fieldsVAF w))
  | 5 => .instr (.vamoxor (fieldsVAF w))
  | 6 => .instr (.vamoswp (fieldsVAF w))
  | 7 => .instr (.vamocas (fieldsVAF w))
  | 8 => .instr (.vamoaddNr (fieldsVAF w))
  | 9 => .instr (.vamominNr (fieldsVAF w))
  | 10 => .instr (.vamomaxNr (fieldsVAF w))
  | 11 => .instr (.vamoandNr (fieldsVAF w))
  | 12 => .instr (.vamoorNr (fieldsVAF w))
  | 13 => .instr (.vamoxorNr (fieldsVAF w))
  | 14 => .instr (.vamoswpNr (fieldsVAF w))
  | _ => .unallocated 3

/-- Major 0x1c, VINT (R87). -/
noncomputable def decodeVint (w : BitVec 32) : Decoded :=
  match (w.extractLsb' 27 5).toNat with
  | 0 => .instr (.vadd (fieldsVF w))
  | 1 => .instr (.vsub (fieldsVF w))
  | 2 => .instr (.vmul (fieldsVF w))
  | 3 => .instr (.vmulh (fieldsVF w))
  | 4 => .instr (.vmulhu (fieldsVF w))
  | 5 => .instr (.vmacc (fieldsVF w))
  | 6 => .instr (.vand (fieldsVF w))
  | 7 => .instr (.vor (fieldsVF w))
  | 8 => .instr (.vxor (fieldsVF w))
  | 9 => .instr (.vsll (fieldsVF w))
  | 10 => .instr (.vsrl (fieldsVF w))
  | 11 => .instr (.vsra (fieldsVF w))
  | 12 => .instr (.vmin (fieldsVF w))
  | 13 => .instr (.vmax (fieldsVF w))
  | 14 => .instr (.vminu (fieldsVF w))
  | 15 => .instr (.vmaxu (fieldsVF w))
  | _ => .unallocated 2

/-- Major 0x1d, VINT2 (R87). -/
noncomputable def decodeVint2 (w : BitVec 32) : Decoded :=
  match (w.extractLsb' 27 5).toNat with
  | 0 => .instr (.vsadd (fieldsVF w))
  | 1 => .instr (.vssub (fieldsVF w))
  | 2 => .instr (.vnarrow (fieldsVF w))
  | 3 => .instr (.vwiden (fieldsVF w))
  | _ => .unallocated 2

/-- Major 0x1e, VFP (R87). -/
noncomputable def decodeVfp (w : BitVec 32) : Decoded :=
  match (w.extractLsb' 27 5).toNat with
  | 0 => .instr (.vfadd (fieldsVF w))
  | 1 => .instr (.vfsub (fieldsVF w))
  | 2 => .instr (.vfmul (fieldsVF w))
  | 3 => .instr (.vfma (fieldsVF w))
  | 4 => .instr (.vfms (fieldsVF w))
  | 5 => .instr (.vfnma (fieldsVF w))
  | 6 => .instr (.vfmin (fieldsVF w))
  | 7 => .instr (.vfmax (fieldsVF w))
  | 8 => .instr (.vfabs (fieldsVF w))
  | 9 => .instr (.vfneg (fieldsVF w))
  | 10 => .instr (.vfdiv (fieldsVF w))
  | 11 => .instr (.vfsqrt (fieldsVF w))
  | _ => .unallocated 2

/-- Major 0x1f, VFP2 (R87). -/
noncomputable def decodeVfp2 (w : BitVec 32) : Decoded :=
  match (w.extractLsb' 27 5).toNat with
  | 0 => .instr (.vfrcp (fieldsVF w))
  | 1 => .instr (.vfrsq (fieldsVF w))
  | 2 => .instr (.vfexp2 (fieldsVF w))
  | 3 => .instr (.vflog2 (fieldsVF w))
  | 4 => .instr (.vfsin (fieldsVF w))
  | 5 => .instr (.vfcos (fieldsVF w))
  | 6 => .instr (.vfcvt (fieldsVF w))
  | 7 => .instr (.vfcvti (fieldsVF w))
  | 8 => .instr (.vfcvtf (fieldsVF w))
  | _ => .unallocated 2

/-- Major 0x20, VCMP (R87). -/
noncomputable def decodeVcmp (w : BitVec 32) : Decoded :=
  match (w.extractLsb' 27 5).toNat with
  | 0 => .instr (.vcmpeq (fieldsVF w))
  | 1 => .instr (.vcmpne (fieldsVF w))
  | 2 => .instr (.vcmplt (fieldsVF w))
  | 3 => .instr (.vcmple (fieldsVF w))
  | 4 => .instr (.vcmpltu (fieldsVF w))
  | 5 => .instr (.vcmpleu (fieldsVF w))
  | 6 => .instr (.vfcmpeq (fieldsVF w))
  | 7 => .instr (.vfcmplt (fieldsVF w))
  | 8 => .instr (.vfcmple (fieldsVF w))
  | 9 => .instr (.vfcmpun (fieldsVF w))
  | _ => .unallocated 2

/-- Major 0x21, VMASK (R87). -/
noncomputable def decodeVmask (w : BitVec 32) : Decoded :=
  match (w.extractLsb' 27 5).toNat with
  | 0 => .instr (.mand (fieldsVF w))
  | 1 => .instr (.mor (fieldsVF w))
  | 2 => .instr (.mxor (fieldsVF w))
  | 3 => .instr (.mnot (fieldsVF w))
  | 4 => .instr (.mffs (fieldsVF w))
  | 5 => .instr (.mpop (fieldsVF w))
  | 6 => .instr (.mset (fieldsVF w))
  | 7 => .instr (.vidx (fieldsVF w))
  | 8 => .instr (.vmsel (fieldsVF w))
  | _ => .unallocated 2

/-- Major 0x22, VPERM (R87). -/
noncomputable def decodeVperm (w : BitVec 32) : Decoded :=
  match (w.extractLsb' 27 5).toNat with
  | 0 => .instr (.vperm (fieldsVF w))
  | 1 => .instr (.vslup (fieldsVF w))
  | 2 => .instr (.vsldn (fieldsVF w))
  | 3 => .instr (.vcmpr (fieldsVF w))
  | 4 => .instr (.vexpd (fieldsVF w))
  | 5 => .instr (.vbcst (fieldsVF w))
  | 6 => .instr (.vmvxs (fieldsVF w))
  | 7 => .instr (.vmvsx (fieldsVF w))
  | 8 => .instr (.vmov (fieldsVF w))
  | 9 => .instr (.vxchg (fieldsVF w))
  | 10 => .instr (.vkrank (fieldsVF w))
  | 11 => .instr (.vhist (fieldsVF w))
  | _ => .unallocated 2

/-- Major 0x23, VRED (R87). -/
noncomputable def decodeVred (w : BitVec 32) : Decoded :=
  match (w.extractLsb' 27 5).toNat with
  | 0 => .instr (.vredsum (fieldsVF w))
  | 1 => .instr (.vredmax (fieldsVF w))
  | 2 => .instr (.vredmin (fieldsVF w))
  | 3 => .instr (.vfredo (fieldsVF w))
  | 4 => .instr (.vfredf (fieldsVF w))
  | 5 => .instr (.vfredmax (fieldsVF w))
  | 6 => .instr (.vfredmin (fieldsVF w))
  | _ => .unallocated 2

/-- Major 0x24, MAT (R87). -/
noncomputable def decodeMat (w : BitVec 32) : Decoded :=
  match (w.extractLsb' 27 5).toNat with
  | 0 => .instr (.tset (fieldsVF w))
  | 1 => .instr (.tldb (fieldsVF w))
  | 2 => .instr (.tmma (fieldsVF w))
  | 3 => .instr (.tmmaf (fieldsVF w))
  | 4 => .instr (.tmmap (fieldsVF w))
  | 5 => .instr (.tmmapf (fieldsVF w))
  | 6 => .instr (.trda (fieldsVF w))
  | 7 => .instr (.tzacc (fieldsVF w))
  | 8 => .instr (.tadda (fieldsVF w))
  | 9 => .instr (.mmsx (fieldsVF w))
  | _ => .unallocated 2

/-- Major 0x25, GFX (R87). -/
noncomputable def decodeGfx (w : BitVec 32) : Decoded :=
  match (w.extractLsb' 27 5).toNat with
  | 0 => .instr (.edge (fieldsVF w))
  | 1 => .instr (.boxt (fieldsVF w))
  | 2 => .instr (.trit (fieldsVF w))
  | 3 => .instr (.texf (fieldsVF w))
  | 4 => .instr (.texq (fieldsVF w))
  | 5 => .instr (.pxcmt (fieldsVF w))
  | 6 => .instr (.tclr (fieldsVF w))
  | 7 => .instr (.trslv (fieldsVF w))
  | _ => .unallocated 2

/-- A 32-bit instruction (R79, R82, R87, R88): all ones is no instruction (R81). -/
noncomputable def decodeWord (w : BitVec 32) : Decoded :=
  if w = 0xFFFFFFFF then .unallocated 5 else
  match majorOf w with
  | 0 => decodeSys w
  | 1 => decodeFence w
  | 2 => .instr (.br (fieldsJF w))
  | 3 => .instr (.call (fieldsJF w))
  | 4 => decodeBpred w
  | 5 => decodeInd w
  | 6 => .instr (.smloop (fieldsLF w))
  | 7 => .instr (.liw (fieldsWF w))
  | 8 => .instr (.pcadd (fieldsWF w))
  | 9 => decodeInt w
  | 10 => decodeInti w
  | 11 => decodeCmp w
  | 12 => decodeCmpi w
  | 13 => decodeLoad w
  | 14 => decodeStore w
  | 15 => decodeSfp w
  | 16 => decodeAmo w
  | 17 => decodeQueue w
  | 18 => decodeTask w
  | 19 => decodeSctr w
  | 20 => decodeBar w
  | 24 => decodeVcfg w
  | 25 => decodeVload w
  | 26 => decodeVstore w
  | 27 => decodeVamo w
  | 28 => decodeVint w
  | 29 => decodeVint2 w
  | 30 => decodeVfp w
  | 31 => decodeVfp2 w
  | 32 => decodeVcmp w
  | 33 => decodeVmask w
  | 34 => decodeVperm w
  | 35 => decodeVred w
  | 36 => decodeMat w
  | 37 => decodeGfx w
  | 38 => .instr (.repf (fieldsPF w))
  | _ => .unallocated 1

/-- A 16-bit compact instruction (R91 to R93): the zero halfword is no instruction (R81). -/
noncomputable def decodeHalf (h : BitVec 16) : Decoded :=
  if h = 0 then .unallocated 5 else
  match (h.extractLsb' 1 5).toNat with
  | 0 => .instr (.cmov (fieldsCF h))
  | 1 => .instr (.cli (fieldsCF h))
  | 2 => .instr (.caddi (fieldsCF h))
  | 3 => .instr (.cadd (fieldsCF h))
  | 4 => .instr (.csub (fieldsCF h))
  | 5 => .instr (.cand (fieldsCF h))
  | 6 => .instr (.cslli (fieldsCF h))
  | 7 => .instr (.csrli (fieldsCF h))
  | 8 => .instr (.cld (fieldsCF h))
  | 9 => .instr (.cst (fieldsCF h))
  | 10 => .instr (.cbp (fieldsCF h))
  | 11 => .instr (.cbpn (fieldsCF h))
  | 12 => .instr (.cvadd (fieldsCF h))
  | 13 => .instr (.cvmul (fieldsCF h))
  | 14 => .instr (.cvfadd (fieldsCF h))
  | 15 => .instr (.cvfma (fieldsCF h))
  | _ => .unallocated 4

/-- Bit 0 of the first halfword decides the length (R79). -/
def isLong (h : BitVec 16) : Bool := h.getLsbD 0

/-- The halfword of two bytes in memory order (R6). -/
def halfOf (b0 b1 : Byte) : BitVec 16 := b1 ++ b0

/-- What stands at the head of a byte stream: nothing when the stream is too short, and otherwise what the leading
instruction decodes to with the bytes behind it. -/
noncomputable def decode : List Byte → Option (Decoded × List Byte)
  | b0 :: b1 :: rest =>
    if isLong (halfOf b0 b1) then
      match rest with
      | b2 :: b3 :: rest' => some (decodeWord (halfOf b2 b3 ++ halfOf b0 b1), rest')
      | _ => none
    else some (decodeHalf (halfOf b0 b1), rest)
  | _ => none

/-- The bytes of a word, lowest address first (R6). -/
def bytesOfWord (w : BitVec 32) : List Byte :=
  [w.extractLsb' 0 8, w.extractLsb' 8 8, w.extractLsb' 16 8, w.extractLsb' 24 8]

/-- The bytes of a halfword, lowest address first (R6). -/
def bytesOfHalf (h : BitVec 16) : List Byte := [h.extractLsb' 0 8, h.extractLsb' 8 8]

/-- An encoded instruction: a halfword or a word (R79). -/
inductive Code where
  | half (h : BitVec 16)
  | word (w : BitVec 32)
  deriving DecidableEq, Repr

/-- The bytes of an encoded instruction in memory order. -/
def Code.bytes : Code → List Byte
  | .half h => bytesOfHalf h
  | .word w => bytesOfWord w

/-- The word of format TF with its function code and major (R82, R85, R86, R91). -/
def wordTF (op : BitVec 6) (fn : BitVec 10) (x : TF) : BitVec 32 :=
  fn ++ x.b ++ x.a ++ x.d ++ op ++ 1#1

/-- The word of format IF with its function code and major (R82, R85, R86, R91). -/
def wordIF (op : BitVec 6) (fn : BitVec 3) (x : IF) : BitVec 32 :=
  x.imm ++ fn ++ x.a ++ x.d ++ op ++ 1#1

/-- The word of format SF with its function code and major (R82, R85, R86, R91). -/
def wordSF (op : BitVec 6) (fn : BitVec 3) (x : SF) : BitVec 32 :=
  x.imm ++ fn ++ x.a ++ x.c ++ op ++ 1#1

/-- The word of format BF with its function code and major (R82, R85, R86, R91). -/
def wordBF (op : BitVec 6) (fn : BitVec 1) (x : BF) : BitVec 32 :=
  x.off ++ fn ++ x.p ++ op ++ 1#1

/-- The word of format JF with its function code and major (R82, R85, R86, R91). -/
def wordJF (op : BitVec 6) (x : JF) : BitVec 32 :=
  x.off ++ op ++ 1#1

/-- The word of format WF with its function code and major (R82, R85, R86, R91). -/
def wordWF (op : BitVec 6) (x : WF) : BitVec 32 :=
  x.imm ++ x.d ++ op ++ 1#1

/-- The word of format LF with its function code and major (R82, R85, R86, R91). -/
def wordLF (op : BitVec 6) (x : LF) : BitVec 32 :=
  x.off ++ x.b ++ x.a ++ op ++ 1#1

/-- The word of format VF with its function code and major (R82, R85, R86, R91). -/
def wordVF (op : BitVec 6) (fn : BitVec 5) (x : VF) : BitVec 32 :=
  fn ++ x.f ++ x.m ++ x.vb ++ x.va ++ x.vd ++ op ++ 1#1

/-- The word of format VMF with its function code and major (R82, R85, R86, R91). -/
def wordVMF (op : BitVec 6) (fn : BitVec 7) (x : VMF) : BitVec 32 :=
  fn ++ x.m ++ x.b ++ x.a ++ x.vd ++ op ++ 1#1

/-- The word of format VAF with its function code and major (R82, R85, R86, R91). -/
def wordVAF (op : BitVec 6) (fn : BitVec 4) (x : VAF) : BitVec 32 :=
  fn ++ x.sc ++ x.m ++ x.b ++ x.a ++ x.vd ++ op ++ 1#1

/-- The word of format QF with its function code and major (R82, R85, R86, R91). -/
def wordQF (op : BitVec 6) (fn : BitVec 7) (x : QF) : BitVec 32 :=
  fn ++ x.sc ++ x.b ++ x.a ++ x.d ++ op ++ 1#1

/-- The word of format XF with its function code and major (R82, R85, R86, R91). -/
def wordXF (op : BitVec 6) (fn : BitVec 4) (x : XF) : BitVec 32 :=
  fn ++ x.imm ++ x.a ++ x.d ++ op ++ 1#1

/-- The word of format PF with its function code and major (R82, R85, R86, R91). -/
def wordPF (op : BitVec 6) (x : PF) : BitVec 32 :=
  x.z ++ x.ib ++ x.ia ++ x.id ++ x.times ++ x.len ++ op ++ 1#1

/-- The word of format GF with its function code and major (R82, R85, R86, R91). -/
def wordGF (op : BitVec 6) (fn : BitVec 2) (x : GF) : BitVec 32 :=
  x.z ++ x.b ++ fn ++ x.a ++ x.d ++ op ++ 1#1

/-- The word of format GIF with its function code and major (R82, R85, R86, R91). -/
def wordGIF (op : BitVec 6) (fn : BitVec 2) (x : GIF) : BitVec 32 :=
  x.imm ++ x.z ++ fn ++ x.a ++ x.d ++ op ++ 1#1

/-- The word of format CF with its function code and major (R82, R85, R86, R91). -/
def wordCF (op : BitVec 5) (x : CF) : BitVec 16 :=
  x.imm ++ x.r ++ op ++ 0#1

/-- The encoding of an instruction (R82 to R92), none for a step of the part itself. -/
def encode (i : Instr) : Option Code :=
  match i with
  | .trap x => some (.word (wordXF 0x0 0 x))
  | .eret x => some (.word (wordXF 0x0 1 x))
  | .sysrd x => some (.word (wordXF 0x0 2 x))
  | .syswr x => some (.word (wordXF 0x0 3 x))
  | .sysset x => some (.word (wordXF 0x0 4 x))
  | .sysclr x => some (.word (wordXF 0x0 5 x))
  | .vsave x => some (.word (wordXF 0x0 6 x))
  | .vrstr x => some (.word (wordXF 0x0 7 x))
  | .asave x => some (.word (wordXF 0x0 8 x))
  | .arstr x => some (.word (wordXF 0x0 9 x))
  | .frsave x => some (.word (wordXF 0x0 10 x))
  | .frload x => some (.word (wordXF 0x0 11 x))
  | .halt x => some (.word (wordXF 0x0 12 x))
  | .brk x => some (.word (wordXF 0x0 13 x))
  | .fence x => some (.word (wordQF 0x1 0 x))
  | .fsmp x => some (.word (wordQF 0x1 1 x))
  | .chunk x => some (.word (wordQF 0x1 2 x))
  | .dcwb x => some (.word (wordQF 0x1 3 x))
  | .dcinv x => some (.word (wordQF 0x1 4 x))
  | .icinv x => some (.word (wordQF 0x1 5 x))
  | .ipf x => some (.word (wordQF 0x1 6 x))
  | .dpf x => some (.word (wordQF 0x1 7 x))
  | .br x => some (.word (wordJF 0x2 x))
  | .call x => some (.word (wordJF 0x3 x))
  | .bp x => some (.word (wordBF 0x4 0 x))
  | .bpn x => some (.word (wordBF 0x4 1 x))
  | .jr x => some (.word (wordTF 0x5 0 x))
  | .callr x => some (.word (wordTF 0x5 1 x))
  | .smloop x => some (.word (wordLF 0x6 x))
  | .liw x => some (.word (wordWF 0x7 x))
  | .pcadd x => some (.word (wordWF 0x8 x))
  | .add x => some (.word (wordTF 0x9 0 x))
  | .sub x => some (.word (wordTF 0x9 1 x))
  | .mul x => some (.word (wordTF 0x9 2 x))
  | .mulh x => some (.word (wordTF 0x9 3 x))
  | .mulhu x => some (.word (wordTF 0x9 4 x))
  | .div x => some (.word (wordTF 0x9 5 x))
  | .divu x => some (.word (wordTF 0x9 6 x))
  | .rem x => some (.word (wordTF 0x9 7 x))
  | .remu x => some (.word (wordTF 0x9 8 x))
  | .and x => some (.word (wordTF 0x9 9 x))
  | .or x => some (.word (wordTF 0x9 10 x))
  | .xor x => some (.word (wordTF 0x9 11 x))
  | .sll x => some (.word (wordTF 0x9 12 x))
  | .srl x => some (.word (wordTF 0x9 13 x))
  | .sra x => some (.word (wordTF 0x9 14 x))
  | .min x => some (.word (wordTF 0x9 15 x))
  | .max x => some (.word (wordTF 0x9 16 x))
  | .minu x => some (.word (wordTF 0x9 17 x))
  | .maxu x => some (.word (wordTF 0x9 18 x))
  | .clz x => some (.word (wordTF 0x9 19 x))
  | .ctz x => some (.word (wordTF 0x9 20 x))
  | .popc x => some (.word (wordTF 0x9 21 x))
  | .sel x => some (.word (wordTF 0x9 22 x))
  | .addi x => some (.word (wordIF 0xa 0 x))
  | .andi x => some (.word (wordIF 0xa 1 x))
  | .ori x => some (.word (wordIF 0xa 2 x))
  | .xori x => some (.word (wordIF 0xa 3 x))
  | .slli x => some (.word (wordIF 0xa 4 x))
  | .srli x => some (.word (wordIF 0xa 5 x))
  | .srai x => some (.word (wordIF 0xa 6 x))
  | .cmpeq x => some (.word (wordTF 0xb 0 x))
  | .cmpne x => some (.word (wordTF 0xb 1 x))
  | .cmplt x => some (.word (wordTF 0xb 2 x))
  | .cmple x => some (.word (wordTF 0xb 3 x))
  | .cmpltu x => some (.word (wordTF 0xb 4 x))
  | .cmpleu x => some (.word (wordTF 0xb 5 x))
  | .pand x => some (.word (wordTF 0xb 6 x))
  | .por x => some (.word (wordTF 0xb 7 x))
  | .pxor x => some (.word (wordTF 0xb 8 x))
  | .pnot x => some (.word (wordTF 0xb 9 x))
  | .prd x => some (.word (wordTF 0xb 10 x))
  | .pwr x => some (.word (wordTF 0xb 11 x))
  | .cmpeqi x => some (.word (wordIF 0xc 0 x))
  | .cmplti x => some (.word (wordIF 0xc 1 x))
  | .ld8 x => some (.word (wordIF 0xd 0 x))
  | .ld8u x => some (.word (wordIF 0xd 1 x))
  | .ld16 x => some (.word (wordIF 0xd 2 x))
  | .ld16u x => some (.word (wordIF 0xd 3 x))
  | .ld32 x => some (.word (wordIF 0xd 4 x))
  | .ld32u x => some (.word (wordIF 0xd 5 x))
  | .ld64 x => some (.word (wordIF 0xd 6 x))
  | .st8 x => some (.word (wordSF 0xe 0 x))
  | .st16 x => some (.word (wordSF 0xe 1 x))
  | .st32 x => some (.word (wordSF 0xe 2 x))
  | .st64 x => some (.word (wordSF 0xe 3 x))
  | .fadd x => some (.word (wordTF 0xf 0 x))
  | .fsub x => some (.word (wordTF 0xf 1 x))
  | .fmul x => some (.word (wordTF 0xf 2 x))
  | .fma x => some (.word (wordTF 0xf 3 x))
  | .fdiv x => some (.word (wordTF 0xf 4 x))
  | .fsqrt x => some (.word (wordTF 0xf 5 x))
  | .fcmpeq x => some (.word (wordTF 0xf 6 x))
  | .fcmplt x => some (.word (wordTF 0xf 7 x))
  | .fcmple x => some (.word (wordTF 0xf 8 x))
  | .fcmpun x => some (.word (wordTF 0xf 9 x))
  | .fcvtif x => some (.word (wordTF 0xf 10 x))
  | .fcvtfi x => some (.word (wordTF 0xf 11 x))
  | .amoadd x => some (.word (wordQF 0x10 0 x))
  | .amoand x => some (.word (wordQF 0x10 1 x))
  | .amoor x => some (.word (wordQF 0x10 2 x))
  | .amoxor x => some (.word (wordQF 0x10 3 x))
  | .amomin x => some (.word (wordQF 0x10 4 x))
  | .amomax x => some (.word (wordQF 0x10 5 x))
  | .amominu x => some (.word (wordQF 0x10 6 x))
  | .amomaxu x => some (.word (wordQF 0x10 7 x))
  | .amoswp x => some (.word (wordQF 0x10 8 x))
  | .amocas x => some (.word (wordQF 0x10 9 x))
  | .redadd x => some (.word (wordQF 0x10 10 x))
  | .lda x => some (.word (wordQF 0x10 11 x))
  | .stl x => some (.word (wordQF 0x10 12 x))
  | .qbind x => some (.word (wordQF 0x11 0 x))
  | .qfree x => some (.word (wordQF 0x11 1 x))
  | .qpushn x => some (.word (wordQF 0x11 2 x))
  | .qpopn x => some (.word (wordQF 0x11 3 x))
  | .qstat x => some (.word (wordQF 0x11 4 x))
  | .tqenq x => some (.word (wordQF 0x12 0 x))
  | .jcenq x => some (.word (wordQF 0x12 1 x))
  | .spawn x => some (.word (wordQF 0x12 2 x))
  | .migr x => some (.word (wordQF 0x12 3 x))
  | .yield x => some (.word (wordQF 0x12 4 x))
  | .exit x => some (.word (wordQF 0x12 5 x))
  | .sleep x => some (.word (wordQF 0x12 6 x))
  | .scarm x => some (.word (wordQF 0x13 0 x))
  | .sctake x => some (.word (wordQF 0x13 1 x))
  | .sctakep x => some (.word (wordQF 0x13 2 x))
  | .scgive x => some (.word (wordQF 0x13 3 x))
  | .scread x => some (.word (wordQF 0x13 4 x))
  | .scset x => some (.word (wordQF 0x13 5 x))
  | .scdsrm x => some (.word (wordQF 0x13 6 x))
  | .barinit x => some (.word (wordQF 0x14 0 x))
  | .bararr x => some (.word (wordQF 0x14 1 x))
  | .barexp x => some (.word (wordQF 0x14 2 x))
  | .barwt x => some (.word (wordQF 0x14 3 x))
  | .bartst x => some (.word (wordQF 0x14 4 x))
  | .setvl x => some (.word (wordGF 0x18 0 x))
  | .setvli x => some (.word (wordGIF 0x18 1 x))
  | .vspan x => some (.word (wordGF 0x18 2 x))
  | .vld x => some (.word (wordVMF 0x19 0 x))
  | .vlds x => some (.word (wordVMF 0x19 1 x))
  | .vldg x => some (.word (wordVMF 0x19 2 x))
  | .vldff x => some (.word (wordVMF 0x19 3 x))
  | .vldseg x => some (.word (wordVMF 0x19 4 x))
  | .vldb x => some (.word (wordVMF 0x19 5 x))
  | .vldc x => some (.word (wordVMF 0x19 6 x))
  | .vst x => some (.word (wordVMF 0x1a 0 x))
  | .vsts x => some (.word (wordVMF 0x1a 1 x))
  | .vstsc x => some (.word (wordVMF 0x1a 2 x))
  | .vstseg x => some (.word (wordVMF 0x1a 3 x))
  | .vstb x => some (.word (wordVMF 0x1a 4 x))
  | .vamoadd x => some (.word (wordVAF 0x1b 0 x))
  | .vamomin x => some (.word (wordVAF 0x1b 1 x))
  | .vamomax x => some (.word (wordVAF 0x1b 2 x))
  | .vamoand x => some (.word (wordVAF 0x1b 3 x))
  | .vamoor x => some (.word (wordVAF 0x1b 4 x))
  | .vamoxor x => some (.word (wordVAF 0x1b 5 x))
  | .vamoswp x => some (.word (wordVAF 0x1b 6 x))
  | .vamocas x => some (.word (wordVAF 0x1b 7 x))
  | .vamoaddNr x => some (.word (wordVAF 0x1b 8 x))
  | .vamominNr x => some (.word (wordVAF 0x1b 9 x))
  | .vamomaxNr x => some (.word (wordVAF 0x1b 10 x))
  | .vamoandNr x => some (.word (wordVAF 0x1b 11 x))
  | .vamoorNr x => some (.word (wordVAF 0x1b 12 x))
  | .vamoxorNr x => some (.word (wordVAF 0x1b 13 x))
  | .vamoswpNr x => some (.word (wordVAF 0x1b 14 x))
  | .vadd x => some (.word (wordVF 0x1c 0 x))
  | .vsub x => some (.word (wordVF 0x1c 1 x))
  | .vmul x => some (.word (wordVF 0x1c 2 x))
  | .vmulh x => some (.word (wordVF 0x1c 3 x))
  | .vmulhu x => some (.word (wordVF 0x1c 4 x))
  | .vmacc x => some (.word (wordVF 0x1c 5 x))
  | .vand x => some (.word (wordVF 0x1c 6 x))
  | .vor x => some (.word (wordVF 0x1c 7 x))
  | .vxor x => some (.word (wordVF 0x1c 8 x))
  | .vsll x => some (.word (wordVF 0x1c 9 x))
  | .vsrl x => some (.word (wordVF 0x1c 10 x))
  | .vsra x => some (.word (wordVF 0x1c 11 x))
  | .vmin x => some (.word (wordVF 0x1c 12 x))
  | .vmax x => some (.word (wordVF 0x1c 13 x))
  | .vminu x => some (.word (wordVF 0x1c 14 x))
  | .vmaxu x => some (.word (wordVF 0x1c 15 x))
  | .vsadd x => some (.word (wordVF 0x1d 0 x))
  | .vssub x => some (.word (wordVF 0x1d 1 x))
  | .vnarrow x => some (.word (wordVF 0x1d 2 x))
  | .vwiden x => some (.word (wordVF 0x1d 3 x))
  | .vfadd x => some (.word (wordVF 0x1e 0 x))
  | .vfsub x => some (.word (wordVF 0x1e 1 x))
  | .vfmul x => some (.word (wordVF 0x1e 2 x))
  | .vfma x => some (.word (wordVF 0x1e 3 x))
  | .vfms x => some (.word (wordVF 0x1e 4 x))
  | .vfnma x => some (.word (wordVF 0x1e 5 x))
  | .vfmin x => some (.word (wordVF 0x1e 6 x))
  | .vfmax x => some (.word (wordVF 0x1e 7 x))
  | .vfabs x => some (.word (wordVF 0x1e 8 x))
  | .vfneg x => some (.word (wordVF 0x1e 9 x))
  | .vfdiv x => some (.word (wordVF 0x1e 10 x))
  | .vfsqrt x => some (.word (wordVF 0x1e 11 x))
  | .vfrcp x => some (.word (wordVF 0x1f 0 x))
  | .vfrsq x => some (.word (wordVF 0x1f 1 x))
  | .vfexp2 x => some (.word (wordVF 0x1f 2 x))
  | .vflog2 x => some (.word (wordVF 0x1f 3 x))
  | .vfsin x => some (.word (wordVF 0x1f 4 x))
  | .vfcos x => some (.word (wordVF 0x1f 5 x))
  | .vfcvt x => some (.word (wordVF 0x1f 6 x))
  | .vfcvti x => some (.word (wordVF 0x1f 7 x))
  | .vfcvtf x => some (.word (wordVF 0x1f 8 x))
  | .vcmpeq x => some (.word (wordVF 0x20 0 x))
  | .vcmpne x => some (.word (wordVF 0x20 1 x))
  | .vcmplt x => some (.word (wordVF 0x20 2 x))
  | .vcmple x => some (.word (wordVF 0x20 3 x))
  | .vcmpltu x => some (.word (wordVF 0x20 4 x))
  | .vcmpleu x => some (.word (wordVF 0x20 5 x))
  | .vfcmpeq x => some (.word (wordVF 0x20 6 x))
  | .vfcmplt x => some (.word (wordVF 0x20 7 x))
  | .vfcmple x => some (.word (wordVF 0x20 8 x))
  | .vfcmpun x => some (.word (wordVF 0x20 9 x))
  | .mand x => some (.word (wordVF 0x21 0 x))
  | .mor x => some (.word (wordVF 0x21 1 x))
  | .mxor x => some (.word (wordVF 0x21 2 x))
  | .mnot x => some (.word (wordVF 0x21 3 x))
  | .mffs x => some (.word (wordVF 0x21 4 x))
  | .mpop x => some (.word (wordVF 0x21 5 x))
  | .mset x => some (.word (wordVF 0x21 6 x))
  | .vidx x => some (.word (wordVF 0x21 7 x))
  | .vmsel x => some (.word (wordVF 0x21 8 x))
  | .vperm x => some (.word (wordVF 0x22 0 x))
  | .vslup x => some (.word (wordVF 0x22 1 x))
  | .vsldn x => some (.word (wordVF 0x22 2 x))
  | .vcmpr x => some (.word (wordVF 0x22 3 x))
  | .vexpd x => some (.word (wordVF 0x22 4 x))
  | .vbcst x => some (.word (wordVF 0x22 5 x))
  | .vmvxs x => some (.word (wordVF 0x22 6 x))
  | .vmvsx x => some (.word (wordVF 0x22 7 x))
  | .vmov x => some (.word (wordVF 0x22 8 x))
  | .vxchg x => some (.word (wordVF 0x22 9 x))
  | .vkrank x => some (.word (wordVF 0x22 10 x))
  | .vhist x => some (.word (wordVF 0x22 11 x))
  | .vredsum x => some (.word (wordVF 0x23 0 x))
  | .vredmax x => some (.word (wordVF 0x23 1 x))
  | .vredmin x => some (.word (wordVF 0x23 2 x))
  | .vfredo x => some (.word (wordVF 0x23 3 x))
  | .vfredf x => some (.word (wordVF 0x23 4 x))
  | .vfredmax x => some (.word (wordVF 0x23 5 x))
  | .vfredmin x => some (.word (wordVF 0x23 6 x))
  | .tset x => some (.word (wordVF 0x24 0 x))
  | .tldb x => some (.word (wordVF 0x24 1 x))
  | .tmma x => some (.word (wordVF 0x24 2 x))
  | .tmmaf x => some (.word (wordVF 0x24 3 x))
  | .tmmap x => some (.word (wordVF 0x24 4 x))
  | .tmmapf x => some (.word (wordVF 0x24 5 x))
  | .trda x => some (.word (wordVF 0x24 6 x))
  | .tzacc x => some (.word (wordVF 0x24 7 x))
  | .tadda x => some (.word (wordVF 0x24 8 x))
  | .mmsx x => some (.word (wordVF 0x24 9 x))
  | .edge x => some (.word (wordVF 0x25 0 x))
  | .boxt x => some (.word (wordVF 0x25 1 x))
  | .trit x => some (.word (wordVF 0x25 2 x))
  | .texf x => some (.word (wordVF 0x25 3 x))
  | .texq x => some (.word (wordVF 0x25 4 x))
  | .pxcmt x => some (.word (wordVF 0x25 5 x))
  | .tclr x => some (.word (wordVF 0x25 6 x))
  | .trslv x => some (.word (wordVF 0x25 7 x))
  | .repf x => some (.word (wordPF 0x26 x))
  | .cmov x => some (.half (wordCF 0 x))
  | .cli x => some (.half (wordCF 1 x))
  | .caddi x => some (.half (wordCF 2 x))
  | .cadd x => some (.half (wordCF 3 x))
  | .csub x => some (.half (wordCF 4 x))
  | .cand x => some (.half (wordCF 5 x))
  | .cslli x => some (.half (wordCF 6 x))
  | .csrli x => some (.half (wordCF 7 x))
  | .cld x => some (.half (wordCF 8 x))
  | .cst x => some (.half (wordCF 9 x))
  | .cbp x => some (.half (wordCF 10 x))
  | .cbpn x => some (.half (wordCF 11 x))
  | .cvadd x => some (.half (wordCF 12 x))
  | .cvmul x => some (.half (wordCF 13 x))
  | .cvfadd x => some (.half (wordCF 14 x))
  | .cvfma x => some (.half (wordCF 15 x))
  | .dispatch _ => none
  | .launchCompletion _ => none
  | .chunkCommit _ => none
  | .externalClusterWrite _ _ => none
  | .impreciseFaultTrap _ => none
  | .pendingResultArrival _ => none
  | .loadDataArrival _ => none
  | .spanGrant _ => none
  | .icacheFill _ => none
  | .migrationArrival _ => none
  | .runQueueFallback _ => none
  | .popWaitWake _ => none
  | .capacityWaitWake _ => none
  | .preemptionRequest _ => none
  | .timeSliceTrap _ => none
  | .hostInterrupt _ => none
  | .slotReset _ => none
  | .sleepWake _ => none
  | .pairPartnerTimeout _ => none
  | .agingStep _ _ => none
  | .gangReservationStart _ => none
  | .closedClusterFallback _ => none
  | .clusterSteal _ => none
  | .resumeWaitTimeout _ => none
  | .homeTakeRequest _ => none
  | .homeGive _ => none
  | .recallMessage _ _ => none
  | .recallExactPoint _ => none
  | .parkedTakeGrant _ => none
  | .recallHolderTimeout _ _ => none
  | .barwtWake _ => none
  | .hcpy _ => none
  | .hcpyt _ => none
  | .hgth _ => none
  | .hsct _ => none
  | .hfil _ => none
  | .hred _ => none
  | .hsig _ => none
  | .engineCommandComplete _ => none
  | .resultRecordPlace _ => none
  | .jobCardTile _ => none
  | .redaddPerform => none
  | .replayEnqueueRetry => none
  | .queueSwapIn _ => none
  | .pendingQueueSwapIn _ => none
  | .qctlMakeResident _ _ _ => none
  | .qctlEvict _ _ _ => none
  | .qctlRetire _ _ _ => none
  | .sctlWrite _ _ => none
  | .hostWindowWrite _ _ _ _ _ => none
  | .heldWindowWriteDrop => none
  | .translationRequest _ _ => none
  | .pageMove _ _ _ _ => none
  | .settleExpiry _ => none
  | .directoryRead _ _ => none
  | .directoryWriteOwnership _ _ => none
  | .sectorEvict _ _ => none
  | .dieCacheLineEviction _ => none
  | .ptbaseWrite _ _ => none
  | .vctxWrite _ _ => none
  | .vectorLengthWrite _ _ _ => none
  | .tileShapeWrite _ _ _ => none
  | .pwreqWrite _ _ => none
  | .leaseWrite _ _ => none
  | .pwbudWrite _ _ => none
  | .hmodeWrite _ _ => none
  | .registerWrite _ _ => none
  | .ffaddWrite _ _ _ => none
  | .frameRecall _ _ => none
  | .frameRecallComplete _ => none
  | .modctlWrite _ => none
  | .modeNormalEntry => none
  | .moduleReset => none
  | .hostPortEnumerated _ => none
  | .bondFabricTrained => none
  | .dieReady _ => none
  | .clusterReady _ => none
  | .bringupTimeout _ _ => none
  | .slowLoopPeriod _ => none
  | .leaseExpiry _ => none
  | .droopDetected _ _ => none
  | .railMonitorHold _ => none
  | .stepRise _ => none
  | .ccapWrite _ _ _ => none
  | .clusterOvertemp _ _ => none
  | .overtempClear _ _ => none
  | .thermalTrip _ _ => none
  | .thermalTripReturn _ _ => none
  | .railOvercurrent _ => none
  | .powerTrip _ _ => none
  | .watchdogExpiry _ => none
  | .correctedError _ _ => none
  | .uncorrectedError _ _ _ => none
  | .persistentError _ _ _ => none
  | .laneSliceFence _ => none
  | .macroScrub _ _ _ => none
  | .birfelFlitReplay _ => none
  | .birfelLinkDrop _ => none
  | .peerUnreachable _ => none
  | .peerFlagMessage _ _ _ _ => none
  | .bondLinkFailure _ => none
  | .dieUnreachable _ => none
  | .dieReturn _ => none
  | .hostPortLinkDown _ => none
  | .getVersion _ => none
  | .getCapabilities _ => none
  | .negotiateAlgorithms _ => none
  | .getDigests _ => none
  | .getCertificate _ => none
  | .challenge _ _ => none
  | .getMeasurements _ => none
  | .mctpReport => none
  | .hctlWrite _ _ => none
  | .headRaise _ => none
  | .headDeadline _ => none
  | .scanoutReadFault _ _ _ _ => none
  | .commitPacket _ => none
  | .resolveCredit => none
  | .stuckTile _ _ => none
  | .tcskipWrite _ _ => none
  | .vectorUnitDispatch _ => none
  | .unallocatedEncoding _ => none
  | .fetchFault _ _ _ => none
  | .birfelLinkTrained _ _ => none
  | .presentationHeadUsable _ => none

/-- The instruction of an opcode-table word of `nbits` bits, numbered as the table numbers them: the first halfword is
bits 15..0, and bits above `nbits` are zero. -/
noncomputable def decodeTableWord (nbits w : Nat) : Option Instr :=
  let v := w % 2 ^ nbits
  match decode (bytesOfWord (BitVec.ofNat 32 v)) with
  | some (.instr i, _) => some i
  | _ => none

end Sys2Proof
end

