-- ==== Sys2Proof/Machine/Float.lean ====
section
/-! DEFINITION. Machine/Float.lean: the number formats (R107 to R110), exact values, the one rounding to a destination
(R115 to R119), exact arithmetic, comparisons (R120) and conversions (R121 to R123). Everything is exact arithmetic of
natural numbers and integers, rounded once at the end. -/

namespace Sys2Proof.Machine

/-- A floating-point value: NaN, an infinity, or the number (-1)^neg × m × 2^e, whose zero has a sign. -/
inductive FVal where
  | nan
  | inf (neg : Bool)
  | num (neg : Bool) (m : Nat) (e : Int)
  deriving DecidableEq, Repr

/-- A format: width, exponent bits, fraction bits, bias, largest finite encoding without sign, and what stands in the top
exponent: 2 infinity and NaNs, 1 one NaN (E4M3), 0 numbers only (R107, R108). -/
structure Fmt where
  w : Nat
  eb : Nat
  mb : Nat
  bias : Nat
  maxE : Nat
  top : Nat
  deriving DecidableEq, Repr

/-- The formats by code (R107); code 8, E8M0, has its own functions. -/
def fmtOf (c : Nat) : Fmt :=
  match c with
  | 0 => ⟨32, 8, 23, 127, 0x7F7FFFFF, 2⟩
  | 1 => ⟨16, 8, 7, 127, 0x7F7F, 2⟩
  | 2 => ⟨16, 5, 10, 15, 0x7BFF, 2⟩
  | 3 => ⟨8, 4, 3, 7, 0x7E, 1⟩
  | 4 => ⟨8, 5, 2, 15, 0x7B, 2⟩
  | 5 => ⟨6, 3, 2, 3, 0x1F, 0⟩
  | 6 => ⟨6, 2, 3, 1, 0x1F, 0⟩
  | 7 => ⟨4, 2, 1, 1, 0x7, 0⟩
  | _ => ⟨8, 8, 0, 127, 0xFE, 1⟩

/-- Width of a format code in bits. -/
def fmtW (c : Nat) : Nat := (fmtOf c).w
/-- The largest unbiased exponent of a finite value (R107). -/
def fmtEmax (c : Nat) : Int :=
  match c with
  | 0 => 127
  | 1 => 127
  | 2 => 15
  | 3 => 8
  | 4 => 15
  | 5 => 4
  | 6 => 2
  | 7 => 2
  | _ => 127

/-- Rounding mode, saturation and flushing that govern an operation (R113). -/
structure Gov where
  rm : Nat
  sat : Bool
  ftz : Bool
  deriving DecidableEq, Repr

/-- To nearest even, no saturation, no flushing (R12). -/
def Gov.default : Gov := ⟨0, false, false⟩

/-- Formats that ftz acts on (R119). -/
def flushed (c : Nat) : Bool := decide (c < 3)

/-- The value of an encoding (R108 to R110). -/
def decodeF (c x : Nat) : FVal :=
  if c = 8 then (if x % 256 = 255 then .nan else .num false 1 ((x % 256 : Nat) - 127 : Int))
  else
    let f := fmtOf c
    let s := x.testBit (f.w - 1)
    let e := (x >>> f.mb) % 2 ^ f.eb
    let m := x % 2 ^ f.mb
    if e = 2 ^ f.eb - 1 ∧ f.top = 2 then (if m = 0 then .inf s else .nan)
    else if f.top = 1 ∧ e = 2 ^ f.eb - 1 ∧ m = 7 then .nan
    else if e = 0 then .num s m (1 - (f.bias : Int) - f.mb)
    else .num s (2 ^ f.mb + m) ((e : Int) - f.bias - f.mb)

/-- An encoding is subnormal. -/
def subnormalF (c x : Nat) : Bool :=
  let f := fmtOf c
  decide ((x >>> f.mb) % 2 ^ f.eb = 0 ∧ x % 2 ^ f.mb ≠ 0)

/-- An operand as an operation reads it: with ftz a subnormal FP32, BF16 or FP16 is a zero of its sign (R119). -/
def readF (g : Gov) (c x : Nat) : FVal :=
  if g.ftz ∧ flushed c = true ∧ subnormalF c x = true then .num (x.testBit ((fmtOf c).w - 1)) 0 0 else decodeF c x

/-- The sign bit of a format. -/
def signBit (c : Nat) (neg : Bool) : Nat := if neg then 2 ^ ((fmtOf c).w - 1) else 0
/-- The canonical NaN (R109); a format without NaN takes +0 (R118). -/
def nanF (c : Nat) : Nat :=
  match c with
  | 0 => 0x7FC00000
  | 1 => 0x7FC0
  | 2 => 0x7E00
  | 3 => 0x7F
  | 4 => 0x7E
  | 8 => 0xFF
  | _ => 0
/-- The largest finite value with a sign. -/
def maxF (c : Nat) (neg : Bool) : Nat := signBit c neg + (fmtOf c).maxE
/-- An infinite result that does not come from overflow (R117). -/
def infF (g : Gov) (c : Nat) (neg : Bool) : Nat :=
  if g.sat ∨ (fmtOf c).top = 0 then maxF c neg
  else if c = 3 then 0x7F
  else signBit c neg + (fmtOf c).maxE + 1
/-- An overflowing result (R117). -/
def overflowF (g : Gov) (c : Nat) (neg : Bool) : Nat :=
  let away := match g.rm with
    | 0 => true
    | 1 => false
    | 2 => neg
    | _ => !neg
  if away then infF g c neg else maxF c neg

/-- A magnitude m × 2^e, with more below its last bit when `sticky` is set, in units of 2^q, rounded (R116). -/
def roundAt (rm : Nat) (neg : Bool) (m : Nat) (e q : Int) (sticky : Bool) : Nat :=
  if q ≤ e then m <<< (e - q).toNat
  else
    let sh := (q - e).toNat
    let r := m >>> sh
    let rest := m % 2 ^ sh
    let half := 2 ^ (sh - 1)
    let inexact := decide (rest ≠ 0) || sticky
    let up := match rm with
      | 0 => decide (half < rest) || (decide (rest = half) && (sticky || decide (r % 2 = 1)))
      | 1 => false
      | 2 => inexact && neg
      | _ => inexact && !neg
    if up then r + 1 else r

/-- A nonzero magnitude rounded once to a destination (R115 to R119): the encoding. -/
def roundF (g : Gov) (c : Nat) (neg : Bool) (m : Nat) (e : Int) (sticky : Bool) : Nat :=
  let f := fmtOf c
  let qmin : Int := 1 - (f.bias : Int) - f.mb
  let q : Int := (Nat.log2 m : Int) + e - f.mb
  let r := roundAt g.rm neg m e (max q qmin) sticky
  let enc := ((max q qmin - qmin).toNat <<< f.mb) + r
  if g.ftz ∧ flushed c = true ∧ q < qmin ∧
      ¬ (q = qmin - 1 ∧ roundAt g.rm neg m e q sticky = 2 ^ (f.mb + 1)) then signBit c neg
  else if f.maxE < enc then overflowF g c neg
  else signBit c neg + enc

/-- Conversion to E8M0 (R123). -/
def toE8M0 (v : FVal) : Nat :=
  match v with
  | .nan => 0xFF
  | .inf _ => 0xFF
  | .num neg m e =>
    if m = 0 then 0
    else if neg then 0xFF
    else (max 0 (min 254 ((Nat.log2 m : Int) + e + 127))).toNat

/-- A value written to a destination format (R115 to R119, R121, R123). -/
def writeF (g : Gov) (c : Nat) (v : FVal) : Nat :=
  if c = 8 then toE8M0 v
  else match v with
    | .nan => nanF c
    | .inf neg => infF g c neg
    | .num neg m e => if m = 0 then signBit c neg else roundF g c neg m e false

/-! Exact arithmetic. -/

/-- A number as a signed multiple of 2^e, for an e not above its own. -/
def scaledTo (neg : Bool) (m : Nat) (e0 e : Int) : Int :=
  let v : Int := (m <<< (e0 - e).toNat : Nat)
  if neg then -v else v

/-- The exact sum (R109, R120). -/
def addV (rm : Nat) (a b : FVal) : FVal :=
  match a, b with
  | .nan, _ => .nan
  | _, .nan => .nan
  | .inf x, .inf y => if x = y then .inf x else .nan
  | .inf x, .num _ _ _ => .inf x
  | .num _ _ _, .inf y => .inf y
  | .num x m e, .num y n k =>
    if m = 0 ∧ n = 0 then (if x = y then .num x 0 0 else .num (decide (rm = 2)) 0 0)
    else
      let q := min e k
      let s := scaledTo x m e q + scaledTo y n k q
      if s = 0 then .num (decide (rm = 2)) 0 0 else .num (decide (s < 0)) s.natAbs q

/-- The value with its sign changed. -/
def negV : FVal → FVal
  | .nan => .nan
  | .inf x => .inf (!x)
  | .num x m e => .num (!x) m e
/-- The value without its sign. -/
def absV : FVal → FVal
  | .nan => .nan
  | .inf _ => .inf false
  | .num _ m e => .num false m e
/-- The value is a zero. -/
def isZeroV : FVal → Bool
  | .num _ m _ => m == 0
  | _ => false

/-- The exact product (R109). -/
def mulV (a b : FVal) : FVal :=
  match a, b with
  | .nan, _ => .nan
  | _, .nan => .nan
  | .inf x, .inf y => .inf (x != y)
  | .inf x, .num y n _ => if n = 0 then .nan else .inf (x != y)
  | .num x m _, .inf y => if m = 0 then .nan else .inf (x != y)
  | .num x m e, .num y n k => .num (x != y) (m * n) (e + k)

/-- The quotient rounded to a destination (R109, R115, R117). -/
def divF (g : Gov) (c : Nat) (a b : FVal) : Nat :=
  match a, b with
  | .nan, _ => nanF c
  | _, .nan => nanF c
  | .inf _, .inf _ => nanF c
  | .inf x, .num y _ _ => infF g c (x != y)
  | .num x _ _, .inf y => signBit c (x != y)
  | .num x m e, .num y n k =>
    if n = 0 then (if m = 0 then nanF c else infF g c (x != y))
    else if m = 0 then signBit c (x != y)
    else
      let sh := 64 + Nat.log2 n
      roundF g c (x != y) ((m <<< sh) / n) (e - k - sh) (decide ((m <<< sh) % n ≠ 0))

/-- The integer square root of a number below 4^n, bit by bit. -/
def isqrt : Nat → Nat → Nat
  | 0, _ => 0
  | n + 1, v =>
    let r := 2 * isqrt n (v / 4)
    if (r + 1) * (r + 1) ≤ v then r + 1 else r

/-- The square root rounded to a destination (R109, R115). -/
def sqrtF (g : Gov) (c : Nat) (a : FVal) : Nat :=
  match a with
  | .nan => nanF c
  | .inf neg => if neg then nanF c else infF g c false
  | .num neg m e =>
    if m = 0 then signBit c neg
    else if neg then nanF c
    else
      let odd := (e % 2).toNat
      let v := m <<< (64 + odd)
      let r := isqrt 64 v
      roundF g c false r ((e - odd - 64) / 2) (decide (r * r ≠ v))

/-! Comparisons, minimum and maximum (R120). -/

/-- The order of two values that are not NaN: -1, 0 or 1. -/
def orderV (a b : FVal) : Int :=
  let key (v : FVal) (q : Int) : Int := match v with
    | .num x m e => scaledTo x m e q
    | _ => 0
  match a, b with
  | .inf x, .inf y => if x = y then 0 else if x then -1 else 1
  | .inf x, _ => if x then -1 else 1
  | _, .inf y => if y then 1 else -1
  | .num _ _ e, .num _ _ k =>
    let q := min e k
    (key a q - key b q).sign
  | _, _ => 0

/-- Either operand is NaN. -/
def unorderedV (a b : FVal) : Bool := decide (a = .nan ∨ b = .nan)
/-- Equal. -/
def eqV (a b : FVal) : Bool := !unorderedV a b && decide (orderV a b = 0)
/-- Less. -/
def ltV (a b : FVal) : Bool := !unorderedV a b && decide (orderV a b < 0)
/-- Less or equal. -/
def leV (a b : FVal) : Bool := !unorderedV a b && decide (orderV a b ≤ 0)
/-- The sign of a value. -/
def signV : FVal → Bool
  | .nan => false
  | .inf x => x
  | .num x _ _ => x
/-- The smaller value, -0 below +0; the number when one is NaN. -/
def minV (a b : FVal) : FVal :=
  if a = .nan then b else if b = .nan then a
  else if ltV a b then a else if ltV b a then b else if signV a then a else b
/-- The larger value, with the same rules. -/
def maxV (a b : FVal) : FVal :=
  if a = .nan then b else if b = .nan then a
  else if ltV a b then b else if ltV b a then a else if signV a then b else a

/-! Integers (R111, R123). -/

/-- An integer type: its width and whether it is signed. -/
structure IntTy where
  w : Nat
  signed : Bool
  deriving DecidableEq, Repr
/-- The least value of a type. -/
def IntTy.lo (t : IntTy) : Int := if t.signed then -(2 ^ (t.w - 1) : Nat) else 0
/-- The greatest value of a type. -/
def IntTy.hi (t : IntTy) : Int := (2 ^ (if t.signed then t.w - 1 else t.w) : Nat) - 1
/-- The value of an element of a type. -/
def IntTy.get (t : IntTy) (x : Nat) : Int := if t.signed then sextN t.w x else (x % 2 ^ t.w : Nat)
/-- A value clamped to a type, as its element. -/
def IntTy.clamp (t : IntTy) (v : Int) : Nat := truncI t.w (max t.lo (min t.hi v))

/-- A value rounded to an integer and clamped; NaN gives 0 (R123). -/
def toIntF (rm : Nat) (t : IntTy) (v : FVal) : Nat :=
  match v with
  | .nan => 0
  | .inf neg => truncI t.w (if neg then t.lo else t.hi)
  | .num neg m e =>
    let r : Int := roundAt rm neg m e 0 false
    t.clamp (if neg then -r else r)
/-- An exact value of an integer. -/
def ofIntV (v : Int) : FVal := .num (decide (v < 0)) v.natAbs 0

/-- FP32 with the default of R12. -/
def round32 (g : Gov) (v : FVal) : Nat := writeF g 0 v

end Sys2Proof.Machine
end

