-- ==== Sys2Proof/Machine/VecSource.lean ====
section
/-! DEFINITION. Machine/VecSource.lean: which vector registers an instruction of the vector unit reads, so which bound ones it
pops, before it reaches the lanes (R173, R298, R300). -/

namespace Sys2Proof.Machine

/-- The function code of a V-format word. -/
def fnOf (w : BitVec 32) : Nat := (w.extractLsb' 27 5).toNat

/-- A frame instruction as pass `p` performs it: vd, va and vb stepped (R95). A compact one, which no frame may hold, stays
as it was fetched. -/
def stepWord (x : PF) (w : BitVec 32) (p : Nat) : BitVec 32 :=
  let y := fieldsVF w
  let by_ (r : Reg) (i : BitVec 3) : Reg := r + BitVec.ofNat 5 (p * i.toNat)
  if w.getLsbD 0 = false then w else
  wordVF (w.extractLsb' 1 6) (w.extractLsb' 27 5) { y with vd := by_ y.vd x.id, va := by_ y.va x.ia, vb := by_ y.vb x.ib }

/-- The instructions that a frame performs, in order, each with its place in the frame (R95). -/
def performedWords (x : PF) (ws : List (BitVec 32)) : List (Nat × BitVec 32) :=
  (upFrom 0 (x.times.toNat + 1)).flatMap (fun p =>
    (ws.zip (upFrom 0 ws.length)).map (fun e => (e.2, stepWord x e.1 p)))

/-- The registers (first, count) of the vector sources of a word with a format descriptor, at G = 1, the one group size that a
bound operand may have (R173). -/
def vecSources (w : BitVec 32) (fmt : Word) : List (Nat × Nat) :=
  let field (lo : Nat) : Nat := (w.extractLsb' lo 5).toNat
  let b := field 17
  let a := field 12
  let d := field 7
  let fn := fnOf w
  let mem := (w.extractLsb' 25 7).toNat
  match majorOf w with
  | 0x19 => if mem = 2 then [(b, 1)] else []
  | 0x1A => (d, if mem = 3 then b else 1) :: (if mem = 2 then [(b, 1)] else [])
  | 0x1B => [(d, if (w.extractLsb' 28 4).toNat = 7 then 2 else 1), (b, 1)]
  | 0x1C => (if fn = 5 then [(d, 1)] else []) ++ [(a, 1), (b, 1)]
  | 0x1D => if fn < 2 then [(a, 1), (b, 1)] else [(a, if fn = 2 then 2 else 1)]
  | 0x1E => (if fn = 3 ∨ fn = 4 ∨ fn = 5 then [(d, 1)] else []) ++ [(a, 1)] ++
      (if fn = 8 ∨ fn = 9 ∨ fn = 11 then [] else [(b, 1)])
  | 0x1F =>
    if fn < 6 then [(a, 1)]
    else
      let fa := fmtW (fieldOf fmt 3 0)
      let fd := fmtW (fieldOf fmt 11 8)
      (a, if fd = 0 then 1 else (fa + fd - 1) / fd) :: (if fn = 6 ∧ fieldOf fmt 18 16 = 1 then [(b, 1)] else [])
  | 0x20 => [(a, 1), (b, 1)]
  | 0x21 => if fn = 8 then [(a, 1), (b, 1)] else []
  | 0x22 => if fn = 5 ∨ fn = 6 then [] else if fn = 0 then [(a, 1), (b, 1)] else [(a, 1)]
  | 0x23 => [(a, 1)]
  | 0x24 =>
    if fn = 9 then [(a, 2), (b, 2), (d, 1)]
    else if 2 ≤ fn ∧ fn ≤ 5 then (a, 1) :: (if 2 ≤ fieldOf fmt 18 16 then [(b, 1)] else [])
    else if fn = 8 then [(a, 1)] else []
  | 0x25 => if fn = 1 ∨ fn = 2 then [(a, 9)] else if fn = 3 then [(a, 7)] else if fn = 4 then [(a, 1)]
    else if fn = 5 then [(a, 4)] else []
  | _ => []

/-- The registers (first, count) that a word may write beyond the one that vd names, at G = 1. -/
def vecTargets (w : BitVec 32) : List (Nat × Nat) :=
  let d := (w.extractLsb' 7 5).toNat
  match majorOf w with
  | 0x19 => if (w.extractLsb' 25 7).toNat = 4 then [(d, (w.extractLsb' 17 5).toNat)] else []
  | 0x1D => if fnOf w = 3 then [(d, 2)] else []
  | 0x25 => if 2 ≤ fnOf w ∧ fnOf w ≤ 4 then [(d, 4)] else []
  | _ => []

/-- The words of the vector unit that an entry performs, with their format descriptors (R95). -/
def entryWords (e : QEntry) : List (BitVec 32 × Word) :=
  match e.work with
  | .vector code =>
    if majorOf code = 0x26 then
      let ws := performedWords (fieldsPF code) e.frame
      (ws.zip (upFrom 0 ws.length)).map (fun p => (p.1.2, e.vals.getD (2 * p.2) 0))
    else [(code, e.fmt)]
  | _ => []

/-- A word of the vector unit may pop a register of a bound vector window whose queue kind acquires (R298). -/
def popsAcquire (x : Slot) (w : BitVec 32) (fmt : Word) : Bool :=
  (boundFields x.sys.qmap).any (fun e => decide (6 ≤ e.1) &&
    (match x.port e.2 with | some q => decide (q.kind = 3 ∨ q.kind = 5) | none => false) &&
    (vecSources w fmt).any (fun r => decide (r.1 ≤ e.1 + 22 ∧ e.1 + 22 < r.1 + r.2)))

/-- A pop of the vector unit that acquires is still to come: later accesses of the slot perform behind it (R300). -/
def acquireQueued (x : Slot) : Bool :=
  if boundFields x.sys.qmap = [] then false else
  let pops (e : QEntry) : Bool := (entryWords e).any (fun w => popsAcquire x w.1 w.2)
  x.vq.any pops || x.chunk.deferred.any (fun d => match d with | .vec e => pops e | _ => false)

end Sys2Proof.Machine
end

