-- ==== Sys2Proof/Machine/ScalarMem.lean ====
section
/-! DEFINITION. Machine/ScalarMem.lean: scalar loads and stores (R139, R140), forwarding from the chunk's store buffer
(R289), and a migrate-mode thread's departure (R50, R51). -/

namespace Sys2Proof.Machine

/-- The cause of a failed access, precise, with eaddr the address (R443). -/
def accessCause (va : Word) (code reason level : Nat) (write : Bool) : Cause :=
  ⟨code, va, einfoOf reason level (wrOf code reason write) 0⟩

/-- The core that owns a location, when one does (R51). -/
def ownerCore (s : State) (k : Nat) (va : Word) : Option Nat :=
  if inWindowRegion va then (windowOff k va).map (windowCore (clusterOf k))
  else match walk s va.toNat (bits (s.slot k).sys.ptbase.toNat 51 12) 4 [] with
    | .ok l =>
      if bit l.pte 9 && (inTier0 l.pa || inTier1 l.pa) then
        let n := (l.pa / 256) % 576
        some ((3 * homeOf l.pa + n / 192) * 192 + n % 192)
      else none
    | .bad _ _ _ => none

/-- A migrate-mode light thread goes to the owner of the address instead of performing the access (R50). -/
def mustMigrate (s : State) (va : Word) : Option Nat :=
  let x := s.me
  if x.light && x.mig && !x.remote then
    match ownerCore s s.cur va with
    | some c => if c = coreOf s.cur then none else some c
    | none => none
  else none

/-- A scalar access of the issuing slot located, in the order of R139: alignment, address, translation, and then the
owner of R50; it performs behind a queued acquire (R300). -/
def locate (s : State) (va : Word) (n : Nat) (w : Want) (write : Bool) : R Loc :=
  if va.toNat % n ≠ 0 then .trap (accessCause va 0x13 1 0 write) .none
  else match resolveFor s s.cur va w with
    | (_, .bad c r l) => .trap (accessCause va c r l write) (.access va w)
    | (s1, .ok loc) =>
      match mustMigrate s va with
      | some c => waitClosed s (.migrate c s.cycle true) none
      | none => if acquireQueued s.me then waitClosed s .drain none else .ok loc s1

/-- The bytes a scalar load of slot `k` returns: its own chunk's stores over what the cluster holds (R140, R297), or zeros
where the page is discarded (R286). -/
def loadBytes (s : State) (k : Nat) (l : Loc) (n : Nat) : List Byte :=
  let raw := if l.kind = 4 then devRead s l.key n else peekLoc s (clusterOf k) l n
  if l.disc then raw
  else (raw.zip (upFrom l.key n)).map (fun e => forwardByte (s.slot k).chunk.stores e.2 e.1)

/-- The location answers within the barrel's eight cycles: the core's own scratchpad, or its own slice of the L1
(R43, R135). DESIGN CHOICE, log 141: a load of a discarded page, for which R135 names no source, answers so too. -/
def nearLoc (s : State) (k : Nat) (l : Loc) (n : Nat) : Bool :=
  if l.kind = 1 then decide (windowCore (clusterOf k) (l.key - winKey (clusterOf k) 0) = coreOf k)
  else l.disc || (decide (l.kind ≠ 3 ∧ l.kind ≠ 4) && presentLoc s (clusterOf k) l n && sliceOf l.key == coreOf k % 192)

/-- A load's mark on the chunk and the caches: the sectors of a tracked or window location enter the read signature
(R292), those of a discarded page under the frame that its entry names; a miss counts (R75). -/
def noteLoad (s : State) (l : Loc) (n : Nat) : State :=
  let s3 := touchScalar s s.cur l n
  if l.kind ≤ 1 then
    s3.onMe (fun x => { x with chunk := { x.chunk with
      rset := (sectorsOf l.key n).foldl addOnce x.chunk.rset } })
  else s3

/-- A poisoned byte was consumed: the uncorrectable error follows at once (R427, R428). -/
def consumePoison (s : State) (l : Loc) (n : Nat) : State := poisoned s s.me.asidN l n

/-- A loaded value reaches its register: at once when the location is near, and otherwise when the data arrives (R42,
R43). The push of a bound register is reserved at issue in either case (R231), and the slot waits for the data. -/
def deliverLoad (s : State) (near : Bool) (key : Nat) (d : Reg) (v : Word) (n : Nat) : R Unit :=
  if near then writeAdvance s d v n
  else if isBound s.me d then
    (writeAdvance s d v n).bind (fun _ t => .ok () (t.onMe (fun x => { x with wait := .loadData 31 v key })))
  else .ok () (s.onMe (fun x => { x with
    regs := { x.regs.skip n with cdst := d }
    wait := .loadData d v key }))

/-- A scalar load (R139): `sgn` sign-extends the `n` bytes, otherwise they are zero-extended. -/
def loadAt (s : State) (d : Reg) (va : Word) (n : Nat) (sgn : Bool) (long : Nat) : R Unit :=
  (locate s va n wantRead false).bind (fun l s1 =>
    let v := ofLe (loadBytes s1 s1.cur l n)
    let near := nearLoc s1 s1.cur l n
    let s2 := consumePoison (noteLoad s1 l n) l n
    deliverLoad s2 near l.key d (if sgn then BitVec.ofInt 64 (sextN (8 * n) v) else word v) long)

/-- A scalar store (R139, R140): it takes an entry of the chunk's store buffer, which holds 32. Its frame takes its mode at
issue, where an alias is found (R283). A device register that refuses the value traps (R385). A page allocated for it whose
entry the chunk has read squashes the chunk, the store with it (R286, R294). -/
def storeAt (s : State) (va : Word) (v : Word) (n long : Nat) : R Unit :=
  if 32 ≤ s.me.chunk.stores.length then .close
  else (locate s va n wantWrite true).bind (fun l s1 =>
    if s1.me.squashes ≠ s.me.squashes then .undone s1
    else if l.kind = 4 ∧ storeRefused s1 s1.me.chunk.stores l.key (toLe n v.toNat) = true then
      .trap (ownCause s1.me 0x12 5) .none
    else .ok () (advance ((touchScalar s1 s1.cur l n).onMe (fun x => { x with chunk := { x.chunk with
      stores := x.chunk.stores ++ [⟨l.key, toLe n v.toNat, l.kind⟩]
      wset := if l.kind ≤ 1 then (sectorsOf l.key n).foldl addOnce x.chunk.wset else x.chunk.wset } })) long))

/-- A load of the I format. -/
def loadI (x : IF) (n : Nat) (sgn : Bool) (s : State) : Host.Outcome State Fault Refusal :=
  run { srcs := [x.a], dsts := [x.d] } s (fun got s =>
    loadAt s x.d (srcVal s got x.a + sext64 x.imm) n sgn 4)

/-- A store of the S format. -/
def storeS (x : SF) (n : Nat) (s : State) : Host.Outcome State Fault Refusal :=
  run { srcs := [x.a, x.c] } s (fun got s =>
    storeAt s (srcVal s got x.a + sext64 x.imm) (srcVal s got x.c) n 4)

/-- LD8. -/
def execLd8 (x : IF) (s : State) : Host.Outcome State Fault Refusal := loadI x 1 true s
/-- LD8U. -/
def execLd8u (x : IF) (s : State) : Host.Outcome State Fault Refusal := loadI x 1 false s
/-- LD16. -/
def execLd16 (x : IF) (s : State) : Host.Outcome State Fault Refusal := loadI x 2 true s
/-- LD16U. -/
def execLd16u (x : IF) (s : State) : Host.Outcome State Fault Refusal := loadI x 2 false s
/-- LD32. -/
def execLd32 (x : IF) (s : State) : Host.Outcome State Fault Refusal := loadI x 4 true s
/-- LD32U. -/
def execLd32u (x : IF) (s : State) : Host.Outcome State Fault Refusal := loadI x 4 false s
/-- LD64. -/
def execLd64 (x : IF) (s : State) : Host.Outcome State Fault Refusal := loadI x 8 true s
/-- ST8. -/
def execSt8 (x : SF) (s : State) : Host.Outcome State Fault Refusal := storeS x 1 s
/-- ST16. -/
def execSt16 (x : SF) (s : State) : Host.Outcome State Fault Refusal := storeS x 2 s
/-- ST32. -/
def execSt32 (x : SF) (s : State) : Host.Outcome State Fault Refusal := storeS x 4 s
/-- ST64. -/
def execSt64 (x : SF) (s : State) : Host.Outcome State Fault Refusal := storeS x 8 s

end Sys2Proof.Machine
end

