-- ==== Sys2Proof/Machine/Atomic.lean ====
section
/-! DEFINITION. Machine/Atomic.lean: scopes (R232, R303), scalar atomics, acquire and release, and non-returning
reductions (R244, R245). -/

namespace Sys2Proof.Machine

/-- Scope `sc` of slot `k` contains a tracked location (R232). -/
def contains (k sc : Nat) (l : Loc) : Bool :=
  match sc with
  | 1 => l.kind == 1 && windowCore (clusterOf k) (l.key - winKey (clusterOf k) 0) == coreOf k
  | 2 => l.kind == 1 || inTier0 l.key || inTier1 l.key
  | 3 => l.kind == 1 || ((inTier0 l.key || inTier1 l.key) && homeOf l.key == dieOf k)
  | 4 => l.kind == 1 || inTier0 l.key || inTier1 l.key
  | _ => true

/-- The checks of R244 in their order: alignment, address and translation, an untracked page, the scope. -/
def locateScoped (s : State) (va : Word) (w : Want) (write amo : Bool) (sc : Nat) : R Loc :=
  (locate s va 8 w write).bind (fun l s1 =>
    if l.tracked = false then .trap (accessCause va 0x16 7 0 amo) .none
    else if contains s.cur sc l then .ok l s1
    else .trap ⟨0x06, va, word sc⟩ .none)

/-- A write of the cluster's slots that would squash a protected chunk waits for it (R296). -/
def heldByProtected (s : State) (k key n : Nat) : Bool :=
  s.slots.any (fun e => e.1 != k && clusterOf e.1 == clusterOf k && e.2.chunk.prot &&
    conflict e.2.chunk.rset (sectorsOf key n))

/-- The sequence number of the next flag of a stream (R394): a stream is a slot's, and its flags count from 0. -/
def flagSeq (s : State) (stream : Nat) : Nat :=
  (s.output.filter (fun o => match o with | .flag k _ _ _ => k == stream | _ => false)).length

/-- A release to a word of a peer device leaves as a flag message of the slot's stream (R394). -/
def sendFlag (s : State) (l : Loc) (v : Word) : State :=
  if l.kind ≠ 4 ∧ l.kind ≠ 5 ∧ inTier3 l.key = true then
    { s with output := s.output ++ [.flag s.cur (flagSeq s s.cur) l.key v] }
  else s

/-- A 64-bit write of an irrevocable instruction, performed at once (R293). A device register takes it next (R292). -/
def performWord (s : State) (l : Loc) (v : Word) : State :=
  writeAt (sendFlag s l v) (clusterOf s.cur) l (toLe 8 v.toNat)

/-- The 64-bit word at a location. -/
def wordAt (s : State) (l : Loc) : Word := word (ofLe (loadBytes s s.cur l 8))

/-- A 64-bit write that a register of the device range refuses (R385). -/
def wordRefused (s : State) (l : Loc) (v : Word) : Bool :=
  l.kind == 4 && storeRefused s [] l.key (toLe 8 v.toNat)

/-- A scalar atomic (R244): the old value to s[d], the new value to memory. Of the permissions it needs w (R273). -/
def atomic (x : QF) (s : State) (f : Word → Word → Word → Word) (srcs : List Reg) :
    Host.Outcome State Fault Refusal :=
  run { reason := zeroQFFrom1Scope5 x, srcs := srcs, dsts := [x.d], irrev := true } s (fun got s =>
    (locateScoped s (srcVal s got x.a) wantWrite true true x.sc.toNat).bind (fun l s1 =>
      if l.kind ≤ 1 ∧ heldByProtected s1 s1.cur l.key 8 = true then .wait .protectedChunk none
      else
        let old := wordAt s1 l
        let new := f old (srcVal s got x.b) (srcVal s got x.d)
        if wordRefused s1 l new then .trap (ownCause s1.me 0x12 5) .none else
        let near := nearLoc s1 s1.cur l 8
        let s2 := consumePoison (touchLoc s1 s1.cur (clusterOf s1.cur) l 8) l 8
        deliverLoad (performWord s2 l new) near l.key x.d old 4))

/-- The register sources of an AMO. -/
def amoSrcs (x : QF) : List Reg := [x.a, x.b]

/-- AMOADD. -/
def execAmoadd (x : QF) (s : State) : Host.Outcome State Fault Refusal := atomic x s (fun o b _ => o + b) (amoSrcs x)
/-- AMOAND. -/
def execAmoand (x : QF) (s : State) : Host.Outcome State Fault Refusal := atomic x s (fun o b _ => o &&& b) (amoSrcs x)
/-- AMOOR. -/
def execAmoor (x : QF) (s : State) : Host.Outcome State Fault Refusal := atomic x s (fun o b _ => o ||| b) (amoSrcs x)
/-- AMOXOR. -/
def execAmoxor (x : QF) (s : State) : Host.Outcome State Fault Refusal := atomic x s (fun o b _ => o ^^^ b) (amoSrcs x)
/-- AMOMIN. -/
def execAmomin (x : QF) (s : State) : Host.Outcome State Fault Refusal :=
  atomic x s (fun o b _ => if o.slt b then o else b) (amoSrcs x)
/-- AMOMAX. -/
def execAmomax (x : QF) (s : State) : Host.Outcome State Fault Refusal :=
  atomic x s (fun o b _ => if o.slt b then b else o) (amoSrcs x)
/-- AMOMINU. -/
def execAmominu (x : QF) (s : State) : Host.Outcome State Fault Refusal :=
  atomic x s (fun o b _ => if o.ult b then o else b) (amoSrcs x)
/-- AMOMAXU. -/
def execAmomaxu (x : QF) (s : State) : Host.Outcome State Fault Refusal :=
  atomic x s (fun o b _ => if o.ult b then b else o) (amoSrcs x)
/-- AMOSWP. -/
def execAmoswp (x : QF) (s : State) : Host.Outcome State Fault Refusal := atomic x s (fun _ b _ => b) (amoSrcs x)
/-- AMOCAS: the compare value is s[d], read before it is overwritten. -/
def execAmocas (x : QF) (s : State) : Host.Outcome State Fault Refusal :=
  atomic x s (fun o b d => if o = d then b else o) [x.a, x.b, x.d]

/-- LDA: a load as an acquire (R244). -/
def execLda (x : QF) (s : State) : Host.Outcome State Fault Refusal :=
  run { reason := zeroQFBFrom1Scope5 x, srcs := [x.a], dsts := [x.d], irrev := true } s (fun got s =>
    (locateScoped s (srcVal s got x.a) wantRead false false x.sc.toNat).bind (fun l s1 =>
      let s2 := consumePoison (touchScalar s1 s1.cur l 8) l 8
      deliverLoad s2 (nearLoc s1 s1.cur l 8) l.key x.d (wordAt s1 l) 4))

/-- A vector instruction that stores elements, or sends packets to a commit unit (R298, R365). -/
def storesElements (code : BitVec 32) : Bool :=
  let op := (code.extractLsb' 1 6).toNat
  op == 0x1A || op == 0x1B || (op == 0x25 && decide (5 ≤ (code.extractLsb' 27 5).toNat))

/-- The slot has reductions or packets that have not performed, beside those that a fault holds (R260, R449). -/
def accessesOut (s : State) (k : Nat) : Bool :=
  s.reds.any (fun r => r.slot == k && !r.held) || s.clusters.any (fun c => c.2.packets.any (fun p => p.slot == k))

/-- The slot has vector accesses, reductions or packets that have not performed, beside those of a held frame (R260,
R298, R365). -/
def storesQueued (s : State) (k : Nat) : Bool :=
  (s.slot k).vq.any (fun e => match e.work with
    | .vector code => storesElements code
    | .arrive _ _ _ => true
    | .release _ => true
    | _ => false) || accessesOut s k

/-- The misses of a store that performs at once (R75). -/
def noteStore (s : State) (l : Loc) (n : Nat) : State := noteFill (noteMiss s s.cur l n) s.cur l n

/-- STL: a store as a release, which covers the slot's queued vector accesses and so waits for them (R244, R298, R299). -/
def execStl (x : QF) (s : State) : Host.Outcome State Fault Refusal :=
  run { reason := zeroQFDFrom1Scope5 x, srcs := [x.a, x.b], irrev := true } s (fun got s =>
    (locateScoped s (srcVal s got x.a) wantWrite true false x.sc.toNat).bind (fun l s1 =>
      if storesQueued s1 s1.cur then .wait .drain none
      else if l.kind ≤ 1 ∧ heldByProtected s1 s1.cur l.key 8 = true then .wait .protectedChunk none
      else if wordRefused s1 l (srcVal s got x.b) then .trap (ownCause s1.me 0x12 5) .none
      else .ok () (advance (performWord (noteStore s1 l 8) l (srcVal s got x.b)) 4)))

/-- REDADD: alignment and canonical form are checked at issue; the add performs after the commit (R245). -/
def execRedadd (x : QF) (s : State) : Host.Outcome State Fault Refusal :=
  run { reason := zeroQFDFrom1Scope5 x, srcs := [x.a, x.b] } s (fun got s =>
    let va := srcVal s got x.a
    if va.toNat % 8 ≠ 0 then .trap (accessCause va 0x13 1 0 true) .none
    else if canonical va = false then .trap (accessCause va 0x14 1 0 true) .none
    else if acquireQueued s.me then waitClosed s .drain none
    else .ok () (advance (defer s (.redadd va (srcVal s got x.b) x.sc.toNat)) 4))

end Sys2Proof.Machine
end

