-- ==== Sys2Proof/Machine/Barrier.lean ====
section
/-! DEFINITION. Machine/Barrier.lean: barrier words (R249, R250, R346, R347, R440). -/

namespace Sys2Proof.Machine

/-- A barrier word (R249). -/
structure BarWord where
  target : Nat
  arrivals : Nat
  gen : Nat
  targetBytes : Nat
  bytes : Nat
  /-- A reserved field is nonzero. -/
  bad : Bool
  deriving DecidableEq, Repr

/-- The barrier word at a window key. -/
def barRead (s : State) (key : Nat) : BarWord :=
  { target := s.le key 2, arrivals := s.le (key + 2) 2, gen := s.le (key + 4) 4
    targetBytes := s.le (key + 8) 7, bytes := s.le (key + 16) 7
    bad := decide (s.le (key + 15) 1 ≠ 0 ∨ s.le (key + 23) 1 ≠ 0 ∨ s.le (key + 24) 8 ≠ 0) }

/-- The advance rule, checked after every barrier update (R249, R347). -/
def barAdvance (w : BarWord) : BarWord :=
  if w.target ≤ w.arrivals ∧ w.targetBytes ≤ w.bytes then
    { w with gen := (w.gen + 1) % 2 ^ 32, arrivals := 0, bytes := 0, targetBytes := 0 }
  else w

/-- The 32 bytes of a barrier word whose reserved fields are zero. -/
def barBytes (w : BarWord) : List Byte :=
  toLe 2 w.target ++ toLe 2 w.arrivals ++ toLe 4 w.gen ++ toLe 8 w.targetBytes ++ toLe 8 w.bytes ++ toLe 8 0

/-- A barrier update performed by the owning core: the word after the advance rule is written. -/
def barWrite (s : State) (cluster key : Nat) (w : BarWord) : State :=
  elementWrite s cluster key 1 (barBytes (barAdvance w))

/-- The misuse of a word that an update would be (R440), reasons 2 to 4. -/
def barFault (w : BarWord) : Option Nat :=
  if w.bad = true then some 2
  else if 65535 < w.arrivals then some 3
  else if 2 ^ 56 - 1 < w.targetBytes ∨ 2 ^ 56 - 1 < w.bytes then some 4
  else none

/-- The address checks of the BAR instructions (R250): alignment, a window address that the process owns, core scope. -/
def barLocate (s : State) (va : Word) (sc : Nat) : R Nat :=
  if va.toNat % 32 ≠ 0 then .trap (accessCause va 0x13 7 0 false) .none
  else match (if inWindowRegion va then windowOff s.cur va else none) with
    | none => .trap ⟨0x1F, va, einfoOf 1 0 false 0⟩ .none
    | some o =>
      if (s.core (windowCore (clusterOf s.cur) o)).owner ≠ some s.me.asidN then
        .trap (accessCause va 0x16 5 0 false) .none
      else if sc = 1 ∧ windowCore (clusterOf s.cur) o ≠ coreOf s.cur then .trap ⟨0x06, va, 1⟩ .none
      else if acquireQueued s.me then waitClosed s .drain none
      else .ok (winKey (clusterOf s.cur) o) s

/-- An update of a barrier word by the issuing slot, checked against misuse before any effect (R440). -/
def barUpdate (s : State) (va : Word) (key : Nat) (f : BarWord → BarWord) : R Unit :=
  match barFault (f (barRead s key)) with
  | some r => .trap ⟨0x1F, va, einfoOf r 0 false 0⟩ .none
  | none =>
    if heldByProtected s s.cur key 32 then .wait .protectedChunk none
    else .ok () (advance (barWrite s (clusterOf s.cur) key (f (barRead s key))) 4)

/-- BARINIT. -/
def execBarinit (x : QF) (s : State) : Host.Outcome State Fault Refusal :=
  run { reason := zeroQFScD x, srcs := [x.a, x.b], irrev := true } s (fun got s =>
    let va := srcVal s got x.a
    let b := srcVal s got x.b
    (barLocate s va 0).bind (fun key s =>
      if b.toNat / 65536 ≠ 0 then .trap ⟨0x1F, va, einfoOf 2 0 false 0⟩ .none
      else barUpdate s va key (fun w => { w with target := b.toNat, arrivals := 0, targetBytes := 0, bytes := 0 })))

/-- An arrival with its bytes. -/
def barArrive (n : Nat) (w : BarWord) : BarWord := { w with arrivals := w.arrivals + 1, bytes := w.bytes + n }

/-- BARARR: a release; its count waits in the vector instruction queue behind the slot's element stores (R250). -/
def execBararr (x : QF) (s : State) : Host.Outcome State Fault Refusal :=
  run { reason := zeroQFDFrom1Scope5 x, srcs := [x.a, x.b], irrev := true } s (fun got s =>
    let va := srcVal s got x.a
    let b := srcVal s got x.b
    (barLocate s va x.sc.toNat).bind (fun key s =>
      if storesQueued s s.cur then
        if 32 ≤ s.me.vq.length then .wait .drain none
        else .ok () (advance (s.onMe (fun y =>
          y.enqueue s.cycle ⟨.arrive va b x.sc.toNat, y.regs.pc, [], 0, [], 0, none, [], []⟩)) 4)
      else barUpdate s va key (barArrive b.toNat)))

/-- BAREXP. -/
def execBarexp (x : QF) (s : State) : Host.Outcome State Fault Refusal :=
  run { reason := zeroQFScD x, srcs := [x.a, x.b], irrev := true } s (fun got s =>
    let va := srcVal s got x.a
    (barLocate s va 0).bind (fun key s =>
      barUpdate s va key (fun w => { w with targetBytes := w.targetBytes + (srcVal s got x.b).toNat })))

/-- The slot's own arrival on a word is still to be counted (R250). -/
def arrivalQueued (s : State) (key : Nat) : Bool :=
  s.me.vq.any (fun e => match e.work with
    | .arrive va _ _ => decide ((windowOff s.cur va).map (winKey (clusterOf s.cur)) = some key)
    | _ => false)

/-- BARWT: waits out of the rotation while the generation equals s[b][31:0] (R249, R349). -/
def execBarwt (x : QF) (s : State) : Host.Outcome State Fault Refusal :=
  run { reason := zeroQFFrom1Scope5 x, srcs := [x.a, x.b], dsts := [x.d], irrev := true } s (fun got s =>
    let va := srcVal s got x.a
    (barLocate s va x.sc.toNat).bind (fun key s =>
      let w := barRead s key
      if w.bad then .trap ⟨0x1F, va, einfoOf 2 0 false 0⟩ .none
      else if arrivalQueued s key then .wait .drain none
      else if w.gen = (srcVal s got x.b).toNat % 2 ^ 32 then .wait (.barrier key (word w.gen)) none
      else writeAdvance s x.d (word w.gen) 4))

/-- BARTST. -/
def execBartst (x : QF) (s : State) : Host.Outcome State Fault Refusal :=
  run { reason := zeroQFBFrom1Scope5 x, srcs := [x.a], dsts := [x.d], irrev := true } s (fun got s =>
    let va := srcVal s got x.a
    (barLocate s va x.sc.toNat).bind (fun key s =>
      let w := barRead s key
      if w.bad then .trap ⟨0x1F, va, einfoOf 2 0 false 0⟩ .none
      else writeAdvance s x.d (word (w.arrivals * 2 ^ 32 + w.gen)) 4))

/-- A credit of an engine or an arrival of a TRSLV on a word (R346, R440): never trapped; a misuse is recorded, and
saturates or is not applied. -/
def barCredit (s : State) (key arrivals bytes : Nat) (addr : Word) (asid kind unit : Nat) : State :=
  let cluster := (key - 2 ^ 52) / 2 ^ 26
  let w := barRead s key
  let note (s : State) (r : Nat) : State := eventRecord s asid 0x1F r addr 4 kind unit .none
  if w.bad then note s 2 else
  let s1 := if 65535 < w.arrivals + arrivals then note s 3 else s
  let s2 := if 2 ^ 56 - 1 < w.bytes + bytes then note s1 4 else s1
  barWrite s2 cluster key
    { w with arrivals := min 65535 (w.arrivals + arrivals), bytes := min (2 ^ 56 - 1) (w.bytes + bytes) }

end Sys2Proof.Machine
end

