-- ==== Sys2Proof/Machine/Agent.lean ====
section
/-! DEFINITION. Machine/Agent.lean: accesses that a unit makes under a process's tables, in the mode of the thread it works for (R238, R268, R273,
R353, R500). -/

namespace Sys2Proof.Machine

/-- The accesses of `n` bytes at an address: one for each page crossed. -/
def pagePieces (va : Word) : Nat → Nat → List (Word × Nat)
  | 0, _ => []
  | fuel + 1, n =>
    if n = 0 then [] else
    let k := min n (4096 - va.toNat % 4096)
    (va, k) :: pagePieces (va + word k) fuel (n - k)

/-- The pieces of a unit's access located one after the other, or the first cause. -/
def unitLocate (s : State) (cluster asid : Nat) (ptbase : Word) (w : Want) :
    List (Word × Nat) → List (Loc × Nat) → State × (List (Loc × Nat) ⊕ Cause)
  | [], got => (s, .inl got)
  | (va, n) :: rest, got =>
    match resolve s (cluster * 3072) asid ptbase va { w with unit := true } with
    | (s1, .bad c r l) => (s1, .inr ⟨c, va, einfoOf r l (wrOf c r w.write) 0⟩)
    | (s1, .ok loc) => unitLocate s1 cluster asid ptbase w rest (got ++ [(loc, n)])

/-- `n` bytes read by a unit of a cluster, or the first cause with its address. -/
def unitRead (s : State) (cluster asid : Nat) (ptbase va : Word) (user : Bool) (n : Nat) : State × (List Byte ⊕ Cause) :=
  match unitLocate s cluster asid ptbase { wantRead with user := user } (pagePieces va (n + 1) n) [] with
  | (s1, .inr c) => (s1, .inr c)
  | (s1, .inl ls) =>
    (ls.foldl (fun s e => poisoned s asid e.1 e.2) s1,
      .inl (ls.flatMap (fun e => agentRead s1 e.1.key e.1.kind e.2 e.1.disc)))

/-- Bytes written by a unit at locations that were found before. -/
def unitPut (s : State) (ls : List (Loc × Nat)) (bs : List Byte) : State :=
  (ls.foldl (fun (a : State × List Byte) e => (agentWrite a.1 e.1.key e.1.kind (a.2.take e.2), a.2.drop e.2)) (s, bs)).1

/-- Bytes written by a unit, all or none: the first cause stops the write before any byte. -/
def unitWrite (s : State) (cluster asid : Nat) (ptbase va : Word) (user : Bool) (bs : List Byte) : State × Option Cause :=
  match unitLocate s cluster asid ptbase { wantWrite with user := user } (pagePieces va (bs.length + 1) bs.length) [] with
  | (s1, .inr c) => (s1, some c)
  | (s1, .inl ls) => (unitPut s1 ls bs, none)

end Sys2Proof.Machine
end

