-- ==== Sys2Proof/Machine/Thread.lean ====
section
/-! DEFINITION. Machine/Thread.lean: what a thread's end, departure and freeing of its slot do (R35, R52, R67, R68, R243,
R380, R476). -/

namespace Sys2Proof.Machine

/-! Leases (R377, R379, R380). -/

/-- The boost ceiling of a lease. -/
def leaseLvl (w : Word) : Nat := fieldOf w 34 32
/-- The remaining time of a lease in microseconds. -/
def leaseTime (w : Word) : Nat := fieldOf w 23 0
/-- What a lease draws from the pool: a lease at level 7 draws twice its time. -/
def leaseUnits (w : Word) : Nat := if leaseLvl w = 7 then 2 * leaseTime w else leaseTime w
/-- The most the boost pool of a partition holds (R382). -/
def poolMax : Nat := 46080000
/-- Core-microseconds returned to the boost pool of a slot's partition. -/
def creditPool (s : State) (k n : Nat) : State :=
  let p := partOf s (clusterOf k)
  { s with pool := wr 0 s.pool p (min poolMax (rd 0 s.pool p + n)) }

/-! Contexts of a core (R67, R68). -/

/-- The slots of a core. -/
def slotsOf (core : Nat) : List Nat := upFrom (core * 16) 16
/-- A slot holds a full thread or a reserved segment. -/
def holdsContext (x : Slot) : Bool := decide (x.res = .full ∨ x.res = .segment)
/-- The contexts that a core holds. -/
def contextsOf (s : State) (core : Nat) : List Nat := (slotsOf core).filter (fun k => holdsContext (s.slot k))
/-- A core whose last context has left holds no split (R67); a retired core has no lane once no thread remains (R499). -/
def settleCore (s : State) (core : Nat) : State :=
  let s1 := if contextsOf s core = [] then s.onCore core (fun c => { c with split := none }) else s
  if (s.core core).retired = true ∧ (s.core core).runq = [] ∧
      (slotsOf core).all (fun k => decide ((s.slot k).res = .empty)) = true then
    s1.onCore core (fun c => { c with lanemap := 0 })
  else s1
/-- A slot becomes empty, and its core settles. -/
def clearSlot (s : State) (k : Nat) : State := settleCore (s.putSlot k .empty) (coreOf k)

/-- The matrix owner leaves its core: no context owns its matrix state (R68). -/
def dropOwner (s : State) (k : Nat) : State :=
  if (s.slot k).res = .full ∧ (s.core (coreOf k)).mown = (s.slot k).vec.ctx then
    s.onCore (coreOf k) (fun c => { c with mown := 0xFF })
  else s

/-- Reserved places of what the slot still holds go back. -/
def dropReserved (s : State) (k : Nat) : State :=
  let x := s.slot k
  let s1 := x.chunk.deferred.foldl (discardDeferred (clusterOf k)) (dropRequests s k)
  let s2 := (x.vq ++ x.held).foldl (fun s e => match e.work with
    | .release r => unrelease (clusterOf k) s r
    | _ => e.pushes.foldl (fun s q => unreserve s (clusterOf k) q) s) s1
  discardLows s2 x.ports []

/-- The slot is freed: its segments, its context, the matrix state it owned, its bindings. A faulted reduction of its thread is
found again, without a slot (R456). -/
def vacate (s : State) (k : Nat) : State :=
  let segs := (s.slot k).vec.segs
  let s1 := dropOwner (dropReserved (resumeReds s k) k) k
  segs.foldl clearSlot (clearSlot s1 k)

/-- A thread of a launch has ended (R35); the end of one that runs for a peer is to be reported there (R327). -/
def launchEnds (s : State) (n : Nat) : State :=
  s.onLaunch n (fun l => { l with left := l.left - 1, ended := if l.remote.isSome then l.ended + 1 else l.ended })

/-- The result record of a translation request: status, failing index, bytes written (R406, R476). -/
def translationResult (s : State) (asid : Nat) (ptbase arg : Word) (status idx len : Nat) : State :=
  match ctrAddr s ptbase (arg + 40) with
  | some pa => outsideWrite s pa (toLe 8 (status + idx * 65536 + len * 2 ^ 32))
  | none => eventRecord s asid 0x14 2 (arg + 40) 4 4 0 .none

/-- A translator thread that ends without a result has status 7 written for it; a translation that it was making leaves the
cache, and every request that waits for it receives status 7 (R476). -/
def translatorEnds (s : State) (k : Nat) : State :=
  let x := s.slot k
  match s.launch x.task.launch with
  | some l =>
    if l.isTranslation then
      let s1 := translationResult s x.asidN x.sys.ptbase l.arg 7 0 0
      let mine (t : Translation) : Bool := t.out.isNone && t.asid == x.asidN && t.maker.1 == k && t.maker.2.1 == l.arg
      let s2 := (s1.translations.filter mine).foldl (fun s t => t.waiting.foldl (fun s w =>
        launchEnds (vacate (translationResult s t.asid x.sys.ptbase w.2.1 7 0 0) w.1) (s.slot w.1).task.launch) s) s1
      { s2 with translations := (s2.translations.filter (fun t => !mine t)).map (fun t =>
          { t with waiting := t.waiting.filter (fun w => !(w.1 == k && w.2.1 == l.arg)) }) }
    else s
  | none => s

/-- The thread of a slot ends (R35, R243): the slot is freed and its launch counts it. -/
def endThread (s : State) (k : Nat) : State :=
  let n := (s.slot k).task.launch
  launchEnds (vacate (translatorEnds s k) k) n

/-- A pre-emption is requested of a slot, with the einfo of its trap; a halted slot returns to the rotation (R256,
R331). -/
def askPreempt (s : State) (k i : Nat) : State :=
  s.onSlot k (fun x => { x with preempt := some i, wait := if x.wait = .halt then .none else x.wait })

/-! Migration (R50 to R54). -/

/-- The packet that a light thread leaves its slot as (R52), with the vector work that a trap set aside. -/
def packetOf (x : Slot) (k : Nat) : Packet :=
  { pc := x.regs.pc, regs := (upFrom 0 10).map (fun i => rd 0 x.regs.s i), p := x.regs.p, mig := x.mig
    preempt := x.preempt.isSome, cdst := x.regs.cdst, origin := k, sys := x.sys, task := x.task, held := x.held, fresh := false }

/-- The run queue of a core has room for one more packet (R53). -/
def runRoom (s : State) (core : Nat) : Bool := decide ((s.core core).runq.length + (s.core core).runResv < 64)

/-- A departure: the packet joins the tail of the target's run queue and the slot is free (R53, R75). -/
def depart (s : State) (k core : Nat) : State :=
  let p := packetOf (countEvent (s.slot k) 18 1) k
  clearSlot (s.onCore core (fun c => { c with runq := c.runq ++ [p] })) k

/-- A cluster is ready: it takes work (R390). -/
def clusterReadyBit (s : State) (c : Nat) : Bool := s.rdy.getLsbD c

end Sys2Proof.Machine
end

