-- ==== Sys2Proof/Machine/Fetch.lean ====
section
/-! DEFINITION. Machine/Fetch.lean: the instruction cache of a core and the fetch of halfwords (R79, R80, R444, R462,
R463). -/

namespace Sys2Proof.Machine

/-- The bytes of a 64-byte line as a fill of a core of the cluster reads them, without changing any sector state (R283,
R284, R462). -/
def fillBytes (s : State) (cluster line : Nat) : List Byte :=
  (upFrom (64 * line) 64).map (fun a => sectorByte (s.cluster cluster).l1u a (homeByte s a))

/-- A cache of sets with one line added: where the set has no way left, its least recently used line goes. -/
def cacheInsert (cache : List CacheLine) (ways : Nat) (c : CacheLine) : List CacheLine :=
  let rest := cache.filter (fun d => !(d.line == c.line && d.set == c.set))
  let mine := rest.filter (fun d => d.set == c.set)
  let out := mine.take (mine.length + 1 - max 1 ways)
  rest.filter (fun d => !out.contains d) ++ [c]

/-- The line that was used becomes the most recent one. -/
def cacheTouch (cache : List CacheLine) (c : CacheLine) : List CacheLine :=
  cache.filter (fun d => !(d.line == c.line && d.set == c.set)) ++ [c]

/-- What the fetch of a halfword comes to: the halfword, a cause 0x15 with reason and level, or a line to wait for. -/
inductive Fetched (α : Type) where
  | got (a : α)
  | bad (reason level : Nat) (addr : Word)
  | miss (set line : Nat)
  deriving DecidableEq, Repr

/-- The halfword at a physical address in the instruction cache of a core, in the set of its virtual address, or a miss. -/
def lineHalf (s : State) (core : Nat) (va : Word) (pa : Nat) : State × Fetched (BitVec 16) :=
  let set := (va.toNat / 64) % 128
  match (s.core core).icache.find? (fun c => c.set == set && c.line == pa / 64) with
  | some c => (s.onCore core (fun y => { y with icache := cacheTouch y.icache c }),
      .got (halfOf (c.bytes.getD (pa % 64) 0) (c.bytes.getD (pa % 64 + 1) 0)))
  | none => (s, .miss set (pa / 64))

/-- The fetch of slot `k` enters a line: its address is translated and checked (R444, R463). A discarded page reads zeros (R286);
the device register range is read at the hub, and memory that the device does not cache where it lies (R272, R281, R288); of
no such line does the slot keep the place. -/
def enterLine (s : State) (k : Nat) (va : Word) : State × Fetched (BitVec 16) :=
  let x := s.slot k
  let s := awaitWalk s x.sys.ptbase va
  match translate s x.sys.ptbase va (assisted s (clusterOf k) 0) { wantFetch with user := !x.spv } with
  | .bad _ r l => (noteFailedWalk s k (coreOf k) x.asidN x.sys.ptbase va r, .bad r l va)
  | .ok l =>
    let s1 := noteTranslation (markLeaf s k (clusterOf k) l false) k (coreOf k) x.asidN va l
    if bit l.pte 6 then (s1, .got 0)
    else if inDevice l.pa then (s1, .got (BitVec.ofNat 16 (ofLe (devRead s1 l.pa 2))))
    else if kindOf s1 l = 3 then
      let s2 := if lostPlace s1 l.pa then faultOf s1 x.asidN l.pa else poisoned s1 x.asidN ⟨l.pa, 3, false, bit l.pte 5⟩ 2
      (noteSettle s2 k l, .got (BitVec.ofNat 16 (s1.le l.pa 2)))
    else lineHalf (s1.onSlot k (fun y => { y with fetchLine := some (va.toNat / 64, l.pa / 64) })) (coreOf k) va l.pa

/-- The halfword at an address for slot `k` (R444, R463). -/
def fetchHalf (s : State) (k : Nat) (va : Word) : State × Fetched (BitVec 16) :=
  if canonical va = false then (s, .bad 1 0 va)
  else if inWindowRegion va = true then (s, .bad (if (windowOff k va).isSome then 9 else 8) 0 va)
  else match (s.slot k).fetchLine with
    | some (v, p) => if v = va.toNat / 64 then lineHalf s (coreOf k) va (p * 64 + va.toNat % 64) else enterLine s k va
    | none => enterLine s k va

/-- The 32-bit words at an address, one halfword after the other (R96). A compact instruction ends them, as a word of
zeros above its halfword: nothing behind it has a place in a frame (R94). -/
def fetchWords (s : State) (k : Nat) (va : Word) : Nat → List (BitVec 32) → State × Fetched (List (BitVec 32))
  | 0, got => (s, .got got)
  | n + 1, got =>
    match fetchHalf s k va with
    | (s1, .bad r l a) => (s1, .bad r l a)
    | (s1, .miss set line) => (s1, .miss set line)
    | (s1, .got lo) =>
      if isLong lo = false then (s1, .got (got ++ [(0 : BitVec 16) ++ lo])) else
      match fetchHalf s1 k (va + 2) with
      | (s2, .bad r l a) => (s2, .bad r l a)
      | (s2, .miss set line) => (s2, .miss set line)
      | (s2, .got hi) => fetchWords s2 k (va + 4) n (got ++ [hi ++ lo])

/-- A line of the instruction cache of a core is there, or on its way (R463, R464). -/
def lineKnown (c : CoreSt) (set line : Nat) : Bool :=
  c.fills.contains (set, line) || c.icache.any (fun d => d.set == set && d.line == line)

/-- A fill of a line is asked for unless the line is there or on its way (R463, R464). -/
def askFill (s : State) (core set line : Nat) : State :=
  if lineKnown (s.core core) set line then s
  else s.onCore core (fun c => { c with fills := c.fills ++ [(set, line)] })

/-- A demand fetch that misses: the slot waits for the line, whose fill starts unless it is in flight (R463). -/
def missFetch (s : State) (k set line : Nat) : State :=
  let s1 := if (s.core (coreOf k)).fills.contains (set, line) then s else s.count k 7
  (askFill s1 (coreOf k) set line).onSlot k (fun x => { x with wait := .ifetch set line })

/-- A fetch fault (R80, R444): precise, with epc the instruction and eaddr the halfword. -/
def fetchTrap (s : State) (r l : Nat) (addr : Word) : State :=
  raise s ⟨0x15, addr, einfoOf r l false 0⟩ s.me.regs.pc

/-- Ways of set `set` of the instruction cache that are not retired (R462, R498). -/
def icacheWays (c : CoreSt) (set : Nat) : Nat := 4 - rd 0 c.ways set

/-- The byte of a line that a fill cannot bring whole: a poisoned one, or one that no route leads to (R427, R482, R483). -/
def badLine (s : State) (line : Nat) : Option Nat :=
  match badByte s (64 * line) 64 with
  | some a => some a
  | none => if routeLost s (64 * line) then some (64 * line) else none

/-- The oldest fill in flight arrives, and the fetches that wait for it resume (R462, R463). A line that does not arrive whole
stays out, and is a device fault of the processes whose fetches wait for it (R428). -/
def performFill (s : State) (core : Nat) : State :=
  match (s.core core).fills with
  | [] => s
  | (set, line) :: rest =>
    let waits (k : Nat) (x : Slot) : Bool := decide (coreOf k = core ∧ x.wait = .ifetch set line)
    let s1 := match badLine s line with
      | none => s.onCore core (fun c => { c with
          fills := rest, icache := cacheInsert c.icache (icacheWays c set) ⟨set, line, fillBytes s (core / 192) line⟩ })
      | some a => (distinct ((s.slots.filter (fun e => waits e.1 e.2)).map (fun e => e.2.asidN))).foldl
          (fun s p => faultOf s p a) (s.onCore core (fun c => { c with fills := rest }))
    wakeWhere s1 waits

end Sys2Proof.Machine
end

