-- ==== Sys2Proof/Machine/Special.lean ====
section
/-! DEFINITION. Machine/Special.lean: the special functions (R180). The part's result is a fixed function within a stated
bound, which the spec leaves open: the model takes the constant `Config.special` where it lies within the bound of the
exact value, and a rounding of the exact value where it does not. The exact value is computed to 128 fraction bits. -/

namespace Sys2Proof.Machine

/-- One in the fixed-point form used here. -/
def fxOne : Nat := 2 ^ 128
/-- ln 2 to 128 fraction bits. -/
def fxLn2 : Nat := 0xB17217F7D1CF79ABC9E3B39803F2F6AF
/-- π to 128 fraction bits. -/
def fxPi : Nat := 0x3243F6A8885A308D313198A2E03707344
/-- The fixed-point product. -/
def fxMul (a b : Nat) : Nat := a * b / fxOne

/-- The exponential series: the sum of z^i / i! from the term `t` of index `i` on, `n` terms. -/
def fxExp (z : Nat) : Nat → Nat → Nat → Nat
  | 0, _, _ => 0
  | n + 1, i, t => t + fxExp z n (i + 1) (fxMul t z / (i + 1))

/-- The sum of w^i / (2 i + 1) from the power `t` of index `i` on, `n` terms. -/
def fxAtanh (w : Nat) : Nat → Nat → Nat → Nat
  | 0, _, _ => 0
  | n + 1, i, t => t / (2 * i + 1) + fxAtanh w n (i + 1) (fxMul t w)

/-- The alternating series whose term of index `i` is `t` and whose next divides by (i + 1)(i + 2): the sine from z with
index 1, the cosine from one with index 0. -/
def fxAlt (w : Nat) : Nat → Nat → Nat → Int
  | 0, _, _ => 0
  | n + 1, i, t => (t : Int) - fxAlt w n (i + 2) (fxMul t w / ((i + 1) * (i + 2)))

/-- A number's fixed-point form, its fraction cut off below 2^-128. -/
def fxOf (m : Nat) (e : Int) : Nat := if 0 ≤ e + 128 then m <<< (e + 128).toNat else m >>> (-(e + 128)).toNat

/-- sin(π r) for r from 0 to 1/2, in fixed point. -/
def fxSinHalf (r : Nat) : Nat := (let z := fxMul r fxPi; fxAlt (fxMul z z) 24 1 z).toNat
/-- cos(π r) for r from 0 to 1/2, in fixed point. -/
def fxCosHalf (r : Nat) : Nat := (let z := fxMul r fxPi; fxAlt (fxMul z z) 24 0 fxOne).toNat

/-- sin(π r) with its sign, for r from 0 up to 2. -/
def sinOf (r : Nat) : FVal :=
  let neg := decide (fxOne ≤ r)
  let q := r % fxOne
  .num neg (fxSinHalf (min q (fxOne - q))) (-128)
/-- cos(π r) with its sign, for r from 0 up to 2. -/
def cosOf (r : Nat) : FVal :=
  let q := min r (2 * fxOne - r)
  if q ≤ fxOne / 2 then .num false (fxCosHalf q) (-128) else .num true (fxCosHalf (fxOne - q)) (-128)

/-- log2 of a positive number. -/
def logOf (m : Nat) (e : Int) : FVal :=
  let k := Nat.log2 m
  let u := (m <<< 128) / 2 ^ k
  let w := ((u - fxOne) <<< 128) / (u + fxOne)
  let frac := ((2 * fxAtanh (fxMul w w) 60 0 w) <<< 128) / fxLn2
  let v : Int := ((k : Int) + e) * fxOne + frac
  .num (decide (v < 0)) v.natAbs (-128)

/-- 2^x of a number whose magnitude is below 256. -/
def expOf (neg : Bool) (m : Nat) (e : Int) : FVal :=
  let x := fxOf m e
  let whole : Int := if neg then -((x + fxOne - 1) / fxOne : Nat) else (x / fxOne : Nat)
  let frac := if neg then ((x + fxOne - 1) / fxOne) * fxOne - x else x % fxOne
  .num false (fxExp (fxMul frac fxLn2) 48 0 fxOne) (whole - 128)

/-- What a special function gives: a value written as it is, an overflow with its sign, or an approximation with the
exponent of its absolute bound (none: so many units in the last place of FP32). -/
inductive Special where
  | exact (v : FVal)
  | tooBig (neg : Bool)
  | near (v : FVal) (abs : Option Int) (ulps : Nat)
  deriving DecidableEq, Repr

/-- The number is a power of two. -/
def isPow2 (m : Nat) : Bool := decide (2 ^ Nat.log2 m = m)
/-- A power of two as a value. -/
def pow2V (neg : Bool) (e : Int) : FVal := .num neg 1 e
/-- A number reduced to an odd significand is twice a half integer, an integer, or neither: its value times two, when
that is whole. -/
def halves (m : Nat) (e : Int) : Option Nat :=
  if 0 ≤ e + 1 then some (m <<< (e + 1).toNat)
  else if m % 2 ^ (-(e + 1)).toNat = 0 then some (m >>> (-(e + 1)).toNat) else none

/-- The function by its code in VFP2 (R87, R180) at a value. -/
def specialOf (fn : Nat) (v : FVal) : Special :=
  match fn, v with
  | _, .nan => .exact .nan
  | 0, .inf x => .exact (.num x 0 0)
  | 0, .num x m e =>
    if m = 0 then .exact (.inf x)
    else if isPow2 m then .exact (pow2V x (-(Nat.log2 m : Int) - e))
    else .near (.num x (2 ^ 200 / m) (-200 - e)) none 1
  | 1, .inf x => .exact (if x then .nan else .num false 0 0)
  | 1, .num x m e =>
    if m = 0 then .exact (.inf x)
    else if x then .exact .nan
    else
      let k := (Nat.log2 m : Int) + e
      if isPow2 m ∧ k % 2 = 0 then .exact (pow2V false (-k / 2))
      else
        let odd := (e % 2).toNat
        .near (.num false (isqrt 130 (2 ^ 260 / (m <<< odd))) (-130 - (e - odd) / 2)) none 1
  | 2, .inf x => .exact (if x then .num false 0 0 else .inf false)
  | 2, .num x m e =>
    if m = 0 then .exact (pow2V false 0)
    else
      let big := decide (8 ≤ (Nat.log2 m : Int) + e)
      if big ∧ x = true then .near (pow2V false (-200)) none 2
      else if big then .tooBig false
      else match halves m e with
        | some h =>
          if h % 2 = 0 then
            (if x then (if 149 < h / 2 then .near (pow2V false (-(h / 2 : Nat))) none 2 else .exact (pow2V false (-(h / 2 : Nat))))
             else if 127 < h / 2 then .tooBig false else .exact (pow2V false (h / 2 : Nat)))
          else if x = false ∧ 256 ≤ h then .tooBig false else .near (expOf x m e) none 2
        | none => if x = false ∧ fxOne * 128 ≤ fxOf m e then .tooBig false else .near (expOf x m e) none 2
  | 3, .inf x => .exact (if x then .nan else .inf false)
  | 3, .num x m e =>
    if m = 0 then .exact (.inf true)
    else if x then .exact .nan
    else if isPow2 m then .exact (ofIntV ((Nat.log2 m : Int) + e))
    else
      let k := (Nat.log2 m : Int) + e
      if k = -1 ∨ k = 0 then .near (logOf m e) (some (-22)) 0 else .near (logOf m e) none 2
  | _, .inf _ => .exact .nan
  | n, .num x m e =>
    match halves m e with
    | some h =>
      if n = 4 then
        (if h % 2 = 0 then .exact (.num false 0 0)
         else .exact (pow2V (x != decide (h % 4 = 3)) 0))
      else (if h % 2 = 1 then .exact (.num false 0 0) else .exact (pow2V (decide (h % 4 = 2)) 0))
    | none =>
      let r := fxOf m e % (2 * fxOne)
      if n = 4 then .near (if x then negV (sinOf r) else sinOf r) (some (-22)) 0
      else .near (cosOf r) (some (-22)) 0

/-- The unit in the last place of FP32 at a value, as an exponent of two. -/
def ulp32 : FVal → Int
  | .num _ m e => max (-149) ((Nat.log2 m : Int) + e - 23)
  | _ => -149

/-- A candidate lies within the bound of the value. -/
def within (c v : FVal) (abs : Option Int) (ulps : Nat) : Bool :=
  match c, v with
  | .num x m e, .num y n k =>
    let b := match abs with
      | some a => a
      | none => ulp32 v
    let q := min (min e k) b
    decide ((scaledTo x m e q - scaledTo y n k q).natAbs ≤ (if abs.isSome then 1 else ulps) <<< (b - q).toNat)
  | _, _ => false

/-- The FP32 value of a special function at an operand given as FP32: the part's own within the bound. -/
def specialV (fn x32 : Nat) (v : FVal) (abs : Option Int) (ulps : Nat) : FVal :=
  let c := decodeF 0 (Config.special fn 0 x32 % 2 ^ 32)
  if within c v abs ulps then c else decodeF 0 (round32 Gov.default v)

/-- A special function of an element of format `c` (R180): the FP32 result rounded to the format. -/
def specialF (g : Gov) (fn c x : Nat) : Nat :=
  let v := readF g c x
  match specialOf fn v with
  | .exact y => writeF g c y
  | .tooBig neg => overflowF g c neg
  | .near y abs ulps =>
    let z := specialV fn (round32 Gov.default v) y abs ulps
    match z with
    | .inf neg => overflowF g c neg
    | z => writeF g c z

end Sys2Proof.Machine
end

