-- ==== Sys2Proof/Machine/Control.lean ====
section
/-! DEFINITION. Machine/Control.lean: branches, calls and jumps (R83, R142). -/

namespace Sys2Proof.Machine

/-- A PC-relative target: pc + 2 × sext(offset) (R83). -/
def targetOf {n : Nat} (pc : Word) (off : BitVec n) : Word := pc + (sext64 off <<< 1)

/-- The pc of the issuing slot set. -/
def jumpTo (s : State) (t : Word) : State := s.onMe (fun x => { x with regs := { x.regs with pc := t } })

/-- A predicated branch: taken when bit p has the value `v`; the pc moves by `n` otherwise (R142). -/
def branchIf (s : State) (p : Reg) (v : Bool) (target : Word) (n : Nat) : State :=
  if s.me.regs.getP p = v then jumpTo s target else advance s n

/-- BR. -/
def execBr (x : JF) (s : State) : Host.Outcome State Fault Refusal :=
  run {} s (fun _ s => .ok () (jumpTo s (targetOf s.me.regs.pc x.off)))
/-- CALL: s30 := pc + 4, then the target. -/
def execCall (x : JF) (s : State) : Host.Outcome State Fault Refusal :=
  run { dsts := [30] } s (fun _ s =>
    (writeDst s 30 (s.me.regs.pc + 4)).bind (fun _ t => .ok () (jumpTo t (targetOf s.me.regs.pc x.off))))
/-- BP. -/
def execBp (x : BF) (s : State) : Host.Outcome State Fault Refusal :=
  run {} s (fun _ s => .ok () (branchIf s x.p true (targetOf s.me.regs.pc x.off) 4))
/-- BPN. -/
def execBpn (x : BF) (s : State) : Host.Outcome State Fault Refusal :=
  run {} s (fun _ s => .ok () (branchIf s x.p false (targetOf s.me.regs.pc x.off) 4))

/-- The cause of a jump to an odd target, with eaddr the target (R80, R437 reason 2). -/
def oddTarget {α : Type} (t : Word) : R α := .trap ⟨0x13, t, einfoOf 2 0 false 0⟩ .none

/-- JR. -/
def execJr (x : TF) (s : State) : Host.Outcome State Fault Refusal :=
  run { reason := zeroTFBD x, srcs := [x.a] } s (fun got s =>
    let t := srcVal s got x.a
    if t.getLsbD 0 then oddTarget t else .ok () (jumpTo s t))
/-- CALLR: the target is read before the link is written. -/
def execCallr (x : TF) (s : State) : Host.Outcome State Fault Refusal :=
  run { reason := zeroTFB x, srcs := [x.a], dsts := [x.d] } s (fun got s =>
    let t := srcVal s got x.a
    if t.getLsbD 0 then oddTarget t
    else (writeDst s x.d (s.me.regs.pc + 4)).bind (fun _ s => .ok () (jumpTo s t)))

end Sys2Proof.Machine
end

