-- ==== Sys2Proof/Machine/VecIssue.lean ====
section
/-! DEFINITION. Machine/VecIssue.lean: the issue of a vector, matrix or graphics instruction (R44 to R47, R64, R65): its
checks, the scalar values it captures, the place its result will take, and its entry among the chunk's deferred
effects. -/

namespace Sys2Proof.Machine

/-- The place where a scalar result of the vector unit will go: a register, or a push reserved now (R45, R66, R231). -/
def reserveDst (s : State) (d : Reg) : R Dst :=
  match boundPort s.me d with
  | none => .ok (.reg d) s
  | some p => match s.me.port p with
    | none => portMisuse s
    | some q =>
      if q.stale then staleTrap s p q
      else match q.kind with
      | 1 => awaitResident s q.base (fun s =>
          match s.queue q.base with
          | some qs => (takeCapacity s qs.ctr q.asid qs.ctrVa).bind (fun _ s => .ok (.push d (.data q.base qs.ctr)) s)
          | none => portMisuse s)
      | 2 =>
        let c := coreOf s.cur
        let sq := rd ScalarQ.empty (s.core c).sq q.base
        reserve s 1 q.base (decide (sq.elems.length + sq.resv < 8))
          (.ok (.push d (.scalarQ c q.base q.handle))
            (s.onCore c (fun y => { y with sq := wr .empty y.sq q.base { sq with resv := sq.resv + 1 } })))
      | 4 =>
        if q.low.isSome then .ok (.push d (.command q.base p false)) s
        else reserve s 2 q.base (decide ((s.engine q.base).cmds.length + (s.engine q.base).resv < 64))
          (.ok (.push d (.command q.base p true)) (s.onEngine q.base (fun e => { e with resv := e.resv + 1 })))
      | _ => portMisuse s

/-- The places of several results, one after the other. -/
def reserveDsts (s : State) : List Reg → List Dst → R (List Dst)
  | [], got => .ok got s
  | d :: ds, got =>
    match reserveDst s d with
    | .ok p s1 => reserveDsts s1 ds (got ++ [p])
    | .trap c x => .trap c x
    | .wait w a => .wait w a
    | .close => .close
    | .undone t => .undone t

/-- An entry that takes a place of the vector instruction queue (R44). -/
def takesPlace (e : QEntry) : Bool :=
  match e.work with
  | .vector _ => true
  | .grant _ _ _ _ => true
  | _ => false

/-- Vector instructions of the open chunk (R47). -/
def chunkVecs (x : Slot) : List QEntry :=
  x.chunk.deferred.filterMap (fun d => match d with | .vec e => some e | _ => none)

/-- The queue has a place for one more instruction beside those of the open chunk (R42, R47). -/
def vecRoom (x : Slot) : Bool :=
  decide (((chunkVecs x).filter takesPlace).length + (x.vq.filter takesPlace).length < 32)

/-- The fields of a vector instruction that its issue reads: the reason its fields give, its code, its format register,
its scalar sources, its scalar destinations, the vector register it writes through vd, and what it captures beside the
values of its sources. -/
structure VecForm where
  reason : Option Nat
  code : BitVec 32
  fmt : Option (BitVec 2) := none
  srcs : List Reg := []
  dst : List Reg := []
  cvd : Option Reg := none
  len : Nat := 4
  vec : Bool := true
  mat : Nat := 0
  extra : List Word := []

/-- The scalar register that a format field names (R65). -/
def fmtReg (f : BitVec 2) : Reg := BitVec.ofNat 5 (20 + f.toNat)

/-- An entry joins the chunk: its result's place, cdst and cvdst at issue, the next pc (R64). -/
def enqueueVec (s : State) (e : QEntry) (dst : List Reg) (cvd : Option Reg) (n : Nat) : R Unit :=
  (reserveDsts s dst []).bind (fun p s =>
    .ok () (defer (s.onMe (fun x => { x with regs := { x.regs.skip n with
      cdst := dst.getLast?.getD x.regs.cdst, cvdst := cvd.getD x.regs.cvdst } })) (.vec { e with dst := p })))

/-- The checks that precede a vector instruction (R89). -/
def VecForm.form (v : VecForm) : Form :=
  { reason := v.reason, srcs := v.srcs ++ v.fmt.toList.map fmtReg, dsts := v.dst, full := true, vec := v.vec,
    mat := v.mat }

/-- The entry of a vector instruction with what it captures (R46). -/
def VecForm.entry (v : VecForm) (s : State) (got : List (Reg × Word)) : QEntry :=
  { work := .vector v.code, pc := s.me.regs.pc, vals := v.srcs.map (srcVal s got) ++ v.extra
    fmt := match v.fmt with | some f => srcVal s got (fmtReg f) | none => 0
    frame := [], done := 0, cap := none, dst := [], bound := [] }

/-- The issue of a vector instruction (R44 to R47). -/
def issueVec (v : VecForm) (s : State) : Host.Outcome State Fault Refusal :=
  run v.form s (fun got s =>
    if vecRoom s.me then enqueueVec s (v.entry s got) v.dst v.cvd v.len else waitClosed s .drain none)

end Sys2Proof.Machine
end

