-- ==== Sys2Proof/Machine/VecCfg.lean ====
section
/-! DEFINITION. Machine/VecCfg.lean: vtype (R149, R150), the grant (R151 to R154), SETVL, SETVLI, VSPAN and SMLOOP (R143
to R145, R152, R153). -/

namespace Sys2Proof.Machine

/-- The element width of an ew code (R149). -/
def ewOf (c : Nat) : Nat :=
  match c with
  | 0 => 4
  | 1 => 6
  | 2 => 8
  | 3 => 16
  | 4 => 32
  | _ => 64

/-- Element width of a vtype. -/
def vtEw (vt : Word) : Nat := ewOf (fieldOf vt 2 0)
/-- Group size of a vtype. -/
def vtG (vt : Word) : Nat := 2 ^ fieldOf vt 4 3
/-- Span segments requested by a vtype, less one. -/
def vtSeg (vt : Word) : Nat := fieldOf vt 9 7
/-- A refused vtype value (R150). -/
def vtRefused (vt : Word) : Bool := decide (6 ≤ fieldOf vt 2 0 ∨ 3 < vtSeg vt ∨ 2 ^ 10 ≤ vt.toNat)

/-- VLEN_eff of a context (R151). -/
def vlenEff (vlen live : Nat) : Nat := vlen * live / 32
/-- The elements that one segment holds (R151). -/
def vlmaxSeg (vt : Word) (eff : Nat) : Nat :=
  if vtEw vt = 6 then 4 * (eff * vtG vt / 24) else eff * vtG vt / vtEw vt

/-- VLEN_ctx of a context (R67). -/
def Vec.vlen (v : Vec) : Nat := 16384 / 2 ^ v.split

/-- Live lanes that every attached segment has now (R56, R151). -/
def spanLive (s : State) (k : Nat) : Nat :=
  (s.slot k).vec.segs.foldl (fun n j => min n (liveOf (s.core (coreOf j)))) (liveOf (s.core (coreOf k)))

/-- The scalar side makes the grants of this slot (R145, R153). -/
def scalarGrants (x : Slot) : Bool := decide (x.vec.smax = 0 ∧ x.vec.segs = [])

/-- An entry whose result the scalar side's copy of vl waits for: VLDFF, or a grant of the vector unit (R145, R153,
R161). -/
def writesVl (e : QEntry) : Bool :=
  match e.work with
  | .vector c => decide (majorOf c = 0x19 ∧ (c.extractLsb' 25 7).toNat = 3)
  | .grant _ _ _ _ => true
  | _ => false

/-- A reader of the scalar side's vl waits for a pending one; the chunk that holds its writer closes first (R145,
R161). -/
def withVl {α : Type} (s : State) (r : R α) : R α :=
  if (chunkVecs s.me).any writesVl then .close
  else if s.me.vq.any writesVl then .wait .grant none
  else r

/-- The segments that a grant wants (R152). -/
def wantSegs (v : Vec) (seg : Nat) : Nat := max (v.smin + 1) (min (v.smax + 1) (seg + 1))

/-- The grant of the scalar side for a request (R151, R153). -/
def scalarGrant (s : State) (nt : Word) (request : Word) : Word × Nat :=
  let live := liveOf (s.core (coreOf s.cur))
  (word (min request.toNat (vlmaxSeg nt (vlenEff s.me.vec.vlen live))), live)

/-- A grant of SETVL, SETVLI or VSPAN under the new vtype (R152, R153). -/
def setLength (s : State) (d : Reg) (request nt : Word) : R Unit :=
  if vtRefused nt then .trap (ownCause s.me 0x12 4) .none
  else withVl s (
    if scalarGrants s.me then
      let g := scalarGrant s nt request
      (writeDst s d g.1).bind (fun _ s =>
        .ok () (defer (s.onMe (fun x => { x with regs := { x.regs.skip 4 with vl := g.1, vtype := nt } }))
          (.vec ⟨.setVl g.1 nt g.2, s.me.regs.pc, [], 0, [], 0, none, [], []⟩)))
    else if vecRoom s.me then
      (enqueueVec s ⟨.grant request nt (wantSegs s.me.vec (vtSeg nt)) false, s.me.regs.pc, [], 0, [], 0, none, [], []⟩
        [d] none 4).bind (fun _ s => .ok () (s.onMe (fun x => { x with regs := { x.regs with vtype := nt } })))
    else waitClosed s .drain none)

/-- SETVL. -/
def execSetvl (x : GF) (s : State) : Host.Outcome State Fault Refusal :=
  run { reason := zeroGFZ x, srcs := [x.a, x.b], dsts := [x.d], full := true, vec := true
        low := if vtRefused (peekSrc s x.b) then some 4 else none } s (fun got s =>
    setLength s x.d (srcVal s got x.a) (srcVal s got x.b))

/-- SETVLI. -/
def execSetvli (x : GIF) (s : State) : Host.Outcome State Fault Refusal :=
  run { reason := zeroGIFImmLowZ x, srcs := [x.a], dsts := [x.d], full := true, vec := true
        low := if vtRefused (zext64 x.imm) then some 4 else none } s (fun got s =>
    setLength s x.d (srcVal s got x.a) (zext64 x.imm))

/-- VSPAN. -/
def execVspan (x : GF) (s : State) : Host.Outcome State Fault Refusal :=
  run { reason := zeroGFZ x, srcs := [x.a, x.b], dsts := [x.d], full := true, vec := true
        low := if (peekSrc s x.b).toNat < 1 ∨ 4 < (peekSrc s x.b).toNat then some 4 else none } s (fun got s =>
    let n := (srcVal s got x.b).toNat
    if n < 1 ∨ 4 < n then .trap (ownCause s.me 0x12 4) .none
    else setLength s x.d (srcVal s got x.a) (setField s.me.regs.vtype 9 7 (n - 1)))

/-! SMLOOP. -/

/-- The pointer registers that a pack names (R143). -/
def packPtrs (pk : Word) : List Reg := (upFrom (fieldOf pk 6 2) (fieldOf pk 1 0 + 1)).map (BitVec.ofNat 5)
/-- The pack is accepted for registers a and b (R143). -/
def packOk (pk : Word) (a b : Reg) : Bool :=
  decide (fieldOf pk 63 55 = 0 ∧ fieldOf pk 6 2 + fieldOf pk 1 0 ≤ 30 ∧ a ≠ b ∧ a ∉ packPtrs pk ∧ b ∉ packPtrs pk)
/-- Bytes per element of pointer j. -/
def packAdv (pk : Word) (j : Nat) : Nat := fieldOf pk (18 + 12 * j) (7 + 12 * j)

/-- Each pointer moved on by vl times its bytes per element (R144). -/
def movePtrs (got : List (Reg × Word)) (pk vl : Word) : List (Reg × Nat) → State → R Unit
  | [], s => .ok () s
  | (r, j) :: rest, s =>
    (writeDst s r (srcVal s got r + vl * word (packAdv pk j))).bind (fun _ s => movePtrs got pk vl rest s)

/-- The end of SMLOOP: the re-grant and the branch, or vl := 0 (R144, R145). -/
def loopGrant (s : State) (x : LF) (rem : Word) : R Unit :=
  let pc := s.me.regs.pc
  let entry (w : QWork) : QEntry := ⟨w, pc, [], 0, [], 0, none, [], []⟩
  let go (s : State) (t : Word) : State :=
    s.onMe (fun y => { y with regs := { y.regs with pc := t, cdst := x.a } })
  if (0 : Int) < rem.toInt then
    let nt := s.me.regs.vtype
    if vtRefused nt then .trap (ownCause s.me 0x12 4) .none
    else if scalarGrants s.me then
      let g := scalarGrant s nt rem
      .ok () (defer (go (s.onMe (fun y => { y with regs := { y.regs with vl := g.1 } })) (targetOf pc x.off))
        (.vec (entry (.setVlOnly g.1 (some g.2)))))
    else if vecRoom s.me then
      .ok () (defer (go s (targetOf pc x.off))
        (.vec (entry (.grant rem nt (wantSegs s.me.vec (vtSeg nt)) true))))
    else waitClosed s .drain none
  else
    .ok () (defer (go (s.onMe (fun y => { y with regs := { y.regs with vl := 0 } })) (pc + 4))
      (.vec (entry (.setVlOnly 0 none))))

/-- SMLOOP. -/
def execSmloop (x : LF) (s : State) : Host.Outcome State Fault Refusal :=
  let ptrs := if packOk (peekSrc s x.b) x.a x.b then packPtrs (peekSrc s x.b) else []
  run { srcs := [x.a, x.b] ++ ptrs, dsts := x.a :: ptrs, full := true, vec := true } s (fun got s =>
    let pk := srcVal s got x.b
    if packOk pk x.a x.b = false then .trap (ownCause s.me 0x12 (if misusedDst s x.a then 12 else 20)) .none
    else withVl s (
      let vl := s.me.regs.vl
      let rem := srcVal s got x.a - vl
      (writeDst s x.a rem).bind (fun _ s =>
        (movePtrs got pk vl ((packPtrs pk).zip (upFrom 0 4)) s).bind (fun _ s => loopGrant s x rem))))

end Sys2Proof.Machine
end

