-- ==== Sys2Proof/Machine/VecCore.lean ====
section
/-! DEFINITION. Machine/VecCore.lean: what every instruction of the lanes shares: its shape, register groups and masks
(R112, R150, R168), element processing (R170), bound vector registers (R165, R173, R236), the checks of R434 in their
order, and imprecise faults (R436, R448). -/

namespace Sys2Proof.Machine

/-- The shape under which a vector instruction runs: usable bits of a register, mask bits, segments, element width, group,
vl, vstart, elements of a segment, VLMAX and the two policies (R149 to R151, R170). -/
structure Shape where
  w : Nat
  mbits : Nat
  segs : Nat
  ew : Nat
  g : Nat
  vl : Nat
  vstart : Nat
  seg : Nat
  max : Nat
  tz : Bool
  mz : Bool
  deriving DecidableEq, Repr

/-- The shape of an entry: under the vl and vtype it captured when it was held, or those of the vector unit (R153,
R436). -/
def shapeOf (v : Vec) (cap : Option (Word × Word)) : Shape :=
  let vl := (cap.getD (v.vl, v.vtype)).1
  let vt := (cap.getD (v.vl, v.vtype)).2
  let w := vlenEff v.vlen v.live
  let n := v.segs.length + 1
  { w := w, mbits := v.vlen / 4, segs := n, ew := vtEw vt, g := vtG vt, vl := vl.toNat, vstart := v.vstart.toNat
    seg := vlmaxSeg vt w, max := vlmaxSeg vt w * n, tz := vt.getLsbD 5, mz := vt.getLsbD 6 }

/-- The fields of a vector instruction as numbers, with what it captured. -/
structure VOp where
  op : Nat
  fn : Nat
  f : Nat
  m : Nat
  b : Nat
  a : Nat
  d : Nat
  vals : List Word
  fmt : Word
  pc : Word
  deriving DecidableEq, Repr

/-- The fields of a word; the function code of the memory majors has seven bits (R82). -/
def VOp.of (c : BitVec 32) (vals : List Word) (fmt pc : Word) : VOp :=
  let op := majorOf c
  { op := op
    fn := if op = 0x19 ∨ op = 0x1A then (c.extractLsb' 25 7).toNat
      else if op = 0x1B then (c.extractLsb' 28 4).toNat else (c.extractLsb' 27 5).toNat
    f := (c.extractLsb' 25 2).toNat, m := (c.extractLsb' 22 3).toNat
    b := (c.extractLsb' 17 5).toNat, a := (c.extractLsb' 12 5).toNat, d := (c.extractLsb' 7 5).toNat
    vals := vals, fmt := fmt, pc := pc }

/-- A captured scalar value. -/
def VOp.val (o : VOp) (i : Nat) : Word := o.vals.getD i 0

/-! Register groups and masks, as numbers (R112). A group is the usable bits of its registers one after another. -/

/-- `n` registers from `r` on of segment `j`. -/
def Vec.grp (v : Vec) (w j : Nat) : Nat → Nat → Nat
  | _, 0 => 0
  | r, n + 1 => rd 0 v.v (32 * j + r) % 2 ^ w + (v.grp w j (r + 1) n) <<< w
/-- `n` registers from `r` on of segment `j` written; bits beyond the usable ones keep their values. -/
def Vec.setGrp (v : Vec) (w j : Nat) : Nat → Nat → Nat → Vec
  | _, 0, _ => v
  | r, n + 1, x =>
    let old := rd 0 v.v (32 * j + r)
    Vec.setGrp { v with v := wr 0 v.v (32 * j + r) ((old >>> w) <<< w + x % 2 ^ w) } w j (r + 1) n (x >>> w)
/-- Mask `m` of segment `j`. -/
def Vec.msk (v : Vec) (j m : Nat) : Nat := rd 0 v.m (8 * j + m)
/-- Mask `m` of segment `j` written. -/
def Vec.setMsk (v : Vec) (j m x : Nat) : Vec := { v with m := wr 0 v.m (8 * j + m) x }

/-- Element `i` of width `ew` of a group. -/
def getEl (ew x i : Nat) : Nat := (x >>> (ew * i)) % 2 ^ ew
/-- A group with element `i` written. -/
def putEl (ew x i v : Nat) : Nat := x ^^^ ((getEl ew x i ^^^ v % 2 ^ ew) <<< (ew * i))

/-- The group from register `r` of `n` registers in every segment. -/
def Vec.grps (v : Vec) (sh : Shape) (r n : Nat) : List Nat := (List.range sh.segs).map (fun j => v.grp sh.w j r n)
/-- The groups of every segment written. -/
def Vec.putGrps (v : Vec) (sh : Shape) (r n : Nat) (xs : List Nat) : Vec :=
  (xs.zip (List.range sh.segs)).foldl (fun v e => v.setGrp sh.w e.2 r n e.1) v
/-- A mask in every segment. -/
def Vec.msks (v : Vec) (sh : Shape) (m : Nat) : List Nat := (List.range sh.segs).map (fun j => v.msk j m)
/-- A mask written in every segment. -/
def Vec.putMsks (v : Vec) (sh : Shape) (m : Nat) (xs : List Nat) : Vec :=
  (xs.zip (List.range sh.segs)).foldl (fun v e => v.setMsk e.2 m e.1) v

/-- Element `i` of the vector in groups of elements of width `ew` (R13). -/
def elAt (sh : Shape) (ew : Nat) (gs : List Nat) (i : Nat) : Nat := getEl ew (gs.getD (i / sh.seg) 0) (i % sh.seg)
/-- Element `i` of the vector written. -/
def putAt (sh : Shape) (ew : Nat) (gs : List Nat) (i v : Nat) : List Nat :=
  gs.modify (i / sh.seg) (fun x => putEl ew x (i % sh.seg) v)
/-- Bit `i` of a mask; mask 0 reads as all ones (R168). -/
def maskBit (v : Vec) (sh : Shape) (m : Nat) : Nat → Bool :=
  let ms := v.msks sh m
  fun i => m == 0 || (ms.getD (i / sh.seg) 0).testBit (i % sh.seg)
/-- Elements of segment `j` below vl (R185). -/
def segLen (sh : Shape) (j : Nat) : Nat := min sh.seg (sh.vl - j * sh.seg)

/-- Element processing (R170): the active elements from vstart on take their results, inactive ones follow mz, the tail
follows tz. -/
def policy (sh : Shape) (active : Nat → Bool) (ew : Nat) (old : List Nat) (res : Nat → Nat) : List Nat :=
  if sh.vl = 0 then old else
  let body := (upFrom sh.vstart (sh.vl - sh.vstart)).foldl (fun gs i =>
    if active i then putAt sh ew gs i (res i) else if sh.mz then putAt sh ew gs i 0 else gs) old
  if sh.tz then (upFrom sh.vl (sh.max - sh.vl)).foldl (fun gs i => putAt sh ew gs i 0) body else body

/-- An instruction that wrote vector registers or masks moves the vec field to dirty, unless vl = 0 (R170). -/
def Vec.wrote (v : Vec) (sh : Shape) : Vec := if sh.vl = 0 then v else v.dirtyVec

/-- Elements processed into the destination group of width `ew`. -/
def Vec.writeEls (v : Vec) (sh : Shape) (o : VOp) (n ew : Nat) (res : Nat → Nat) : Vec :=
  (v.putGrps sh o.d n (policy sh (maskBit v sh o.m) ew (v.grps sh o.d n) res)).wrote sh
/-- Elements processed into the bits of the destination mask. -/
def Vec.writeMask (v : Vec) (sh : Shape) (o : VOp) (res : Nat → Bool) : Vec :=
  (v.putMsks sh o.d (policy sh (maskBit v sh o.m) 1 (v.msks sh o.d) (fun i => b2n (res i)))).wrote sh

/-! Format descriptors (R113, R114). -/

/-- The descriptor holds a reserved value. -/
def fmtReserved (w : Word) : Bool :=
  decide (2 ^ 19 ≤ w.toNat ∨ 8 < fieldOf w 3 0 ∨ 8 < fieldOf w 7 4 ∨ 8 < fieldOf w 11 8 ∨ 3 < fieldOf w 18 16)
/-- Field fa. -/
def fmtA (w : Word) : Nat := fieldOf w 3 0
/-- Field fb. -/
def fmtB (w : Word) : Nat := fieldOf w 7 4
/-- Field fd. -/
def fmtD (w : Word) : Nat := fieldOf w 11 8
/-- Field scale. -/
def fmtScale (w : Word) : Nat := fieldOf w 18 16
/-- Rounding, saturation and flushing of a descriptor. -/
def fmtGov (w : Word) : Gov := ⟨fieldOf w 13 12, w.getLsbD 14, w.getLsbD 15⟩

/-! What an instruction of the lanes is. -/

/-- What the effect of an instruction of the lanes comes to: done, with the scalar results of the instructions that have
any; a cause at an element, with what was performed below it; a wait with the same. The vector context goes with
it. -/
inductive Eff where
  | ok (s : State) (v : Vec) (res : List Word)
  | stop (s : State) (v : Vec) (c : Cause)
  | wait (s : State) (v : Vec)

/-- An instruction at the lanes: the register groups it reads and writes (first register, count); the groups to be checked
(first register, alignment, count); whether it names a mask; its further conditions by reason of R434; whether
it acts whatever vl is, or on no element; destination groups that it names and may leave unwritten; the width its element groups are counted by; the groups whose bound registers move the vec
field to dirty, as the source of a store does (R156); its effect. -/
structure LaneSpec where
  reads : List (Nat × Nat) := []
  writes : List (Nat × Nat) := []
  align : List (Nat × Nat × Nat) := []
  masks : Bool := false
  bad : List (Nat × Bool) := []
  always : Bool := false
  idle : Bool := false
  names : List (Nat × Nat) := []
  ew : Nat := 0
  dirties : List (Nat × Nat) := []
  effect : State → Vec → Eff

/-- An effect on the vector context alone. -/
def onVec (f : Vec → Vec) (s : State) (v : Vec) : Eff := .ok s { f v with vstart := 0 } []
/-- A scalar result computed from the vector context, which is left as it is (R172). -/
def fromVec (f : Vec → Word) (s : State) (v : Vec) : Eff := .ok s v [f v]

/-- The lowest reason that applies (R434). -/
def lowest (l : List (Nat × Bool)) : Option Nat :=
  l.foldl (fun r e => if e.2 then (match r with | some q => some (min q e.1) | none => some e.1) else r) none

/-- A group is aligned and ends at or below v31 (R150). -/
def groupOk (e : Nat × Nat × Nat) : Bool := decide (e.1 % e.2.1 = 0 ∧ e.1 + e.2.2 ≤ 32)
/-- Two groups share a register. -/
def overlap (a n b k : Nat) : Bool := decide (a < b + k ∧ b < a + n)

/-! Bound vector registers (R165, R173, R236). -/

/-- The port of a bound vector register. -/
def boundVec (x : Slot) (r : Nat) : Option Nat :=
  if 28 ≤ r ∧ r ≤ 31 then
    let f := fieldOf x.sys.qmap (6 * (r - 22) + 5) (6 * (r - 22))
    if f.testBit 5 then some (f % 32) else none
  else none

/-- The bound registers of some groups, each once, with their ports. -/
def boundIn (x : Slot) (l : List (Nat × Nat)) : List (Nat × Nat) :=
  (upFrom 28 4).filterMap (fun r =>
    if l.any (fun e => decide (e.1 ≤ r ∧ r < e.1 + e.2)) then (boundVec x r).map (fun p => (r, p)) else none)

/-- A port serves a pop or push of a vector (R233, R236, R467). -/
def vecPortOk (x : Slot) (sh : Shape) (push : Bool) (p : Nat) : Bool :=
  match x.port p with
  | none => false
  | some q =>
    !q.stale && (decide (q.kind = 3) ||
      (decide (q.kind = if push then 4 else 5) && decide (sh.ew = 64 ∧ sh.vl % 2 = 0)))

/-- The value that the `j`th pop from a port takes, when it is there. -/
def peekVec (s : State) (k : Nat) (sh : Shape) (p j : Nat) : Option Nat :=
  match (s.slot k).port p with
  | none => none
  | some q =>
    if q.kind = 3 then (rd VectorQ.empty (s.core (coreOf k)).vq q.base).elems[j]?
    else
      let rs := ((s.resultsOf q.base).drop (j * (sh.vl / 2))).take (sh.vl / 2)
      if rs.length < sh.vl / 2 then none
      else some (ofLe (rs.flatMap (fun r => toLe 8 r.1.toNat ++ toLe 8 r.2.toNat)))

/-- One pop from a port. -/
def dropVec (s : State) (k : Nat) (sh : Shape) (p : Nat) : State :=
  match (s.slot k).port p with
  | none => s
  | some q =>
    if q.kind = 3 then s.onCore (coreOf k) (fun c =>
      { c with vq := wr .empty c.vq q.base ⟨(rd VectorQ.empty c.vq q.base).elems.drop 1⟩ })
    else s.putResults q.base ((s.resultsOf q.base).drop (sh.vl / 2))

/-- The values of the pops of an instruction, port by port in register order. -/
def peekAll (s : State) (k : Nat) (sh : Shape) : List (Nat × Nat) → List Nat → Option (List (Nat × Nat))
  | [], _ => some []
  | (r, p) :: rest, seen =>
    match peekVec s k sh p (seen.filter (· == p)).length, peekAll s k sh rest (p :: seen) with
    | some x, some l => some ((r, x) :: l)
    | _, _ => none

/-- The vector queue of the port has room for as many pushes as the instruction makes to it. -/
def vecPushRoom (s : State) (k : Nat) (ws : List (Nat × Nat)) (p : Nat) : Bool :=
  match (s.slot k).port p with
  | none => true
  | some q => decide (q.kind ≠ 3) ||
    decide ((rd VectorQ.empty (s.core (coreOf k)).vq q.base).elems.length + (ws.filter (fun e => e.2 == p)).length ≤ 2)

/-- The dwords of a register, lowest first. -/
def dwordsOf (x : Nat) : Nat → List Word
  | 0 => []
  | n + 1 => word x :: dwordsOf (x / 2 ^ 64) n

/-- A finished vector pushed to its port: into the vector queue, or as commands still to be delivered. -/
def pushVec (s : State) (k : Nat) (sh : Shape) (pc : Word) (p x : Nat) : State × List QEntry :=
  match (s.slot k).port p with
  | none => (s, [])
  | some q =>
    if q.kind = 3 then (s.onCore (coreOf k) (fun c =>
      { c with vq := wr .empty c.vq q.base ⟨(rd VectorQ.empty c.vq q.base).elems ++ [x]⟩ }), [])
    else (s, [⟨.commands q (dwordsOf x sh.vl) 0, pc, [], 0, [], 0, none, [], []⟩])

/-! Running an instruction at the lanes. -/

/-- What an entry at the lanes comes to: done with its results, leaving further entries in its place; a cause; or it
stays first and waits. With a cause or a wait goes what the entry keeps of its bound registers. -/
inductive LaneR where
  | done (s : State) (res : List Word) (more : List QEntry)
  | fault (s : State) (c : Cause) (bound : List (Nat × Nat))
  | blocked (s : State) (bound : List (Nat × Nat))

/-- einfo of an imprecise vector fault: aux holds the element, imp is set (R421, R436, R448). -/
def impInfo (reason level : Nat) (write : Bool) (elem : Nat) : Word := einfoOf reason level write elem ||| 0x1000

/-- The cause of a check that fails at the lanes (R436). -/
def laneFault (sh : Shape) (pc : Word) (r : Nat) : Cause := ⟨0x12, pc, impInfo r 0 false sh.vstart⟩

/-- The element groups of 1,024 bits that hold elements vstart to vl - 1, or to VLMAX - 1 with tz (R175). -/
def groupCount (sh : Shape) (ew : Nat) : Nat :=
  if sh.vl = 0 ∨ ew = 0 then 0 else
  ((List.range sh.segs).map (fun j =>
    let lo := sh.vstart - j * sh.seg
    let hi := min sh.seg ((if sh.tz then sh.max else sh.vl) - j * sh.seg)
    if lo < hi then (hi * ew - 1) / 1024 - lo * ew / 1024 + 1 else 0)).sum

/-- The registers of segment 0 that `l` names take the values given. -/
def Vec.setRegs (v : Vec) (l : List (Nat × Nat)) : Vec :=
  { v with v := l.foldl (fun m e => wr 0 m e.1 e.2) v.v }
/-- The registers of segment 0 that `l` names take the values they have in `u`. -/
def Vec.restore (v u : Vec) (l : List (Nat × Nat)) : Vec := v.setRegs (l.map (fun e => (e.1, rd 0 u.v e.1)))

/-- A check of an instruction at the lanes fails: the lowest reason of R434. -/
def laneReason (x : Slot) (sh : Shape) (sp : LaneSpec) : Option Nat :=
  let bR := boundIn x sp.reads
  let bW := boundIn x (sp.writes ++ sp.names)
  lowest ([(6, !sp.align.all groupOk), (7, sp.masks && decide (sh.mbits < sh.seg))] ++ sp.bad ++
    [(12, decide (bR ++ bW ≠ [] ∧ (sh.g ≠ 1 ∨ sh.segs ≠ 1)) || !bR.all (fun e => vecPortOk x sh false e.2) ||
      !bW.all (fun e => vecPortOk x sh true e.2))])

/-- The values that registers have in segment 0. -/
def Vec.valsOf (v : Vec) (l : List (Nat × Nat)) : List (Nat × Nat) := l.map (fun e => (e.1, rd 0 v.v e.1))

/-- An instruction at the lanes, its checks and bound registers included (R165, R173): its pops take place when it starts,
its pushes, which are releases (R298), when every element has performed; with vl = 0 neither takes place, unless the
instruction acts whatever vl is (DESIGN CHOICE, log 173); one that stops or waits keeps `kept`, the values of its bound registers. -/
def runLane (s : State) (k : Nat) (sh : Shape) (pc : Word) (kept : List (Nat × Nat)) (sp : LaneSpec) : LaneR :=
  let x := s.slot k
  match laneReason x sh sp with
  | some r => .fault s (laneFault sh pc r) kept
  | none =>
    let active := !sp.idle && (sp.always || decide (sh.vl ≠ 0))
    let bR := if active then boundIn x sp.reads else []
    let bW := if active then boundIn x sp.writes else []
    match (if kept = [] then peekAll s k sh bR [] else some kept) with
    | none => .blocked s kept
    | some got =>
      if !bW.all (fun e => vecPushRoom s k bW e.2) || (bW != [] && accessesOut s k) then .blocked s kept
      else
        let s0 := if kept = [] then bR.foldl (fun s e => dropVec s k sh e.2) s else s
        match sp.effect s0 (x.vec.setRegs got) with
        | .ok s1 v1 res =>
          let v2 := v1.restore x.vec (bR ++ bW)
          let v3 := if active && decide (boundIn x sp.dirties ≠ []) then v2.dirtyVec else v2
          let did := if v1.vl ≠ x.vec.vl then { sh with vl := v1.vl.toNat } else sh
          let s2 := s1.onSlot k (fun y => countEvent { y with vec := v3 } 12 (if sp.idle then 0 else groupCount did sp.ew))
          let out := bW.foldl (fun (a : State × List QEntry) e =>
            let p := pushVec a.1 k sh pc e.2 (rd 0 v1.v e.1)
            (p.1, a.2 ++ p.2)) (s2, [])
          .done out.1 res out.2
        | .stop s1 v1 c =>
          let did := if v1.vstart.toNat ≤ sh.vl then { sh with vl := v1.vstart.toNat, tz := false } else sh
          .fault (s1.onSlot k (fun y => countEvent { y with vec := v1.restore x.vec (bR ++ bW) } 12
            (if sh.vstart < did.vl then groupCount did sp.ew else 0))) c (v1.valsOf (bR ++ bW))
        | .wait s1 v1 =>
          .blocked (s1.onSlot k (fun y => { y with vec := v1.restore x.vec (bR ++ bW) })) (v1.valsOf (bR ++ bW))

end Sys2Proof.Machine
end

