-- ==== Sys2Proof/Machine/VecInt.lean ====
section
/-! DEFINITION. Machine/VecInt.lean: integer element operations (R176), saturating forms (R177) and changes of width
(R178). -/

namespace Sys2Proof.Machine

/-- The shift amount of an element (R111): its low log2 bits, three at width 6. -/
def elShift (w y : Nat) : Nat := if w = 6 then y % 8 else y % w

/-- The result of an integer element operation before it wraps to the width (R176). -/
def intEl (fn w x y d : Nat) : Nat :=
  match fn with
  | 0 => x + y
  | 1 => x + 2 ^ w - y
  | 2 => x * y
  | 3 => truncI (2 * w) (sextN w x * sextN w y) / 2 ^ w
  | 4 => x * y / 2 ^ w
  | 5 => d + x * y
  | 6 => x &&& y
  | 7 => x ||| y
  | 8 => x ^^^ y
  | 9 => x <<< elShift w y
  | 10 => x >>> elShift w y
  | 11 => truncI w (sextN w x >>> elShift w y)
  | 12 => if sextN w x < sextN w y then x else y
  | 13 => if sextN w x < sextN w y then y else x
  | 14 => min x y
  | _ => max x y

/-- Three groups of G registers: destination and two sources. -/
def threeGroups (sh : Shape) (o : VOp) : LaneSpec :=
  { reads := [(o.a, sh.g), (o.b, sh.g)], writes := [(o.d, sh.g)]
    align := [(o.d, sh.g, sh.g), (o.a, sh.g, sh.g), (o.b, sh.g, sh.g)], masks := decide (o.m ≠ 0), ew := sh.ew
    effect := fun s v => .ok s v [] }

/-- Two groups of G registers: destination and one source. -/
def twoGroups (sh : Shape) (o : VOp) : LaneSpec :=
  { reads := [(o.a, sh.g)], writes := [(o.d, sh.g)]
    align := [(o.d, sh.g, sh.g), (o.a, sh.g, sh.g)], masks := decide (o.m ≠ 0), ew := sh.ew
    effect := fun s v => .ok s v [] }

/-- Elements of the destination computed from those of va, vb and vd. -/
def mapEls (sh : Shape) (o : VOp) (f : Nat → Nat → Nat → Nat) (v : Vec) : Vec :=
  let ga := v.grps sh o.a sh.g
  let gb := v.grps sh o.b sh.g
  let gd := v.grps sh o.d sh.g
  v.writeEls sh o sh.g sh.ew (fun i => f (elAt sh sh.ew ga i) (elAt sh sh.ew gb i) (elAt sh sh.ew gd i))

/-- VADD to VMAXU at the lanes (R176). At EW 6 the signed operations are refused. -/
def intLane (sh : Shape) (o : VOp) : LaneSpec :=
  { threeGroups sh o with
    reads := (if o.fn = 5 then [(o.d, sh.g)] else []) ++ [(o.a, sh.g), (o.b, sh.g)]
    bad := [(8, decide (sh.ew = 6 ∧ (o.fn = 3 ∨ o.fn = 11 ∨ o.fn = 12 ∨ o.fn = 13)))]
    effect := onVec (mapEls sh o (intEl o.fn sh.ew)) }

/-- VSADD and VSSUB at the lanes (R177). -/
def satLane (sh : Shape) (o : VOp) : LaneSpec :=
  let t : IntTy := ⟨sh.ew, decide (o.f = 0)⟩
  { threeGroups sh o with
    bad := [(8, decide (1 < o.f ∨ (o.f = 0 ∧ sh.ew = 6)))]
    effect := onVec (mapEls sh o (fun x y _ =>
      t.clamp (if o.fn = 0 then t.get x + t.get y else t.get x - t.get y))) }

/-- VNARROW at the lanes (R178). -/
def narrowLane (sh : Shape) (o : VOp) : LaneSpec :=
  let src : IntTy := ⟨2 * sh.ew, o.b.testBit 0⟩
  let dst : IntTy := ⟨sh.ew, o.b.testBit 0⟩
  { reads := [(o.a, 2 * sh.g)], writes := [(o.d, sh.g)]
    align := [(o.d, sh.g, sh.g), (o.a, 2 * sh.g, 2 * sh.g)], masks := decide (o.m ≠ 0), ew := sh.ew
    bad := [(8, decide (sh.ew = 6 ∨ sh.ew = 64 ∨ sh.g = 8 ∨ 4 ≤ o.b)), (10, overlap o.d sh.g o.a (2 * sh.g))]
    effect := onVec (fun v =>
      let ga := v.grps sh o.a (2 * sh.g)
      v.writeEls sh o sh.g sh.ew (fun i =>
        let x := elAt sh (2 * sh.ew) ga i
        if o.b.testBit 1 then dst.clamp (src.get x) else x)) }

/-- VWIDEN at the lanes (R178). -/
def widenLane (sh : Shape) (o : VOp) : LaneSpec :=
  let src : IntTy := ⟨sh.ew, o.b.testBit 0⟩
  { reads := [(o.a, sh.g)], writes := [(o.d, 2 * sh.g)]
    align := [(o.d, 2 * sh.g, 2 * sh.g), (o.a, sh.g, sh.g)], masks := decide (o.m ≠ 0), ew := 2 * sh.ew
    bad := [(8, decide (sh.ew = 6 ∨ sh.ew = 64 ∨ sh.g = 8 ∨ 2 ≤ o.b)), (10, overlap o.d (2 * sh.g) o.a sh.g)]
    effect := onVec (fun v =>
      let ga := v.grps sh o.a sh.g
      v.writeEls sh o (2 * sh.g) (2 * sh.ew) (fun i => truncI (2 * sh.ew) (src.get (elAt sh sh.ew ga i)))) }

/-- The instructions of major VINT2 at the lanes. -/
def int2Lane (sh : Shape) (o : VOp) : LaneSpec :=
  match o.fn with
  | 2 => narrowLane sh o
  | 3 => widenLane sh o
  | _ => satLane sh o

/-- VADD. -/
def execVadd (x : VF) (s : State) : Host.Outcome State Fault Refusal :=
  issueVec { reason := zeroVFF x, code := wordVF 0x1C 0 x, cvd := some x.vd } s
/-- VSUB. -/
def execVsub (x : VF) (s : State) : Host.Outcome State Fault Refusal :=
  issueVec { reason := zeroVFF x, code := wordVF 0x1C 1 x, cvd := some x.vd } s
/-- VMUL. -/
def execVmul (x : VF) (s : State) : Host.Outcome State Fault Refusal :=
  issueVec { reason := zeroVFF x, code := wordVF 0x1C 2 x, cvd := some x.vd } s
/-- VMULH. -/
def execVmulh (x : VF) (s : State) : Host.Outcome State Fault Refusal :=
  issueVec { reason := zeroVFF x, code := wordVF 0x1C 3 x, cvd := some x.vd } s
/-- VMULHU. -/
def execVmulhu (x : VF) (s : State) : Host.Outcome State Fault Refusal :=
  issueVec { reason := zeroVFF x, code := wordVF 0x1C 4 x, cvd := some x.vd } s
/-- VMACC. -/
def execVmacc (x : VF) (s : State) : Host.Outcome State Fault Refusal :=
  issueVec { reason := zeroVFF x, code := wordVF 0x1C 5 x, cvd := some x.vd } s
/-- VAND. -/
def execVand (x : VF) (s : State) : Host.Outcome State Fault Refusal :=
  issueVec { reason := zeroVFF x, code := wordVF 0x1C 6 x, cvd := some x.vd } s
/-- VOR. -/
def execVor (x : VF) (s : State) : Host.Outcome State Fault Refusal :=
  issueVec { reason := zeroVFF x, code := wordVF 0x1C 7 x, cvd := some x.vd } s
/-- VXOR. -/
def execVxor (x : VF) (s : State) : Host.Outcome State Fault Refusal :=
  issueVec { reason := zeroVFF x, code := wordVF 0x1C 8 x, cvd := some x.vd } s
/-- VSLL. -/
def execVsll (x : VF) (s : State) : Host.Outcome State Fault Refusal :=
  issueVec { reason := zeroVFF x, code := wordVF 0x1C 9 x, cvd := some x.vd } s
/-- VSRL. -/
def execVsrl (x : VF) (s : State) : Host.Outcome State Fault Refusal :=
  issueVec { reason := zeroVFF x, code := wordVF 0x1C 10 x, cvd := some x.vd } s
/-- VSRA. -/
def execVsra (x : VF) (s : State) : Host.Outcome State Fault Refusal :=
  issueVec { reason := zeroVFF x, code := wordVF 0x1C 11 x, cvd := some x.vd } s
/-- VMIN. -/
def execVmin (x : VF) (s : State) : Host.Outcome State Fault Refusal :=
  issueVec { reason := zeroVFF x, code := wordVF 0x1C 12 x, cvd := some x.vd } s
/-- VMAX. -/
def execVmax (x : VF) (s : State) : Host.Outcome State Fault Refusal :=
  issueVec { reason := zeroVFF x, code := wordVF 0x1C 13 x, cvd := some x.vd } s
/-- VMINU. -/
def execVminu (x : VF) (s : State) : Host.Outcome State Fault Refusal :=
  issueVec { reason := zeroVFF x, code := wordVF 0x1C 14 x, cvd := some x.vd } s
/-- VMAXU. -/
def execVmaxu (x : VF) (s : State) : Host.Outcome State Fault Refusal :=
  issueVec { reason := zeroVFF x, code := wordVF 0x1C 15 x, cvd := some x.vd } s
/-- VSADD. -/
def execVsadd (x : VF) (s : State) : Host.Outcome State Fault Refusal :=
  issueVec { reason := none, code := wordVF 0x1D 0 x, cvd := some x.vd } s
/-- VSSUB. -/
def execVssub (x : VF) (s : State) : Host.Outcome State Fault Refusal :=
  issueVec { reason := none, code := wordVF 0x1D 1 x, cvd := some x.vd } s
/-- VNARROW. -/
def execVnarrow (x : VF) (s : State) : Host.Outcome State Fault Refusal :=
  issueVec { reason := zeroVFF x, code := wordVF 0x1D 2 x, cvd := some x.vd } s
/-- VWIDEN. -/
def execVwiden (x : VF) (s : State) : Host.Outcome State Fault Refusal :=
  issueVec { reason := zeroVFF x, code := wordVF 0x1D 3 x, cvd := some x.vd } s

end Sys2Proof.Machine
end

