-- ==== Sys2Proof/Machine/VecFp.lean ====
section
/-! DEFINITION. Machine/VecFp.lean: floating-point element operations (R179), special functions (R180), conversions (R181,
R182) with MX blocks (R124, R125), and the vector compact forms that have these and integer equivalents (R92). -/

namespace Sys2Proof.Machine

/-- The result of a floating-point element operation in format `c` (R179). -/
def fpEl (fn : Nat) (g : Gov) (c x y d : Nat) : Nat :=
  let vx := readF g c x
  let vy := readF g c y
  let vd := readF g c d
  match fn with
  | 0 => writeF g c (addV g.rm vx vy)
  | 1 => writeF g c (addV g.rm vx (negV vy))
  | 2 => writeF g c (mulV vx vy)
  | 3 => writeF g c (addV g.rm (mulV vx vy) vd)
  | 4 => writeF g c (addV g.rm (mulV vx vy) (negV vd))
  | 5 => writeF g c (addV g.rm vd (negV (mulV vx vy)))
  | 6 => writeF g c (minV vx vy)
  | 7 => writeF g c (maxV vx vy)
  | 8 => writeF g c (absV vx)
  | 9 => writeF g c (negV vx)
  | 10 => divF g c vx vy
  | _ => sqrtF g c vx

/-- The function has one source, so that fb is not read (R179). -/
def fpUnary (fn : Nat) : Bool := decide (fn = 8 ∨ fn = 9 ∨ fn = 11)

/-- A descriptor that an element operation refuses (R179). -/
def fpBad (sh : Shape) (o : VOp) (unary : Bool) : Bool :=
  fmtReserved o.fmt || decide (fmtA o.fmt ≠ fmtD o.fmt ∨ 2 < fmtD o.fmt ∨ fmtW (fmtD o.fmt) ≠ sh.ew ∨
    fmtScale o.fmt ≠ 0 ∨ (unary = false ∧ fmtB o.fmt ≠ fmtD o.fmt))

/-- VFADD to VFSQRT at the lanes (R179). -/
def fpLane (sh : Shape) (o : VOp) : LaneSpec :=
  { (if fpUnary o.fn then twoGroups sh o else threeGroups sh o) with
    reads := (if o.fn = 3 ∨ o.fn = 4 ∨ o.fn = 5 then [(o.d, sh.g)] else []) ++ [(o.a, sh.g)] ++
      (if fpUnary o.fn then [] else [(o.b, sh.g)])
    bad := [(9, fpBad sh o (fpUnary o.fn))]
    effect := onVec (mapEls sh o (fpEl o.fn (fmtGov o.fmt) (fmtD o.fmt))) }

/-- VFRCP to VFCOS at the lanes (R180). -/
def specialLane (sh : Shape) (o : VOp) : LaneSpec :=
  { twoGroups sh o with
    bad := [(9, fpBad sh o true)]
    effect := onVec (mapEls sh o (fun x _ _ => specialF (fmtGov o.fmt) o.fn (fmtD o.fmt) x)) }

/-- Element formats of MX blocks among the descriptor's codes (R124). -/
def mxCode (c : Nat) : Bool := decide (3 ≤ c ∧ c ≤ 7)

/-- The scale that a block of source values takes (R125). -/
def mxScale (xs : List FVal) (fd : Nat) : Nat :=
  if xs.contains .nan then 0xFF
  else
    let top : Option Int := xs.foldl (fun t v => match v with
      | .num _ m e => if m = 0 then t else
          let l := (Nat.log2 m : Int) + e
          (match t with | some u => some (max u l) | none => some l)
      | _ => t) none
    match top with
    | none => 0
    | some l => (max 0 (min 254 (l - fmtEmax fd + 127))).toNat

/-- A value times 2^(x - 127), for an E8M0 scale x; 0xFF makes it NaN (R124). -/
def scaleV (v : FVal) (x : Nat) : FVal :=
  if x = 0xFF then .nan else match v with
    | .num s m e => .num s m (e + (x : Int) - 127)
    | w => w
/-- A value divided by 2^(x - 127), as R125 writes it for every x, 0xFF included. -/
def unscaleV (v : FVal) (x : Nat) : FVal :=
  match v with
  | .num s m e => .num s m (e - (x : Int) + 127)
  | w => w

/-- Registers of the source group of VFCVT (R181): where G × w_a / EW is no whole number, the last one in part
(R112; DEDUCED, log 139). -/
def cvtSpan (sh : Shape) (fa : Nat) : Nat := max 1 ((sh.g * fmtW fa + sh.ew - 1) / sh.ew)
/-- va is a multiple of max(1, G × w_a / EW) (R181; where that is no whole number DEDUCED, log 139). -/
def cvtAligned (sh : Shape) (fa va : Nat) : Bool :=
  decide (sh.g * fmtW fa ≤ sh.ew ∨ (va * sh.ew) % (sh.g * fmtW fa) = 0)

/-- The scaling of a VFCVT: 0 none, 1 quantisation, 2 dequantisation, 3 refused (R181). With both formats element formats
of MX the rule lists it twice; the model quantises (DESIGN CHOICE, log 137). -/
def cvtMode (sh : Shape) (o : VOp) : Nat :=
  match fmtScale o.fmt with
  | 0 => if o.b = 0 then 0 else 3
  | 1 =>
    if o.m ≠ 0 ∨ sh.vl % 32 ≠ 0 ∨ (1 < sh.segs ∧ sh.seg % 32 ≠ 0) then 3
    else if mxCode (fmtD o.fmt) then 1 else if mxCode (fmtA o.fmt) then 2 else 3
  | _ => 3

/-- VFCVT at the lanes (R181). The scale bytes of a quantisation are written after its elements: the rule does not say which
remain when vb lies in the group of vd (DESIGN CHOICE, log 138). The scale register of a dequantisation is no source group of R169's
overlap check (DESIGN CHOICE, log 172). -/
def cvtLane (sh : Shape) (o : VOp) : LaneSpec :=
  let fa := fmtA o.fmt
  let fd := fmtD o.fmt
  let g := fmtGov o.fmt
  let span := cvtSpan sh fa
  let mode := cvtMode sh o
  { reads := [(o.a, span)] ++ (if mode = 2 then [(o.b, 1)] else [])
    writes := [(o.d, sh.g)] ++ (if mode = 1 then [(o.b, 1)] else [])
    align := [(o.d, sh.g, sh.g), (o.a, 1, span)], masks := decide (o.m ≠ 0), ew := sh.ew
    bad := [(9, fmtReserved o.fmt || decide (fmtW fd ≠ sh.ew ∨ mode = 3) || !cvtAligned sh fa o.a),
      (10, decide (fmtW fa ≠ sh.ew) && overlap o.d sh.g o.a span)]
    effect := onVec (fun v =>
      let ga := v.grps sh o.a span
      let src (i : Nat) : FVal := readF g fa (elAt sh (fmtW fa) ga i)
      let old := v.grps sh o.b 1
      if mode = 1 then
        let scale (b : Nat) : Nat := mxScale ((upFrom (32 * b) 32).map src) fd
        let v1 := v.writeEls sh o sh.g sh.ew (fun i => writeF g fd (unscaleV (src i) (scale (i / 32))))
        v1.putGrps sh o.b 1 ((upFrom (sh.vstart / 32) (sh.vl / 32 - sh.vstart / 32)).foldl
          (fun gs b => gs.modify (32 * b / sh.seg) (fun x => putEl 8 x (32 * b % sh.seg / 32) (scale b)))
          (v1.grps sh o.b 1))
      else if mode = 2 then
        v.writeEls sh o sh.g sh.ew (fun i =>
          writeF g fd (scaleV (src i) (getEl 8 (old.getD (i / sh.seg) 0) (i % sh.seg / 32))))
      else v.writeEls sh o sh.g sh.ew (fun i => writeF g fd (src i))) }

/-- The floating-point format and the integer kind of a conversion (R182). -/
def cvtCodes (o : VOp) : Nat × Nat := if o.fn = 7 then (fmtA o.fmt, fmtD o.fmt) else (fmtD o.fmt, fmtA o.fmt)

/-- VFCVTI and VFCVTF at the lanes (R182). -/
def cvtIntLane (sh : Shape) (o : VOp) : LaneSpec :=
  let c := (cvtCodes o).1
  let t : IntTy := ⟨sh.ew, decide ((cvtCodes o).2 = 0)⟩
  let g := fmtGov o.fmt
  { twoGroups sh o with
    bad := [(8, decide (sh.ew ≠ 8 ∧ sh.ew ≠ 16 ∧ sh.ew ≠ 32)),
      (9, fmtReserved o.fmt || decide (4 < c ∨ fmtW c ≠ sh.ew ∨ 1 < (cvtCodes o).2))]
    effect := onVec (mapEls sh o (fun x _ _ =>
      if o.fn = 7 then toIntF g.rm t (readF g c x) else writeF g c (ofIntV (t.get x)))) }

/-- The instructions of major VFP2 at the lanes. -/
def fp2Lane (sh : Shape) (o : VOp) : LaneSpec :=
  if o.fn = 6 then cvtLane sh o else if o.fn = 7 ∨ o.fn = 8 then cvtIntLane sh o else specialLane sh o

/-- VFADD. -/
def execVfadd (x : VF) (s : State) : Host.Outcome State Fault Refusal :=
  issueVec { reason := none, code := wordVF 0x1E 0 x, fmt := some x.f, cvd := some x.vd } s
/-- VFSUB. -/
def execVfsub (x : VF) (s : State) : Host.Outcome State Fault Refusal :=
  issueVec { reason := none, code := wordVF 0x1E 1 x, fmt := some x.f, cvd := some x.vd } s
/-- VFMUL. -/
def execVfmul (x : VF) (s : State) : Host.Outcome State Fault Refusal :=
  issueVec { reason := none, code := wordVF 0x1E 2 x, fmt := some x.f, cvd := some x.vd } s
/-- VFMA. -/
def execVfma (x : VF) (s : State) : Host.Outcome State Fault Refusal :=
  issueVec { reason := none, code := wordVF 0x1E 3 x, fmt := some x.f, cvd := some x.vd } s
/-- VFMS. -/
def execVfms (x : VF) (s : State) : Host.Outcome State Fault Refusal :=
  issueVec { reason := none, code := wordVF 0x1E 4 x, fmt := some x.f, cvd := some x.vd } s
/-- VFNMA. -/
def execVfnma (x : VF) (s : State) : Host.Outcome State Fault Refusal :=
  issueVec { reason := none, code := wordVF 0x1E 5 x, fmt := some x.f, cvd := some x.vd } s
/-- VFMIN. -/
def execVfmin (x : VF) (s : State) : Host.Outcome State Fault Refusal :=
  issueVec { reason := none, code := wordVF 0x1E 6 x, fmt := some x.f, cvd := some x.vd } s
/-- VFMAX. -/
def execVfmax (x : VF) (s : State) : Host.Outcome State Fault Refusal :=
  issueVec { reason := none, code := wordVF 0x1E 7 x, fmt := some x.f, cvd := some x.vd } s
/-- VFABS. -/
def execVfabs (x : VF) (s : State) : Host.Outcome State Fault Refusal :=
  issueVec { reason := zeroVFVb x, code := wordVF 0x1E 8 x, fmt := some x.f, cvd := some x.vd } s
/-- VFNEG. -/
def execVfneg (x : VF) (s : State) : Host.Outcome State Fault Refusal :=
  issueVec { reason := zeroVFVb x, code := wordVF 0x1E 9 x, fmt := some x.f, cvd := some x.vd } s
/-- VFDIV. -/
def execVfdiv (x : VF) (s : State) : Host.Outcome State Fault Refusal :=
  issueVec { reason := none, code := wordVF 0x1E 10 x, fmt := some x.f, cvd := some x.vd } s
/-- VFSQRT. -/
def execVfsqrt (x : VF) (s : State) : Host.Outcome State Fault Refusal :=
  issueVec { reason := zeroVFVb x, code := wordVF 0x1E 11 x, fmt := some x.f, cvd := some x.vd } s
/-- VFRCP. -/
def execVfrcp (x : VF) (s : State) : Host.Outcome State Fault Refusal :=
  issueVec { reason := zeroVFVb x, code := wordVF 0x1F 0 x, fmt := some x.f, cvd := some x.vd } s
/-- VFRSQ. -/
def execVfrsq (x : VF) (s : State) : Host.Outcome State Fault Refusal :=
  issueVec { reason := zeroVFVb x, code := wordVF 0x1F 1 x, fmt := some x.f, cvd := some x.vd } s
/-- VFEXP2. -/
def execVfexp2 (x : VF) (s : State) : Host.Outcome State Fault Refusal :=
  issueVec { reason := zeroVFVb x, code := wordVF 0x1F 2 x, fmt := some x.f, cvd := some x.vd } s
/-- VFLOG2. -/
def execVflog2 (x : VF) (s : State) : Host.Outcome State Fault Refusal :=
  issueVec { reason := zeroVFVb x, code := wordVF 0x1F 3 x, fmt := some x.f, cvd := some x.vd } s
/-- VFSIN. -/
def execVfsin (x : VF) (s : State) : Host.Outcome State Fault Refusal :=
  issueVec { reason := zeroVFVb x, code := wordVF 0x1F 4 x, fmt := some x.f, cvd := some x.vd } s
/-- VFCOS. -/
def execVfcos (x : VF) (s : State) : Host.Outcome State Fault Refusal :=
  issueVec { reason := zeroVFVb x, code := wordVF 0x1F 5 x, fmt := some x.f, cvd := some x.vd } s
/-- VFCVT. -/
def execVfcvt (x : VF) (s : State) : Host.Outcome State Fault Refusal :=
  issueVec { reason := none, code := wordVF 0x1F 6 x, fmt := some x.f, cvd := some x.vd } s
/-- VFCVTI. -/
def execVfcvti (x : VF) (s : State) : Host.Outcome State Fault Refusal :=
  issueVec { reason := zeroVFVb x, code := wordVF 0x1F 7 x, fmt := some x.f, cvd := some x.vd } s
/-- VFCVTF. -/
def execVfcvtf (x : VF) (s : State) : Host.Outcome State Fault Refusal :=
  issueVec { reason := zeroVFVb x, code := wordVF 0x1F 8 x, fmt := some x.f, cvd := some x.vd } s

/-- A vector compact form: its equivalent with va the register that cvdst names at issue, vd the register vR or its
addend, under f0 where it reads a format (R91, R92). -/
def compactV (reason : Option Nat) (code : VF → BitVec 32) (fmt : Option (BitVec 2)) (d b : Reg) (s : State) :
    Host.Outcome State Fault Refusal :=
  issueVec { reason := reason, code := code ⟨0, 0, b, s.me.regs.cvdst, d⟩, fmt := fmt, cvd := some d, len := 2 } s
/-- CVADD. -/
def execCvadd (x : CF) (s : State) : Host.Outcome State Fault Refusal :=
  compactV (zeroCFImm x) (wordVF 0x1C 0) none x.r x.r s
/-- CVMUL. -/
def execCvmul (x : CF) (s : State) : Host.Outcome State Fault Refusal :=
  compactV (zeroCFImm x) (wordVF 0x1C 2) none x.r x.r s
/-- CVFADD. -/
def execCvfadd (x : CF) (s : State) : Host.Outcome State Fault Refusal :=
  compactV (zeroCFImm x) (wordVF 0x1E 0) (some 0) x.r x.r s
/-- CVFMA. -/
def execCvfma (x : CF) (s : State) : Host.Outcome State Fault Refusal :=
  compactV none (wordVF 0x1E 3) (some 0) x.r x.imm s

end Sys2Proof.Machine
end

