-- ==== Sys2Proof/Machine/VecMask.lean ====
section
/-! DEFINITION. Machine/VecMask.lean: compares into masks (R183) and mask operations (R184). -/

namespace Sys2Proof.Machine

/-- The relation of an integer compare (R183). -/
def cmpEl (fn w x y : Nat) : Bool :=
  match fn with
  | 0 => x == y
  | 1 => x != y
  | 2 => decide (sextN w x < sextN w y)
  | 3 => decide (sextN w x ≤ sextN w y)
  | 4 => decide (x < y)
  | _ => decide (x ≤ y)
/-- The relation of a floating-point compare (R120, R183). -/
def fcmpEl (fn : Nat) (x y : FVal) : Bool :=
  match fn with
  | 6 => eqV x y
  | 7 => ltV x y
  | 8 => leV x y
  | _ => unorderedV x y

/-- VCMPEQ to VFCMPUN at the lanes (R183). -/
def cmpLane (sh : Shape) (o : VOp) : LaneSpec :=
  let c := fmtA o.fmt
  { reads := [(o.a, sh.g), (o.b, sh.g)]
    align := [(o.a, sh.g, sh.g), (o.b, sh.g, sh.g)], masks := true, ew := sh.ew
    bad := [(8, decide (sh.ew = 6 ∧ (o.fn = 2 ∨ o.fn = 3))),
      (9, decide (6 ≤ o.fn) && (fmtReserved o.fmt || decide (fmtB o.fmt ≠ c ∨ 7 < c ∨ fmtW c ≠ sh.ew)))]
    effect := onVec (fun v =>
      let ga := v.grps sh o.a sh.g
      let gb := v.grps sh o.b sh.g
      let rdF (x : Nat) : FVal := readF (fmtGov o.fmt) c x
      v.writeMask sh o (fun i =>
        let x := elAt sh sh.ew ga i
        let y := elAt sh sh.ew gb i
        if o.fn < 6 then cmpEl o.fn sh.ew x y else fcmpEl o.fn (rdF x) (rdF y))) }

/-- The elements below vl that the governing mask selects and that have their bit set in mask `a`. -/
def selected (v : Vec) (sh : Shape) (o : VOp) : List Nat :=
  (upFrom 0 sh.vl).filter (fun i => maskBit v sh o.a i && maskBit v sh o.m i)

/-- The instructions of major VMASK at the lanes (R184). Element groups of an instruction on masks alone are counted by the
width in vtype, though it reads none: R175 names no other (DESIGN CHOICE, log 171). -/
def maskLane (sh : Shape) (o : VOp) : LaneSpec :=
  match o.fn with
  | 4 => { masks := decide (o.a ≠ 0 ∨ o.m ≠ 0), ew := sh.ew, effect := fromVec (fun v =>
      match (selected v sh o).head? with
      | some i => word i
      | none => BitVec.allOnes 64) }
  | 5 => { masks := decide (o.a ≠ 0 ∨ o.m ≠ 0), ew := sh.ew, effect := fromVec (fun v =>
      word (selected v sh o).length) }
  | 6 => { masks := true, ew := sh.ew, effect := onVec (fun v =>
      v.writeMask sh o (fun i => decide (i < (o.val 0).toNat))) }
  | 7 => { writes := [(o.d, sh.g)], align := [(o.d, sh.g, sh.g)], masks := decide (o.m ≠ 0), ew := sh.ew
           effect := onVec (fun v => v.writeEls sh o sh.g sh.ew (fun i => i)) }
  | 8 => { threeGroups sh o with effect := onVec (fun v =>
      let ga := v.grps sh o.a sh.g
      let gb := v.grps sh o.b sh.g
      let sel := maskBit v sh o.m
      v.writeEls sh { o with m := 0 } sh.g sh.ew (fun i =>
        if sel i then elAt sh sh.ew ga i else elAt sh sh.ew gb i)) }
  | n => { masks := true, ew := sh.ew, effect := onVec (fun v =>
      let x := maskBit v sh o.a
      let y := maskBit v sh o.b
      v.writeMask sh o (fun i =>
        match n with
        | 0 => x i && y i
        | 1 => x i || y i
        | 2 => x i != y i
        | _ => !x i)) }

/-- VCMPEQ. -/
def execVcmpeq (x : VF) (s : State) : Host.Outcome State Fault Refusal :=
  issueVec { reason := reasonVcmpeq x, code := wordVF 0x20 0 x } s
/-- VCMPNE. -/
def execVcmpne (x : VF) (s : State) : Host.Outcome State Fault Refusal :=
  issueVec { reason := reasonVcmpeq x, code := wordVF 0x20 1 x } s
/-- VCMPLT. -/
def execVcmplt (x : VF) (s : State) : Host.Outcome State Fault Refusal :=
  issueVec { reason := reasonVcmpeq x, code := wordVF 0x20 2 x } s
/-- VCMPLE. -/
def execVcmple (x : VF) (s : State) : Host.Outcome State Fault Refusal :=
  issueVec { reason := reasonVcmpeq x, code := wordVF 0x20 3 x } s
/-- VCMPLTU. -/
def execVcmpltu (x : VF) (s : State) : Host.Outcome State Fault Refusal :=
  issueVec { reason := reasonVcmpeq x, code := wordVF 0x20 4 x } s
/-- VCMPLEU. -/
def execVcmpleu (x : VF) (s : State) : Host.Outcome State Fault Refusal :=
  issueVec { reason := reasonVcmpeq x, code := wordVF 0x20 5 x } s
/-- VFCMPEQ. -/
def execVfcmpeq (x : VF) (s : State) : Host.Outcome State Fault Refusal :=
  issueVec { reason := reasonVfcmpeq x, code := wordVF 0x20 6 x, fmt := some x.f } s
/-- VFCMPLT. -/
def execVfcmplt (x : VF) (s : State) : Host.Outcome State Fault Refusal :=
  issueVec { reason := reasonVfcmpeq x, code := wordVF 0x20 7 x, fmt := some x.f } s
/-- VFCMPLE. -/
def execVfcmple (x : VF) (s : State) : Host.Outcome State Fault Refusal :=
  issueVec { reason := reasonVfcmpeq x, code := wordVF 0x20 8 x, fmt := some x.f } s
/-- VFCMPUN. -/
def execVfcmpun (x : VF) (s : State) : Host.Outcome State Fault Refusal :=
  issueVec { reason := reasonVfcmpeq x, code := wordVF 0x20 9 x, fmt := some x.f } s
/-- MAND. -/
def execMand (x : VF) (s : State) : Host.Outcome State Fault Refusal :=
  issueVec { reason := reasonMand x, code := wordVF 0x21 0 x } s
/-- MOR. -/
def execMor (x : VF) (s : State) : Host.Outcome State Fault Refusal :=
  issueVec { reason := reasonMand x, code := wordVF 0x21 1 x } s
/-- MXOR. -/
def execMxor (x : VF) (s : State) : Host.Outcome State Fault Refusal :=
  issueVec { reason := reasonMand x, code := wordVF 0x21 2 x } s
/-- MNOT. -/
def execMnot (x : VF) (s : State) : Host.Outcome State Fault Refusal :=
  issueVec { reason := reasonMnot x, code := wordVF 0x21 3 x } s
/-- MFFS. -/
def execMffs (x : VF) (s : State) : Host.Outcome State Fault Refusal :=
  issueVec { reason := reasonMffs x, code := wordVF 0x21 4 x, dst := [x.vd] } s
/-- MPOP. -/
def execMpop (x : VF) (s : State) : Host.Outcome State Fault Refusal :=
  issueVec { reason := reasonMffs x, code := wordVF 0x21 5 x, dst := [x.vd] } s
/-- MSET. -/
def execMset (x : VF) (s : State) : Host.Outcome State Fault Refusal :=
  issueVec { reason := reasonMset x, code := wordVF 0x21 6 x, srcs := [x.va] } s
/-- VIDX. -/
def execVidx (x : VF) (s : State) : Host.Outcome State Fault Refusal :=
  issueVec { reason := zeroVFFVbVa x, code := wordVF 0x21 7 x, cvd := some x.vd } s
/-- VMSEL. -/
def execVmsel (x : VF) (s : State) : Host.Outcome State Fault Refusal :=
  issueVec { reason := reasonVmsel x, code := wordVF 0x21 8 x, cvd := some x.vd } s

end Sys2Proof.Machine
end

