-- ==== Sys2Proof/Machine/VecPerm.lean ====
section
/-! DEFINITION. Machine/VecPerm.lean: permutes (R185), the exchange between segments (R186), key rank and histogram
(R187). -/

namespace Sys2Proof.Machine

/-- The result of a permute for element `i` (R185, R186); `keep` is the element's old value, and `rank` the number of
active elements of the segment below an element. -/
def permEl (sh : Shape) (o : VOp) (ga gb : List Nat) (rank : Nat → Nat) (i keep : Nat) : Nat :=
  let j := i / sh.seg
  let k := i % sh.seg
  let s := (o.val 0).toNat
  let from_ (q : Nat) : Nat := elAt sh sh.ew ga (j * sh.seg + q)
  match o.fn with
  | 0 => let q := elAt sh sh.ew gb i
         if q < segLen sh j then from_ q else 0
  | 1 => if s ≤ k then from_ (k - s) else keep
  | 2 => if k + s < segLen sh j then from_ (k + s) else 0
  | 4 => from_ (rank i)
  | 5 => s
  | 9 => let src := (j + s) % sh.segs * sh.seg + k
         if src < sh.vl then elAt sh sh.ew ga src else 0
  | _ => elAt sh sh.ew ga i

/-- Numbers of selected indices below each index of a range, as a list, from a count on. -/
def prefixCounts (sel : Nat → Bool) : List Nat → Nat → List Nat
  | [], _ => []
  | i :: rest, n => n :: prefixCounts sel rest (if sel i then n + 1 else n)

/-- A permute over the vector context (R185, R186). -/
def permVec (sh : Shape) (o : VOp) (v : Vec) : Vec :=
  let ga := v.grps sh o.a sh.g
  let gb := v.grps sh o.b sh.g
  let gd := v.grps sh o.d sh.g
  let sel := maskBit v sh o.m
  let ranks := (List.range sh.segs).flatMap (fun j => prefixCounts sel (upFrom (j * sh.seg) sh.seg) 0)
  let rank (i : Nat) : Nat := if o.fn = 4 then ranks.getD i 0 else 0
  v.writeEls sh o sh.g sh.ew (fun i => permEl sh o ga gb rank i (elAt sh sh.ew gd i))

/-- VCMPR: the active elements of each segment packed to its front; the rest of the segment below vl and the tail are
zeroed with tz (R185). -/
def compressVec (sh : Shape) (o : VOp) (v : Vec) : Vec :=
  let ga := v.grps sh o.a sh.g
  let sel := maskBit v sh o.m
  let seg (gs : List Nat) (j : Nat) : List Nat :=
    let act := ((upFrom (j * sh.seg) (segLen sh j)).filter sel).map (elAt sh sh.ew ga)
    let gs1 := (act.zip (upFrom (j * sh.seg) act.length)).foldl (fun gs e => putAt sh sh.ew gs e.2 e.1) gs
    if sh.tz then (upFrom (j * sh.seg + act.length) (sh.seg - act.length)).foldl (fun gs i => putAt sh sh.ew gs i 0) gs1
    else gs1
  if sh.vl = 0 then v
  else (v.putGrps sh o.d sh.g ((List.range sh.segs).foldl seg (v.grps sh o.d sh.g))).wrote sh

/-- VKRANK: how many active elements before each have its key (R187). -/
def rankVec (sh : Shape) (o : VOp) (v : Vec) : Vec :=
  let keys := (upFrom 0 sh.vl).map (elAt sh sh.ew (v.grps sh o.a sh.g))
  let sel := maskBit v sh o.m
  v.writeEls sh o sh.g sh.ew (fun i =>
    ((upFrom 0 i).filter (fun e => sel e && keys.getD e 0 == keys.getD i 0)).length)

/-- VHIST: how many active elements have each key; the mask does not gate the writes (R187). -/
def histVec (sh : Shape) (o : VOp) (v : Vec) : Vec :=
  let sel := maskBit v sh o.m
  let keys := ((upFrom 0 sh.vl).filter sel).map (elAt sh sh.ew (v.grps sh o.a sh.g))
  v.writeEls sh { o with m := 0 } sh.g sh.ew (fun k => (keys.filter (· == k)).length)

/-- The instructions of major VPERM at the lanes (R169, R171, R185 to R187). VMVXS and VMVSX, which move one element, count
no element group of R175 (DESIGN CHOICE, log 171); VMVSX reads va, and so pops a bound one, also where x is VLMAX or more
(DESIGN CHOICE, log 173). -/
def permLane (sh : Shape) (o : VOp) : LaneSpec :=
  let g := sh.g
  let moved (srcs : List Nat) (key : Bool) (f : Vec → Vec) : LaneSpec :=
    { reads := srcs.map (fun r => (r, g)), writes := [(o.d, g)]
      align := (o.d, g, g) :: srcs.map (fun r => (r, g, g)), masks := decide (o.m ≠ 0), ew := sh.ew
      bad := [(8, key && decide (sh.ew < 8)), (10, srcs.any (fun r => overlap o.d g r g)),
        (11, decide (sh.vstart ≠ 0))]
      effect := onVec f }
  match o.fn with
  | 0 => moved [o.a, o.b] false (permVec sh o)
  | 3 => moved [o.a] false (compressVec sh o)
  | 5 => { writes := [(o.d, g)], align := [(o.d, g, g)], masks := decide (o.m ≠ 0), ew := sh.ew
           effect := onVec (permVec sh o) }
  | 6 => { writes := if (o.val 1).toNat < sh.max then [(o.d, g)] else [], names := [(o.d, g)], align := [(o.d, g, g)], always := true
           effect := fun s v =>
             let x := (o.val 1).toNat
             if x < sh.max then
               .ok s (v.putGrps sh o.d g (putAt sh sh.ew (v.grps sh o.d g) x (o.val 0).toNat)).dirtyVec []
             else .ok s v [] }
  | 7 => { reads := [(o.a, g)], align := [(o.a, g, g)], always := true
           effect := fun s v =>
             let x := (o.val 0).toNat
             .ok s v [if x < sh.max then word (truncI 64 (sextN sh.ew (elAt sh sh.ew (v.grps sh o.a g) x))) else 0] }
  | 8 => { twoGroups sh o with effect := onVec (permVec sh o) }
  | 10 => moved [o.a] true (rankVec sh o)
  | 11 => moved [o.a] true (histVec sh o)
  | _ => moved [o.a] false (permVec sh o)

/-- VPERM. -/
def execVperm (x : VF) (s : State) : Host.Outcome State Fault Refusal :=
  issueVec { reason := zeroVFF x, code := wordVF 0x22 0 x, cvd := some x.vd } s
/-- VSLUP. -/
def execVslup (x : VF) (s : State) : Host.Outcome State Fault Refusal :=
  issueVec { reason := zeroVFF x, code := wordVF 0x22 1 x, srcs := [x.vb], cvd := some x.vd } s
/-- VSLDN. -/
def execVsldn (x : VF) (s : State) : Host.Outcome State Fault Refusal :=
  issueVec { reason := zeroVFF x, code := wordVF 0x22 2 x, srcs := [x.vb], cvd := some x.vd } s
/-- VCMPR. -/
def execVcmpr (x : VF) (s : State) : Host.Outcome State Fault Refusal :=
  issueVec { reason := zeroVFFVb x, code := wordVF 0x22 3 x, cvd := some x.vd } s
/-- VEXPD. -/
def execVexpd (x : VF) (s : State) : Host.Outcome State Fault Refusal :=
  issueVec { reason := zeroVFFVb x, code := wordVF 0x22 4 x, cvd := some x.vd } s
/-- VBCST. -/
def execVbcst (x : VF) (s : State) : Host.Outcome State Fault Refusal :=
  issueVec { reason := zeroVFFVb x, code := wordVF 0x22 5 x, srcs := [x.va], cvd := some x.vd } s
/-- VMVXS. -/
def execVmvxs (x : VF) (s : State) : Host.Outcome State Fault Refusal :=
  issueVec { reason := zeroVFFM x, code := wordVF 0x22 6 x, srcs := [x.va, x.vb], cvd := some x.vd } s
/-- VMVSX. -/
def execVmvsx (x : VF) (s : State) : Host.Outcome State Fault Refusal :=
  issueVec { reason := zeroVFFM x, code := wordVF 0x22 7 x, srcs := [x.vb], dst := [x.vd] } s
/-- VMOV. -/
def execVmov (x : VF) (s : State) : Host.Outcome State Fault Refusal :=
  issueVec { reason := zeroVFFVb x, code := wordVF 0x22 8 x, cvd := some x.vd } s
/-- VXCHG. -/
def execVxchg (x : VF) (s : State) : Host.Outcome State Fault Refusal :=
  issueVec { reason := zeroVFF x, code := wordVF 0x22 9 x, srcs := [x.vb], cvd := some x.vd } s
/-- VKRANK. -/
def execVkrank (x : VF) (s : State) : Host.Outcome State Fault Refusal :=
  issueVec { reason := zeroVFFVb x, code := wordVF 0x22 10 x, cvd := some x.vd } s
/-- VHIST. -/
def execVhist (x : VF) (s : State) : Host.Outcome State Fault Refusal :=
  issueVec { reason := zeroVFFVb x, code := wordVF 0x22 11 x, cvd := some x.vd } s

end Sys2Proof.Machine
end

