-- ==== Sys2Proof/Machine/VecRed.lean ====
section
/-! DEFINITION. Machine/VecRed.lean: reductions to a scalar (R130, R171, R188). -/

namespace Sys2Proof.Machine

/-- The active elements of va, in order (R188). -/
def activeEls (sh : Shape) (o : VOp) (v : Vec) : List Nat :=
  let ga := v.grps sh o.a sh.g
  let sel := maskBit v sh o.m
  ((upFrom 0 sh.vl).filter sel).map (elAt sh sh.ew ga)

/-- An integer reduction (R188). -/
def redInt (fn : Nat) (signed : Bool) (w : Nat) (init : Word) (xs : List Nat) : Word :=
  let t : IntTy := ⟨w, signed⟩
  let i : Int := if signed then init.toInt else init.toNat
  let vs := xs.map t.get
  word (truncI 64 (match fn with
    | 0 => vs.foldl (· + ·) i
    | 1 => vs.foldl max i
    | _ => vs.foldl min i))

/-- Two operands of VFREDF, each with its format, added and rounded once. -/
def addTwo (g : Gov) (fd : Nat) (a b : Nat × Nat) : Nat × Nat :=
  (fd, writeF g fd (addV g.rm (readF g a.1 a.2) (readF g b.1 b.2)))

/-- VFREDF: any full binary tree over the operands; which two are added next is left open (R130). -/
def treeSum (g : Gov) (fd : Nat) : Nat → Nat → List (Nat × Nat) → Nat
  | n + 1, occ, a :: b :: rest =>
    let l := a :: b :: rest
    let i := Config.freeNat occ % l.length
    let l1 := l.eraseIdx i
    let j := Config.freeNat (occ + 1) % l1.length
    treeSum g fd n (occ + 2) (l1.eraseIdx j ++ [addTwo g fd (l.getD i a) (l1.getD j b)])
  | _, _, [a] => a.2
  | _, _, _ => 0

/-- The instructions of major VRED at the lanes (R188). -/
def redLane (sh : Shape) (o : VOp) : LaneSpec :=
  let base : LaneSpec :=
    { reads := [(o.a, sh.g)], align := [(o.a, sh.g, sh.g)], masks := decide (o.m ≠ 0), ew := sh.ew
      effect := fun s v => .ok s v [] }
  let late : Nat × Bool := (11, decide (sh.vstart ≠ 0))
  if o.fn < 3 then
    { base with
      bad := [(8, decide (1 < o.f ∨ (o.f = 0 ∧ sh.ew = 6))), late]
      effect := fromVec (fun v => redInt o.fn (decide (o.f = 0)) sh.ew (o.val 0) (activeEls sh o v)) }
  else
    let fa := fmtA o.fmt
    let fd := fmtD o.fmt
    let g := fmtGov o.fmt
    { base with
      bad := [(9, fmtReserved o.fmt || decide (7 < fa ∨ fmtW fa ≠ sh.ew ∨ 2 < fd)), late]
      effect := fun s v =>
        let xs := activeEls sh o v
        let init := (o.val 0).toNat % 2 ^ fmtW fd
        match o.fn with
        | 3 => .ok s v [word (xs.foldl (fun acc x => (addTwo g fd (fd, acc) (fa, x)).2) init)]
        | 4 =>
          .ok { s with free := s.free + 2 * xs.length } v
            [word (treeSum g fd xs.length s.free ((fd, init) :: xs.map (fun x => (fa, x))))]
        | n =>
          let pick := if n = 5 then maxV else minV
          .ok s v [word (if xs = [] then init
            else writeF g fd (xs.foldl (fun acc x => pick acc (readF g fa x)) (readF g fd init)))] }

/-- VREDSUM. -/
def execVredsum (x : VF) (s : State) : Host.Outcome State Fault Refusal :=
  issueVec { reason := none, code := wordVF 0x23 0 x, srcs := [x.vb], dst := [x.vd] } s
/-- VREDMAX. -/
def execVredmax (x : VF) (s : State) : Host.Outcome State Fault Refusal :=
  issueVec { reason := none, code := wordVF 0x23 1 x, srcs := [x.vb], dst := [x.vd] } s
/-- VREDMIN. -/
def execVredmin (x : VF) (s : State) : Host.Outcome State Fault Refusal :=
  issueVec { reason := none, code := wordVF 0x23 2 x, srcs := [x.vb], dst := [x.vd] } s
/-- VFREDO. -/
def execVfredo (x : VF) (s : State) : Host.Outcome State Fault Refusal :=
  issueVec { reason := none, code := wordVF 0x23 3 x, fmt := some x.f, srcs := [x.vb], dst := [x.vd] } s
/-- VFREDF. -/
def execVfredf (x : VF) (s : State) : Host.Outcome State Fault Refusal :=
  issueVec { reason := none, code := wordVF 0x23 4 x, fmt := some x.f, srcs := [x.vb], dst := [x.vd] } s
/-- VFREDMAX. -/
def execVfredmax (x : VF) (s : State) : Host.Outcome State Fault Refusal :=
  issueVec { reason := none, code := wordVF 0x23 5 x, fmt := some x.f, srcs := [x.vb], dst := [x.vd] } s
/-- VFREDMIN. -/
def execVfredmin (x : VF) (s : State) : Host.Outcome State Fault Refusal :=
  issueVec { reason := none, code := wordVF 0x23 6 x, fmt := some x.f, srcs := [x.vb], dst := [x.vd] } s

end Sys2Proof.Machine
end

