-- ==== Sys2Proof/Machine/VecMem.lean ====
section
/-! DEFINITION. Machine/VecMem.lean: vector loads and stores (R156 to R166): element addresses, accesses one element after
another from vstart, faults at the lowest element, fault-only-first, and the sampler path. -/

namespace Sys2Proof.Machine

/-- The device slot whose core holds segment `j` of the vector of slot `k` (R55). -/
def segSlot (x : Slot) (k j : Nat) : Nat := if j = 0 then k else x.vec.segs.getD (j - 1) k

/-- The bit address of element `i`, field `f`, of a memory instruction with base `a` (R157). Stores have one function code
fewer than loads. -/
def elBit (sh : Shape) (o : VOp) (kind : Nat) (idx : List Nat) (i f : Nat) : Nat :=
  let n := sh.ew / 8
  let base := (o.val 0).toNat
  match kind with
  | 1 => 8 * (o.val 0 + word i * o.val 1).toNat
  | 2 => 8 * ((base + elAt sh sh.ew idx i * n) % 2 ^ 64)
  | 4 => 8 * ((base + (i * o.b + f) * n) % 2 ^ 64)
  | 5 => (8 * base + (o.val 1).toNat + i * sh.ew) % 2 ^ 67
  | _ => (8 * base + i * sh.ew) % 2 ^ 67

/-- The byte accesses of an element at a bit address: one access of its width when it is made of whole bytes and not
bit-offset, and otherwise byte by byte (R157, R158). -/
def elPieces (ew : Nat) (bytewise : Bool) (bitA : Nat) : List (Word × Nat) :=
  if bytewise = false ∧ 8 ≤ ew then [(word (bitA / 8), ew / 8)]
  else (upFrom 0 ((bitA % 8 + ew + 7) / 8)).map (fun t => (word (bitA / 8 + t), 1))

/-- The accesses of an element located by the core of its segment (R159), one after the other, or the first cause. -/
def locateAll (s : State) (k core : Nat) (w : Want) : List (Word × Nat) → List (Loc × Nat) → State × Found (List (Loc × Nat))
  | [], got => (s, .ok got)
  | (va, n) :: rest, got =>
    match resolveAt s k core (s.slot k).asidN (s.slot k).sys.ptbase va { w with user := !(s.slot k).spv } with
    | (s1, .bad c r l) => (s1, .bad c r l)
    | (s1, .ok loc) => locateAll s1 k core w rest (got ++ [(loc, n)])

/-- An element's accesses located after its alignment check (R158). -/
def locateEl (s : State) (k core : Nat) (w : Want) (ew : Nat) (bytewise : Bool) (bitA : Nat) :
    State × Found (List (Loc × Nat)) :=
  if bytewise = false ∧ 8 ≤ ew ∧ bitA / 8 % (ew / 8) ≠ 0 then (s, .bad 0x13 3 0)
  else locateAll s k core w (elPieces ew bytewise bitA) []

/-- The bytes at a location as an element access of a cluster reads them; of a device register, behind the stores that the
instruction has made to it. -/
def elBytes (s : State) (cluster : Nat) (l : Loc) (n : Nat) : List Byte :=
  if l.kind = 4 then ((devRead s l.key n).zip (upFrom l.key n)).map (fun e => forwardByte (pendingStores s) e.2 e.1)
  else peekLoc s cluster l n

/-- An element read. -/
def readEl (s : State) (k cluster : Nat) (ew bitA : Nat) (ls : List (Loc × Nat)) : State × Nat :=
  let bs := ls.flatMap (fun e => elBytes s cluster e.1 e.2)
  (ls.foldl (fun s e => poisoned (touchLoc s k cluster e.1 e.2) (s.slot k).asidN e.1 e.2) s,
    ofLe bs >>> (bitA % 8) % 2 ^ ew)

/-- An element written: bytes that it covers only in part are merged (R158). -/
def storeEl (s : State) (k cluster : Nat) (ew bitA v : Nat) (ls : List (Loc × Nat)) : State :=
  let old := ofLe (ls.flatMap (fun e => elBytes s cluster e.1 e.2))
  let sh := bitA % 8
  let new := old ^^^ (((old >>> sh) % 2 ^ ew ^^^ v % 2 ^ ew) <<< sh)
  (ls.foldl (fun (a : State × Nat) e =>
    let bs := toLe e.2 (new >>> (8 * a.2))
    (writeAt (noteFill a.1 k e.1 e.2) cluster e.1 bs, a.2 + e.2))
    (s, 0)).1

/-- A line filled into a core's sampler cache, which holds 512 lines (R284); the lines that leave stay allowed values (R162). -/
def samplerFill (c : CoreSt) (line : Nat) (bytes : List Byte) : CoreSt :=
  let cache := cacheInsert c.sampler (512 - rd 0 c.ways 1000) ⟨0, line, bytes⟩
  { c with sampler := cache, sampled := c.sampled ++ c.sampler.filter (fun d => !cache.contains d && !c.sampled.contains d) }

/-- The bytes of a line that an element read through a core's sampler cache returns (R162, R284): those of a coherent load, or those of
an earlier read since the last FSMP that covered the core. Which is open, for each element. -/
def samplerLine (s : State) (core line : Nat) : State × List Byte :=
  let fresh := fillBytes s (core / 192) line
  let c := s.core core
  let olds := ((c.sampler ++ c.sampled).filter (fun d => d.line == line && d.bytes != fresh)).map (fun d => d.bytes)
  let fill (s : State) : State :=
    if c.sampler.any (fun d => d.line == line && d.bytes == fresh) then s else s.onCore core (fun c => samplerFill c line fresh)
  match olds with
  | [] => (fill s, fresh)
  | o :: _ =>
    let i := Config.freeNat s.free % (olds.length + 1)
    let s1 := { s with free := s.free + 1 }
    if i = olds.length then (fill s1, fresh) else (s1, olds.getD i o)

/-- The bytes that a sampler-path read of core `core` returns at a location; an aligned access lies in one line. A location that
the device does not cache is read where it lies (R281, R288). -/
def samplerRead (s : State) (core : Nat) (l : Loc) (n : Nat) : State × List Byte :=
  if l.disc then (s, List.replicate n 0)
  else if l.kind = 4 then (s, devRead s l.key n)
  else if l.kind = 3 then (s, rdMany unlistedByte s.mem l.key n)
  else
    let p := samplerLine s core (l.key / 64)
    (p.1, (p.2.drop (l.key % 64)).take n)

/-- A load: 0 for the plain path, 1 for the sampler path. -/
def loadEl (s : State) (k seg : Nat) (sampler : Bool) (ew bitA : Nat) (ls : List (Loc × Nat)) : State × Nat :=
  if sampler then
    match ls with
    | (l, n) :: _ =>
      let p := samplerRead s (coreOf seg) l n
      (poisoned p.1 (s.slot k).asidN l n, ofLe p.2)
    | [] => (s, 0)
  else readEl s k (clusterOf seg) ew bitA ls

/-- What a memory instruction is: its address kind, its fields, whether it stores, its path. -/
structure MemForm where
  kind : Nat
  nf : Nat
  store : Bool
  sampler : Bool
  first : Bool
  deriving DecidableEq, Repr

/-- The form of a load or store (R157). -/
def memForm (o : VOp) : MemForm :=
  if o.op = 0x19 then
    { kind := if o.fn = 3 ∨ o.fn = 6 then 0 else o.fn, nf := if o.fn = 4 then o.b else 1, store := false
      sampler := decide (o.fn = 6), first := decide (o.fn = 3) }
  else
    { kind := if 3 ≤ o.fn then o.fn + 1 else o.fn, nf := if o.fn = 3 then o.b else 1, store := true
      sampler := false, first := false }

/-- What the accesses of an instruction need of a page. -/
def memWant (m : MemForm) : Want := if m.store then wantWrite else if m.sampler then wantSampler else wantRead

/-- The loop over the elements of an instruction: the state, the groups of each field, and the element that failed with
its cause, if one did. -/
structure MemAcc where
  s : State
  gs : List (List Nat)
  fail : Option (Nat × Cause)

/-- The cause of a failed element access (R166, R448). -/
def elCause (bitA code reason level : Nat) (write : Bool) (i : Nat) : Cause :=
  ⟨code, word (bitA / 8), impInfo reason level (wrOf code reason write && !(code == 0x16 && reason == 7)) i⟩

/-- An element store that a register of the device range refuses (R385). -/
def elRefused (s : State) (cluster ew bitA v : Nat) (ls : List (Loc × Nat)) : Bool :=
  ls.any (fun e => e.1.kind == 4) &&
    (let old := ofLe (ls.flatMap (fun e => elBytes s cluster e.1 e.2))
     let new := old ^^^ (((old >>> (bitA % 8)) % 2 ^ ew ^^^ v % 2 ^ ew) <<< (bitA % 8))
     storeRefused s (pendingStores s) ((ls.head?.map (fun e => e.1.key)).getD 0) (toLe ((ls.map Prod.snd).sum) new))

/-- One field of one element (R156). -/
def memField (x : Slot) (k : Nat) (sh : Shape) (o : VOp) (m : MemForm) (idx : List Nat) (i : Nat) (a : MemAcc) (f : Nat) :
    MemAcc :=
  match a.fail with
  | some _ => a
  | none =>
    let bitA := elBit sh o m.kind idx i f
    let seg := segSlot x k (i / sh.seg)
    match locateEl a.s k (coreOf seg) (memWant m) sh.ew (decide (m.kind = 5)) bitA with
    | (s1, .bad c r l) => { a with s := s1, fail := some (i, elCause bitA c r l m.store i) }
    | (s1, .ok ls) =>
      if m.store = true ∧ elRefused s1 (clusterOf seg) sh.ew bitA (elAt sh sh.ew (a.gs.getD f []) i) ls = true then
        { a with s := s1, fail := some (i, laneFault sh o.pc 5) }
      else if m.store then
        { a with s := storeEl s1 k (clusterOf seg) sh.ew bitA (elAt sh sh.ew (a.gs.getD f []) i) ls }
      else
        let p := loadEl s1 k seg m.sampler sh.ew bitA ls
        { a with s := p.1, gs := a.gs.modify f (fun g => putAt sh sh.ew g i p.2) }

/-- One element: a masked-off one performs no access (R156). -/
def memElement (x : Slot) (k : Nat) (sh : Shape) (o : VOp) (m : MemForm) (idx : List Nat) (active : Nat → Bool)
    (a : MemAcc) (i : Nat) : MemAcc :=
  match a.fail with
  | some _ => a
  | none =>
    if active i then (upFrom 0 m.nf).foldl (memField x k sh o m idx i) a
    else if m.store = false ∧ sh.mz = true then { a with gs := a.gs.map (fun g => putAt sh sh.ew g i 0) }
    else a

/-- The groups of each field of a load after the tail policy. -/
def memTail (sh : Shape) (vl : Nat) (gs : List (List Nat)) : List (List Nat) :=
  if sh.tz then gs.map (fun g => (upFrom vl (sh.max - vl)).foldl (fun g i => putAt sh sh.ew g i 0) g) else gs

/-- The groups of the fields of an instruction. -/
def memGroups (v : Vec) (sh : Shape) (o : VOp) (m : MemForm) : List (List Nat) :=
  (upFrom 0 m.nf).map (fun f => v.grps sh (o.d + f * sh.g) sh.g)
/-- The groups of a load written. -/
def putMemGroups (v : Vec) (sh : Shape) (o : VOp) (gs : List (List Nat)) : Vec :=
  ((gs.zip (upFrom 0 gs.length)).foldl (fun v e => v.putGrps sh (o.d + e.2 * sh.g) sh.g e.1) v).dirtyVec

/-- The scalar side's copy of vl takes a value that the vector unit reports, in the registers and in the checkpoint of an
open chunk (R145, R153, R161). -/
def reportVl (x : Slot) (vl : Word) : Slot :=
  { x with
    regs := { x.regs with vl := vl }
    chunk := { x.chunk with ckpt := x.chunk.ckpt.map (fun r => { r with vl := vl }) } }

/-- A new vl or vtype of the vector unit also governs the held entries that follow in the queue (R153, R436). -/
def recapture (x : Slot) (vl : Word) (vt : Option Word) : Slot :=
  { x with vq := x.vq.map (fun e => { e with cap := e.cap.map (fun c => (vl, vt.getD c.2)) }) }

/-- A vector load or store (R156, R161). One that would store a value which a device register refuses raises its cause before
any byte is written (R385, R436). -/
def memEffect (k : Nat) (sh : Shape) (o : VOp) (s : State) (v : Vec) : Eff :=
  let m := memForm o
  let report (s : State) (vl : Nat) : State :=
    if m.first then s.onSlot k (fun x => reportVl x (word vl)) else s
  if sh.vl = 0 then .ok (report s 0) { v with vstart := 0 } [] else
  let x := s.slot k
  let idx := if m.kind = 2 then v.grps sh o.b sh.g else []
  let a := (upFrom sh.vstart (sh.vl - sh.vstart)).foldl (memElement x k sh o m idx (maskBit v sh o.m))
    ⟨s, memGroups v sh o m, none⟩
  let put (gs : List (List Nat)) : Vec := if m.store then v else putMemGroups v sh o gs
  match a.fail with
  | none => .ok (report a.s sh.vl) { put (memTail sh sh.vl a.gs) with vstart := 0 } []
  | some (i, c) =>
    if c.code = 0x12 then .stop s v c
    else if m.first = true ∧ sh.vstart < i then
      let t := if c.code = 0x18 then a.s.count k 16 else a.s
      .ok (report (t.onSlot k (fun x => recapture x (word i) none)) i)
        { put (memTail sh i a.gs) with vstart := 0, vl := word i } []
    else .stop a.s { put a.gs with vstart := word i } c

/-- The instructions of majors VLOAD and VSTORE at the lanes (R150, R157, R163, R165). -/
def memLane (k : Nat) (sh : Shape) (o : VOp) : LaneSpec :=
  let m := memForm o
  let data := (o.d, sh.g * m.nf)
  let idx := if m.kind = 2 then [(o.b, sh.g)] else []
  { reads := (if m.store then [data] else []) ++ idx, writes := if m.store then [] else [data]
    align := (o.d, sh.g, sh.g * m.nf) :: idx.map (fun e => (e.1, sh.g, sh.g)), masks := decide (o.m ≠ 0)
    ew := sh.ew, dirties := if m.store then [data] else []
    bad := [(8, decide (sh.ew < 8) && !(decide (m.kind = 5) || decide (o.fn = 0)))]
    effect := memEffect k sh o }

/-- VLD. -/
def execVld (x : VMF) (s : State) : Host.Outcome State Fault Refusal :=
  issueVec { reason := zeroVMFB x, code := wordVMF 0x19 0 x, srcs := [x.a], cvd := some x.vd } s
/-- VLDS. -/
def execVlds (x : VMF) (s : State) : Host.Outcome State Fault Refusal :=
  issueVec { reason := none, code := wordVMF 0x19 1 x, srcs := [x.a, x.b], cvd := some x.vd } s
/-- VLDG. -/
def execVldg (x : VMF) (s : State) : Host.Outcome State Fault Refusal :=
  issueVec { reason := none, code := wordVMF 0x19 2 x, srcs := [x.a], cvd := some x.vd } s
/-- VLDFF. -/
def execVldff (x : VMF) (s : State) : Host.Outcome State Fault Refusal :=
  issueVec { reason := zeroVMFB x, code := wordVMF 0x19 3 x, srcs := [x.a], cvd := some x.vd } s
/-- VLDSEG. -/
def execVldseg (x : VMF) (s : State) : Host.Outcome State Fault Refusal :=
  issueVec { reason := reasonVldseg x, code := wordVMF 0x19 4 x, srcs := [x.a], cvd := some x.vd } s
/-- VLDB. -/
def execVldb (x : VMF) (s : State) : Host.Outcome State Fault Refusal :=
  issueVec { reason := none, code := wordVMF 0x19 5 x, srcs := [x.a, x.b], cvd := some x.vd } s
/-- VLDC. -/
def execVldc (x : VMF) (s : State) : Host.Outcome State Fault Refusal :=
  issueVec { reason := zeroVMFB x, code := wordVMF 0x19 6 x, srcs := [x.a], cvd := some x.vd } s
/-- VST. -/
def execVst (x : VMF) (s : State) : Host.Outcome State Fault Refusal :=
  issueVec { reason := zeroVMFB x, code := wordVMF 0x1A 0 x, srcs := [x.a] } s
/-- VSTS. -/
def execVsts (x : VMF) (s : State) : Host.Outcome State Fault Refusal :=
  issueVec { reason := none, code := wordVMF 0x1A 1 x, srcs := [x.a, x.b] } s
/-- VSTSC. -/
def execVstsc (x : VMF) (s : State) : Host.Outcome State Fault Refusal :=
  issueVec { reason := none, code := wordVMF 0x1A 2 x, srcs := [x.a] } s
/-- VSTSEG. -/
def execVstseg (x : VMF) (s : State) : Host.Outcome State Fault Refusal :=
  issueVec { reason := reasonVldseg x, code := wordVMF 0x1A 3 x, srcs := [x.a] } s
/-- VSTB. -/
def execVstb (x : VMF) (s : State) : Host.Outcome State Fault Refusal :=
  issueVec { reason := none, code := wordVMF 0x1A 4 x, srcs := [x.a, x.b] } s

end Sys2Proof.Machine
end

