-- ==== Sys2Proof/Machine/Matrix.lean ====
section
/-! DEFINITION. Machine/Matrix.lean: tile shapes (R191 to R194, R203), TLDB (R195), tile passes with exact sums, promotion
and free runs (R127, R128, R196 to R198), pair passes (R199, R200, R472), accumulator access (R201) and MMSX (R129, R202
to R204). -/

namespace Sys2Proof.Machine

/-! The mode of the last TSET (R191). -/

/-- Mode of tmode: 0 compute-in-memory, 1 pair, 2 register. -/
def Vec.tileMode (v : Vec) : Nat := fieldOf v.tmode 9 8
/-- A and B are i8. -/
def Vec.tileI8 (v : Vec) : Bool := v.tmode.getLsbD 10
/-- Format code of A. -/
def Vec.tileA (v : Vec) : Nat := fieldOf v.tmode 3 0
/-- Format code of B. -/
def Vec.tileB (v : Vec) : Nat := fieldOf v.tmode 7 4
/-- Rows of the granted tile. -/
def Vec.rowsM (v : Vec) : Nat := v.tm.toNat
/-- Columns of the granted tile. -/
def Vec.colsN (v : Vec) : Nat := v.tn.toNat
/-- Depth of the granted tile. -/
def Vec.depthK (v : Vec) : Nat := v.tk.toNat
/-- Width of an operand of format `c`. -/
def tileW (i8 : Bool) (c : Nat) : Nat := if i8 then 8 else fmtW c
/-- An operand of a pass, exactly; an i8 element of an MX block is a multiple of 1/64 (R108, R124, R197). -/
def tileEl (mx i8 : Bool) (g : Gov) (c x : Nat) : FVal :=
  if i8 then (if mx then .num (decide (sextN 8 x < 0)) (sextN 8 x).natAbs (-6) else ofIntV (sextN 8 x))
  else readF g c x

/-- Element formats of a tile (R193). -/
def tileCode (c : Nat) : Bool := decide (3 ≤ c ∧ c ≤ 7)
/-- The format combination is one that TSET accepts for a mode (R193). -/
def tileCodesOk (mode : Nat) (i8 : Bool) (fa fb : Nat) : Bool :=
  i8 || (tileCode fa && tileCode fb) || decide (mode < 2 ∧ fa = 1 ∧ fb = 1)

/-! TSET (R193, R194). -/

/-- The largest power of two no greater than a positive number. -/
def p2 (x : Nat) : Nat := 2 ^ Nat.log2 x
/-- The tile of MMSX fits its groups of `cap` bits (R203). -/
def tileFits (cap wa wb tm tn tk : Nat) : Bool := decide (tm * tk * wa ≤ cap ∧ tk * tn * wb ≤ cap ∧ tm * tn * 32 ≤ cap)
/-- The loop of the register mode; its grant starts at 16, 16 and 64 or less, so that 16 rounds are enough (R194). -/
def shrinkTile (cap wa wb : Nat) : Nat → Nat × Nat × Nat → Nat × Nat × Nat
  | 0, t => t
  | n + 1, (gm, gn, gk) =>
    if tileFits cap wa wb gm gn gk then (gm, gn, gk)
    else shrinkTile cap wa wb n
      (if gm = 1 ∧ gn = 1 then (gm, gn, gk / 2) else if gn ≤ gm then (gm / 2, gn, gk) else (gm, gn / 2, gk))
/-- The tile granted for a request (R194). -/
def grantTile (mode : Nat) (i8 : Bool) (fa fb vlmax cap m n k : Nat) : Nat × Nat × Nat :=
  if m = 0 ∨ n = 0 ∨ k = 0 then (0, 0, 0)
  else if mode < 2 then
    let gk := min k (if mode = 0 then 128 else 256)
    (min (min m 128) (min (vlmax / gk) (cap / 32)), min n (if fa = 1 ∧ i8 = false then 64 else 128), gk)
  else shrinkTile cap (tileW i8 fa) (tileW i8 fb) 16 (p2 (min m 16), p2 (min n 16), min k 64)

/-- TSET at the lanes. -/
def tsetLane (sh : Shape) (o : VOp) : LaneSpec :=
  let i8 := decide (o.b % 2 = 1)
  let fa := fmtA o.fmt
  let fb := fmtB o.fmt
  { always := true
    bad := [(13, decide (sh.segs ≠ 1)),
      (9, fmtReserved o.fmt || !tileCodesOk o.m i8 fa fb || decide (fmtD o.fmt ≠ 0) ||
        decide (o.m < 2 ∧ sh.ew ≠ tileW i8 fa))]
    effect := fun s v =>
      let t := grantTile o.m i8 fa fb sh.max (sh.w * sh.g) (o.val 0).toNat (o.val 1).toNat (o.val 2).toNat
      .ok s { v.dirtyAcc with
        tm := word t.1, tn := word t.2.1, tk := word t.2.2
        tmode := word (b2n i8 * 1024 + o.m * 256 + (if i8 then 0 else fb * 16 + fa)) }
        [word t.1, word t.2.1, word t.2.2] }

/-! TLDB (R195). -/

/-- Bytes read one piece after the other, or the first cause with its address and the offset of its piece. -/
def readPieces (s : State) (k : Nat) : List (Word × Nat) → List Byte → State × (List Byte ⊕ (Nat × Nat × Nat × Word × Nat))
  | [], got => (s, .inl got)
  | (va, n) :: rest, got =>
    match resolveFor s k va wantRead with
    | (s1, .bad c r l) => (s1, .inr (c, r, l, va, got.length))
    | (s1, .ok loc) =>
      readPieces (poisoned (touchLoc s1 k (clusterOf k) loc n) (s1.slot k).asidN loc n) k rest
        (got ++ elBytes s1 (clusterOf k) loc n)

/-- Bytes of a cell of the block: two for BF16, one for the others (R259). -/
def cellBytes (v : Vec) : Nat := if v.tileI8 = false ∧ v.tileB = 1 then 2 else 1
/-- Cell (t, j) of the block as B's operand. A row holds 128 bytes (R259), so that of a BF16 tile with more than 64 columns,
which SYSWR of tn or tmode can set up, a row runs on into the next (DESIGN CHOICE, log 176). -/
def blkCell (v : Vec) (blk : Store Byte) (t j : Nat) : Nat :=
  ofLe (rdMany 0 blk (128 * t + cellBytes v * j) (cellBytes v)) % 2 ^ tileW v.tileI8 v.tileB

/-- TLDB at the lanes. A fault reports as its offset the bytes of the tile before it, row after row without the stride, and a
TLDB that completes leaves vstart zero: the spec says neither (DESIGN CHOICE, log 175). -/
def tldbLane (k : Nat) (sh : Shape) (o : VOp) : LaneSpec :=
  { always := true
    bad := [(13, decide (sh.segs ≠ 1))]
    effect := fun s v =>
      let w := tileW v.tileI8 v.tileB
      let half := (s.slot k).sys.pairp.getLsbD 14
      let rows := if v.tileMode = 1 ∧ half = true then v.depthK - 128 else min v.depthK 128
      let tn := v.colsN
      let nb := (tn * w + 7) / 8
      let pieces := (upFrom 0 rows).flatMap (fun r => pagePieces (o.val 2 + word r * o.val 0) (nb + 1) nb)
      match readPieces s k pieces [] with
      | (s1, .inr (c, r, l, va, off)) => .stop s1 { v with vstart := word off } ⟨c, va, impInfo r l false off⟩
      | (s1, .inl bs) =>
        let row (r : Nat) : List Byte :=
          let x := ofLe ((bs.drop (r * nb)).take nb)
          (upFrom 0 tn).flatMap (fun j => toLe (cellBytes v) (getEl w x j))
        let blk := (upFrom 0 rows).foldl (fun m r => wrMany 0 m (128 * r) (row r)) ([] : Store Byte)
        .ok (s1.onCore (coreOf k) (fun c => { c with blk := blk, blkBad := false, sB := (o.val 1).truncate 32 }))
          { v.dirtyCim with vstart := 0 } [] }

/-! Tile passes (R127, R128, R196 to R198). -/

/-- The products A(i, k0 + t) × B(t, j) for t below n, summed exactly; an exactly zero sum is +0 (R127). -/
def partialSum (v : Vec) (g : Gov) (blk : Store Byte) (ga i j k0 n : Nat) : FVal :=
  (upFrom 0 n).foldl (fun e t =>
    addV 0 e (mulV
      (tileEl false v.tileI8 g v.tileA (getEl (tileW v.tileI8 v.tileA) ga (i * v.depthK + k0 + t)))
      (tileEl false v.tileI8 g v.tileB (blkCell v blk t j)))) (.num false 0 0)

/-- Steps 2 to 4 of the promotion (R128): the T value. -/
def promoteT (g : Gov) (e : FVal) (sA sB : Nat) : Nat :=
  let p := round32 g e
  let sc := round32 g (mulV (readF g 0 sA) (readF g 0 sB))
  round32 g (mulV (readF g 0 p) (readF g 0 sc))

/-- The scale of row `i` (R126, R196). -/
def rowScale (sh : Shape) (o : VOp) (v : Vec) (i : Nat) : Nat :=
  match fmtScale o.fmt with
  | 2 => getEl 32 (v.grp sh.w 0 o.b sh.g) i
  | 3 => getEl 32 (v.grp sh.w 0 o.b sh.g) 0
  | _ => 0x3F800000

/-- A pass whose T values are given: each cell takes round32(acc + U), where U is T itself, or for a free pass that joins
the run before it, the run's T values summed over a tree that is left open (R197, R198). A run may hold TMMAF and TMMAPF:
R198 names the first, R130 free instructions (DESIGN CHOICE, log 177). -/
def accumulate (s : State) (core r tm tn : Nat) (fmt : Word) (free : Bool) (ts : List Nat) : State :=
  let c := s.core core
  let g := fmtGov fmt
  let join := match c.run with
    | some u => free && decide (u.r = r ∧ u.tm = tm ∧ u.tn = tn ∧ u.fmt = fmt ∧ u.ts.length < 4) &&
        decide (Config.freeNat s.free % 2 = 1)
    | none => false
  let run : FreeRun := match c.run with
    | some u => if join then { u with ts := u.ts ++ [ts] } else ⟨r, tm, tn, fmt, c.acc, [ts]⟩
    | none => ⟨r, tm, tn, fmt, c.acc, [ts]⟩
  let cell (i j : Nat) : BitVec 32 :=
    let n := i * tn + j
    let u := treeSum g 0 4 (s.free + 1 + 8 * n) (run.ts.map (fun t => (0, t.getD n 0)))
    BitVec.ofNat 32 (round32 g (addV g.rm (readF g 0 (rd 0 run.base (128 * (r + i) + j)).toNat) (readF g 0 u)))
  let acc := (upFrom 0 tm).foldl (fun m i => wrMany 0 m (128 * (r + i)) ((upFrom 0 tn).map (cell i))) c.acc
  { s.onCore core (fun y => { y with acc := acc, run := if free then some run else none }) with
    free := if free then s.free + 1 + 8 * tm * tn else s.free }

/-- The checks of a pass (R196), for the mode it needs; the half-1 core of a pair reads no scales (R199). A pass of scale 0
whose vb is not 0 carries reason 14: R196 names no reason for it (DESIGN CHOICE, log 174). -/
def passSpec (mode : Nat) (half : Bool) (v : Vec) (sh : Shape) (o : VOp) : LaneSpec :=
  let sc := fmtScale o.fmt
  let vec := sc = 2 ∨ sc = 3
  let scales := if vec then [(o.b, sh.g)] else []
  let tm := v.rowsM
  { reads := (o.a, sh.g) :: (if half then [] else scales)
    align := (o.a, sh.g, sh.g) :: scales.map (fun e => (e.1, sh.g, sh.g))
    always := true
    bad := [(13, decide (sh.segs ≠ 1)), (9, fmtReserved o.fmt || decide (sh.ew ≠ tileW v.tileI8 v.tileA)),
      (14, decide (v.tileMode ≠ mode ∨ 128 < (o.val 0).toNat + tm ∨ sc = 1 ∨ (sc = 0 ∧ o.b ≠ 0) ∨
        sh.max < tm * v.depthK ∨ (sc = 2 ∧ sh.w * sh.g < tm * 32)))]
    effect := fun s v => .ok s v [] }

/-- The T values of a pass in row order, from the sums of its cells. -/
def passTs (sh : Shape) (o : VOp) (v : Vec) (sB : Nat) (sum : Nat → Nat → FVal) : List Nat :=
  (upFrom 0 v.rowsM).flatMap (fun i => (upFrom 0 v.colsN).map (fun j =>
    promoteT (fmtGov o.fmt) (sum i j) (rowScale sh o v i) sB))

/-- A pass changes nothing for an empty tile. -/
def emptyTile (v : Vec) : Bool := decide (v.rowsM = 0 ∨ v.colsN = 0 ∨ v.depthK = 0)

/-- A pass on a block that a scrub could not correct is a device fault (R428, R496). -/
def passPoison (s : State) (k : Nat) : State :=
  if (s.core (coreOf k)).blkBad then
    { s with agenda := .event (.uncorrectedError (s.slot k).asidN 4 (coreOf k)) :: s.agenda }
  else s

/-- TMMA and TMMAF at the lanes. -/
def passLane (k : Nat) (v0 : Vec) (sh : Shape) (o : VOp) : LaneSpec :=
  { passSpec 0 false v0 sh o with
    effect := fun s v =>
      if emptyTile v then .ok (s.count k 13) v [] else
      let c := s.core (coreOf k)
      let ga := v.grp sh.w 0 o.a sh.g
      let ts := passTs sh o v c.sB.toNat (fun i j => partialSum v (fmtGov o.fmt) c.blk ga i j 0 v.depthK)
      .ok ((accumulate (passPoison s k) (coreOf k) (o.val 0).toNat v.rowsM v.colsN o.fmt (decide (o.fn = 3)) ts).count k 13)
        v.dirtyAcc [] }

/-! Pair passes (R199, R200, R472). -/

/-- Partner core of pairp. -/
def pairCore (w : Word) : Nat := fieldOf w 12 0
/-- The pair forms are enabled. -/
def pairOn (w : Word) : Bool := w.getLsbD 13
/-- Half of pairp. -/
def pairHalf (w : Word) : Bool := w.getLsbD 14

/-- The slots of a core that wait for its vector units to finish go on. -/
def wakeDrain (s : State) (core : Nat) : State := wakeWhere s (fun j x => decide (coreOf j = core ∧ x.wait = .drain))

/-- The first entry of the vector instruction queue is gone, others stand in its place, and what waited for it goes on. -/
def retireHead (s : State) (k : Nat) (more : List QEntry) : State :=
  s.onSlot k (fun x => { x with
    vq := more ++ x.vq.drop 1
    vqSince := s.cycle
    wait := match x.wait with
      | .drain => .none
      | .grant => .none
      | w => w })

/-- einfo of an aborted pair pass (R472). -/
def pairCause (pc : Word) (reason : Nat) : Cause := ⟨0x1B, pc, impInfo reason 0 false 0⟩

/-- The waiting pass of slot `k` ends with a reason. -/
def abortWaiting (s : State) (k reason : Nat) : State :=
  wakeDrain (s.onSlot k (fun x => { x with
    pairSince := none
    vfault := some ⟨0x1B, (x.vq.head?.map (fun e => e.pc)).getD 0, impInfo reason 0 false 0, true⟩ })) (coreOf k)

/-- The slot of a core whose pair pass waits. -/
def waitingAt (s : State) (core : Nat) : Option Nat :=
  (slotsOf core).find? (fun k => (s.slot k).pairSince.isSome)

/-- A pass of core `core` ended with a reason for its partner: taken by the partner's waiting pass, or due when its pass
starts (R472). -/
def abortPartner (s : State) (core partner reason : Nat) : State :=
  match waitingAt s partner with
  | some k =>
    if pairCore (s.slot k).sys.pairp = core then abortWaiting s k reason
    else s.onCore partner (fun c => { c with pairOwed := some (core, reason) })
  | none => s.onCore partner (fun c => { c with pairOwed := some (core, reason) })

/-- A waiting pass that meets core `core`: the partner's, or one that waits for this core. -/
def pairMeets (s : State) (core partner : Nat) : Option Nat :=
  (s.slots.find? (fun e => e.2.pairSince.isSome &&
    decide (coreOf e.1 = partner ∨ (coreOf e.1 ≠ core ∧ pairCore e.2.sys.pairp = core)))).map Prod.fst

/-- A pass of the vector queue as its slot will perform it: its shape, its fields. -/
def headOp (x : Slot) : Option (Shape × VOp) :=
  match x.vq with
  | e :: _ => match e.work with
    | .vector c => some (shapeOf x.vec e.cap, VOp.of c e.vals e.fmt e.pc)
    | _ => none
  | [] => none

/-- What the waiting slot's pass reads: the values its bound registers popped when it started are kept with it (R173). -/
def pairReads (x : Slot) : Vec := x.vec.setRegs ((x.vq.head?.map (fun e => e.bound)).getD [])

/-- The joint effect of two pair passes, half 0 first (R199). -/
def pairJoin (s : State) (k0 : Nat) (v0 : Vec) (sh0 : Shape) (o0 : VOp) (k1 : Nat) (v1 : Vec) (sh1 : Shape) (o1 : VOp) :
    State × Vec :=
  if emptyTile v0 then (s, v0) else
  let c0 := s.core (coreOf k0)
  let c1 := s.core (coreOf k1)
  let g := fmtGov o0.fmt
  let n0 := min v0.depthK 128
  let ga0 := v0.grp sh0.w 0 o0.a sh0.g
  let ga1 := v1.grp sh1.w 0 o1.a sh1.g
  let ts := passTs sh0 o0 v0 c0.sB.toNat (fun i j =>
    addV 0 (partialSum v0 g c0.blk ga0 i j 0 n0) (partialSum v1 g c1.blk ga1 i j 128 (v0.depthK - 128)))
  (accumulate (passPoison (passPoison s k0) k1) (coreOf k0) (o0.val 0).toNat v0.rowsM v0.colsN o0.fmt (decide (o0.fn = 5)) ts, v0.dirtyAcc)

/-- A pair pass of slot `k` whose checks have passed: it meets its partner, ends both, or waits. -/
def pairEffect (k : Nat) (sh : Shape) (o : VOp) (s : State) (v : Vec) : Eff :=
  let x := s.slot k
  let core := coreOf k
  let partner := pairCore x.sys.pairp
  match pairMeets s core partner with
  | none => .wait (s.onSlot k (fun y => { y with pairSince := some (y.pairSince.getD s.cycle) })) v
  | some j =>
    let y := s.slot j
    if ¬ (coreOf j = partner ∧ pairCore y.sys.pairp = core ∧ pairHalf y.sys.pairp ≠ pairHalf x.sys.pairp) then
      .stop (abortWaiting s j 1) v (pairCause o.pc 1)
    else match headOp y with
    | none => .wait s v
    | some (shj, oj) =>
      if v.tm ≠ y.vec.tm ∨ v.tn ≠ y.vec.tn ∨ v.tk ≠ y.vec.tk ∨ v.tmode ≠ y.vec.tmode ∨ o.fn ≠ oj.fn then
        .stop (abortWaiting s j 2) v (pairCause o.pc 2)
      else
        let vj := pairReads y
        let fin (s : State) (u : Vec) : State :=
          ((wakeDrain (retireHead (s.onSlot j (fun z => { z with
            pairSince := none, vec := u.restore y.vec ((y.vq.head?.map (fun e => e.bound)).getD []) }))
            j []) (coreOf j)).count j 13 |>.count k 13).onSlot k (fun y => { y with pairSince := none })
        if pairHalf x.sys.pairp then
          let r := pairJoin s j vj shj oj k v sh o
          .ok (fin r.1 r.2) v []
        else
          let r := pairJoin s k v sh o j vj shj oj
          .ok (fin r.1 vj) r.2 []

/-- A pair pass whose own checks fail: the plain fault, with the lowest reason that applies (R434), where the pair forms are
off or the mode is another (R199), reason 3 of 0x1B otherwise; the partner takes 0x1B in either case (R200, R472). -/
def pairRefused (s : State) (k : Nat) (c : Cause) (kept : List (Nat × Nat)) : LaneR :=
  .fault ((abortPartner s (coreOf k) (pairCore (s.slot k).sys.pairp) 4).onSlot k (fun y => { y with pairSince := none })) c
    kept

/-- TMMAP and TMMAPF of slot `k`: the pair forms must be enabled and the mode be pair; then an abort that is due, the slot's own checks, and
the meeting (R199, R200, R472). -/
def runPair (s : State) (k : Nat) (v : Vec) (sh : Shape) (o : VOp) (kept : List (Nat × Nat)) : LaneR :=
  let x := s.slot k
  let core := coreOf k
  let spec := passSpec 1 (pairHalf x.sys.pairp) v sh o
  if pairOn x.sys.pairp = false ∨ v.tileMode ≠ 1 then
    pairRefused s k (laneFault sh o.pc ((laneReason x sh { spec with bad := spec.bad ++ [(14, true)] }).getD 14)) kept
  else if (s.core core).pairOwed.map Prod.fst = some (pairCore x.sys.pairp) ∧ x.pairSince = none then
    .fault (s.onCore core (fun c => { c with pairOwed := none }))
      (pairCause o.pc (((s.core core).pairOwed.map Prod.snd).getD 0)) kept
  else match laneReason x sh spec with
  | some _ => pairRefused s k (pairCause o.pc 3) kept
  | none => runLane s k sh o.pc kept { spec with effect := pairEffect k sh o }

/-! Accumulator access (R201). -/

/-- An access that reaches past row 127. -/
def accReach (sh : Shape) (v : Vec) (r : Nat) : Bool :=
  decide (v.colsN ≠ 0 ∧ sh.vstart < sh.vl ∧ 127 < r + (sh.vl - 1) / v.colsN)

/-- TRDA and TADDA at the lanes. -/
def accLane (k : Nat) (v0 : Vec) (sh : Shape) (o : VOp) : LaneSpec :=
  let r := (o.val 0).toNat
  let rda := decide (o.fn = 6)
  let code := if rda then fmtD o.fmt else fmtA o.fmt
  let g := fmtGov o.fmt
  { reads := if rda then [] else [(o.a, sh.g)], writes := if rda then [(o.a, sh.g)] else []
    align := [(o.a, sh.g, sh.g)], masks := decide (o.m ≠ 0), ew := sh.ew, idle := decide (v0.colsN = 0)
    bad := [(13, decide (sh.segs ≠ 1)),
      (9, fmtReserved o.fmt || decide ((if rda then 7 else 2) < code ∨ fmtW code ≠ sh.ew ∨ fmtScale o.fmt ≠ 0)),
      (14, accReach sh v0 r)]
    effect := fun s v =>
      let tn := v.colsN
      let c := s.core (coreOf k)
      let at_ (e : Nat) : Nat := 128 * (r + e / tn) + e % tn
      if tn = 0 ∨ sh.vl = 0 then .ok s { v with vstart := 0 } []
      else if rda then
        .ok (s.onCore (coreOf k) (fun y => { y with run := none }))
          { v.writeEls sh { o with d := o.a } sh.g sh.ew (fun e =>
              writeF g code (readF g 0 (rd 0 c.acc (at_ e)).toNat)) with vstart := 0 } []
      else
        let ga := v.grps sh o.a sh.g
        let on := maskBit v sh o.m
        let acc := (upFrom sh.vstart (sh.vl - sh.vstart)).foldl (fun m e =>
          if on e then
            wr 0 m (at_ e) (BitVec.ofNat 32 (round32 g (addV g.rm (readF g 0 (rd 0 m (at_ e)).toNat)
              (readF g code (elAt sh sh.ew ga e)))))
          else m) c.acc
        .ok (s.onCore (coreOf k) (fun y => { y with acc := acc, run := none })) { v.dirtyAcc with vstart := 0 } [] }

/-- TZACC at the lanes. -/
def tzaccLane (k : Nat) (sh : Shape) (o : VOp) : LaneSpec :=
  let n := (o.val 0).toNat
  let r := (o.val 1).toNat
  { always := true
    bad := [(13, decide (sh.segs ≠ 1)), (14, decide (n ≠ 0 ∧ 128 < r + n))]
    effect := fun s v =>
      if n = 0 then .ok s v [] else
      .ok (s.onCore (coreOf k) (fun y => { y with
        acc := delWhere (fun a => decide (128 * r ≤ a ∧ a < 128 * (r + n))) y.acc, run := none })) v.dirtyAcc [] }

/-! MMSX (R129, R202 to R204). -/

/-- One element of C after every block of K (R204). A block's sum starts at +0, so that one of zeros alone is +0: R129 gives
no sign to an exactly zero sum (DESIGN CHOICE, log 140). -/
def mxElement (v : Vec) (g : Gov) (sh : Shape) (o : VOp) (i j c0 : Nat) : Nat :=
  let tk := v.depthK
  let ga := v.grp sh.w 0 o.a sh.g
  let gb := v.grp sh.w 0 o.b sh.g
  let xa (b : Nat) : Nat := getEl 8 (rd 0 v.v (o.a + sh.g)) (2 * i + b)
  let xb (b : Nat) : Nat := getEl 8 (rd 0 v.v (o.b + sh.g)) (2 * j + b)
  (upFrom 0 ((tk + 31) / 32)).foldl (fun c b =>
    if xa b = 0xFF ∨ xb b = 0xFF then nanF 0
    else
      let sum := (upFrom (32 * b) (min 32 (tk - 32 * b))).foldl (fun e t =>
        addV 0 e (mulV (tileEl true v.tileI8 g v.tileA (getEl (tileW v.tileI8 v.tileA) ga (i * tk + t)))
          (tileEl true v.tileI8 g v.tileB (getEl (tileW v.tileI8 v.tileB) gb (j * tk + t))))) (.num false 0 0)
      round32 g (addV 0 (readF g 0 c) (scaleV (scaleV sum (xa b)) (xb b)))) c0

/-- MMSX at the lanes. -/
def mmsxLane (k : Nat) (v0 : Vec) (sh : Shape) (o : VOp) : LaneSpec :=
  let g : Gov := { fmtGov o.fmt with rm := 0 }
  { reads := [(o.a, sh.g + 1), (o.b, sh.g + 1), (o.d, sh.g)], writes := [(o.d, sh.g)]
    align := [(o.d, sh.g, sh.g), (o.a, sh.g, sh.g + 1), (o.b, sh.g, sh.g + 1)], always := true
    bad := [(13, decide (sh.segs ≠ 1)), (9, fmtReserved o.fmt),
      (10, overlap o.d sh.g o.a (sh.g + 1) || overlap o.d sh.g o.b (sh.g + 1)), (11, decide (sh.vstart ≠ 0)),
      (14, decide (v0.tileMode ≠ 2) || !tileFits (sh.w * sh.g) (tileW v0.tileI8 v0.tileA) (tileW v0.tileI8 v0.tileB)
        v0.rowsM v0.colsN v0.depthK)]
    effect := fun s v =>
      let gc := v.grp sh.w 0 o.d sh.g
      let gc' := (upFrom 0 v.rowsM).foldl (fun x i => (upFrom 0 v.colsN).foldl (fun x j =>
        let e := i * v.colsN + j
        putEl 32 x e (mxElement v g sh o i j (getEl 32 gc e))) x) gc
      .ok (s.count k 13) (v.setGrp sh.w 0 o.d sh.g gc').dirtyVec [] }

/-- The instructions of major MAT at the lanes, but for the pair passes. -/
def matLane (k : Nat) (v : Vec) (sh : Shape) (o : VOp) : LaneSpec :=
  match o.fn with
  | 0 => tsetLane sh o
  | 1 => tldbLane k sh o
  | 2 => passLane k v sh o
  | 3 => passLane k v sh o
  | 7 => tzaccLane k sh o
  | 9 => mmsxLane k v sh o
  | _ => accLane k v sh o

/-- A context named as matrix owner finds the stores zero (R68). -/
def setOwner (s : State) (core ctx : Nat) : State :=
  s.onCore core (fun c => { c with mown := ctx, acc := [], blk := [], blkBad := false, sB := 0, run := none, pairOwed := none })

/-! Issue. -/

/-- TSET. -/
def execTset (x : VF) (s : State) : Host.Outcome State Fault Refusal :=
  issueVec
    { reason := reasonTset x, code := wordVF 0x24 0 x
      fmt := some x.f, srcs := [x.va, x.va + 1, x.va + 2], dst := [x.vd, x.vd + 1, x.vd + 2], mat := 1 } s
/-- TLDB. -/
def execTldb (x : VF) (s : State) : Host.Outcome State Fault Refusal :=
  issueVec { reason := zeroVFFM x, code := wordVF 0x24 1 x, srcs := [x.vb, x.va, x.vd], vec := false, mat := 2 } s
/-- TMMA. -/
def execTmma (x : VF) (s : State) : Host.Outcome State Fault Refusal :=
  issueVec { reason := zeroVFM x, code := wordVF 0x24 2 x, fmt := some x.f, srcs := [x.vd], mat := 2 } s
/-- TMMAF. -/
def execTmmaf (x : VF) (s : State) : Host.Outcome State Fault Refusal :=
  issueVec { reason := zeroVFM x, code := wordVF 0x24 3 x, fmt := some x.f, srcs := [x.vd], mat := 2 } s
/-- TMMAP. -/
def execTmmap (x : VF) (s : State) : Host.Outcome State Fault Refusal :=
  issueVec { reason := zeroVFM x, code := wordVF 0x24 4 x, fmt := some x.f, srcs := [x.vd], mat := 2 } s
/-- TMMAPF. -/
def execTmmapf (x : VF) (s : State) : Host.Outcome State Fault Refusal :=
  issueVec { reason := zeroVFM x, code := wordVF 0x24 5 x, fmt := some x.f, srcs := [x.vd], mat := 2 } s
/-- TRDA. -/
def execTrda (x : VF) (s : State) : Host.Outcome State Fault Refusal :=
  issueVec { reason := zeroVFVb x, code := wordVF 0x24 6 x, fmt := some x.f, srcs := [x.vd], mat := 2 } s
/-- TZACC. -/
def execTzacc (x : VF) (s : State) : Host.Outcome State Fault Refusal :=
  issueVec { reason := zeroVFFMVb x, code := wordVF 0x24 7 x, srcs := [x.va, x.vd], vec := false, mat := 2 } s
/-- TADDA. -/
def execTadda (x : VF) (s : State) : Host.Outcome State Fault Refusal :=
  issueVec { reason := zeroVFVb x, code := wordVF 0x24 8 x, fmt := some x.f, srcs := [x.vd], mat := 2 } s
/-- MMSX. -/
def execMmsx (x : VF) (s : State) : Host.Outcome State Fault Refusal :=
  issueVec { reason := zeroVFM x, code := wordVF 0x24 9 x, fmt := some x.f, cvd := some x.vd } s

end Sys2Proof.Machine
end

