-- ==== Sys2Proof/Machine/SysReg.lean ====
section
/-! DEFINITION. Machine/SysReg.lean: the system registers (R69 to R76): who reaches them, what they read as, and what a
write of each does (R155, R191, R269, R285, R377 to R380). -/

namespace Sys2Proof.Machine

/-! The access table (R70, R76). -/

/-- evc0 to evc15 and evsel0 to evsel15. -/
def sysEvent (n : Nat) : Bool := decide (0x090 ≤ n ∧ n ≤ 0x0AF)
/-- The registers of the vector context (R70). -/
def sysVector (n : Nat) : Bool := decide (0x010 ≤ n ∧ n ≤ 0x01B)
/-- A number of the table. -/
def sysListed (n : Nat) : Bool :=
  decide (n ≤ 5 ∨ (0x010 ≤ n ∧ n ≤ 0x01D) ∨ n = 0x020 ∨ n = 0x021 ∨ (0x030 ≤ n ∧ n ≤ 0x032) ∨
    (0x040 ≤ n ∧ n ≤ 0x043) ∨ n = 0x080 ∨ n = 0x081) || sysEvent n
/-- User mode may read the register. -/
def sysUserRead (n : Nat) : Bool :=
  sysListed n && !decide ((1 ≤ n ∧ n ≤ 5) ∨ n = 0x032 ∨ n = 0x041 ∨ n = 0x043)
/-- User mode may write the register. -/
def sysUserWrite (n : Nat) : Bool := decide (n = 0x030)
/-- A light thread reaches the register (R76). -/
def sysLight (n : Nat) : Bool :=
  decide (n ≤ 5 ∨ n = 0x01C ∨ (0x040 ≤ n ∧ n ≤ 0x043) ∨ n = 0x080 ∨ n = 0x081) || sysEvent n

/-- The access is not open to the slot's mode; a number outside the table is no privilege fault (R69, R433). -/
def sysDenied (x : Slot) (n : Nat) (write : Bool) : Bool :=
  sysListed n && !x.spv && !(if write then sysUserWrite n else sysUserRead n)

/-- The reason at decode: zero fields, then a light thread's reach, then an unlisted number (R434). -/
def sysReason (x : Slot) (zero : Option Nat) (n : Nat) (regs : List Reg) : Option Nat :=
  match zero with
  | some r => some r
  | none =>
    if x.light = true ∧ (regs.any (fun r => decide (10 ≤ r.toNat ∧ r.toNat ≤ 30)) = true ∨
        (sysListed n = true ∧ sysLight n = false)) then some 3
    else if sysListed n then none else some 5

/-! Reading. -/

/-- Key of an event register in its table. -/
def eventNo (n : Nat) : Nat := (n - 0x090) % 16

/-- The value of a register (R70 to R75). -/
def sysGet (s : State) (k n : Nat) : Word :=
  let x := s.slot k
  let v := x.vec
  let y := x.sys
  let c := s.core (coreOf k)
  match n with
  | 0x000 => y.status
  | 0x001 => y.svec
  | 0x002 => y.epc
  | 0x003 => y.ecause
  | 0x004 => y.eaddr
  | 0x005 => y.einfo
  | 0x010 => v.vl
  | 0x011 => v.vtype
  | 0x012 => v.vstart
  | 0x013 => word (liveOf c * 256 + actOf s (coreOf k))
  | 0x014 => word (c.mown * 256 + v.ctx * 16 + v.split)
  | 0x015 => v.vstate
  | 0x016 => word (v.smax * 16 + v.smin * 4 + v.segs.length)
  | 0x017 => c.lanemap.zeroExtend 64
  | 0x018 => v.tm
  | 0x019 => v.tn
  | 0x01A => v.tk
  | 0x01B => v.tmode
  | 0x01C => x.regs.cdst.zeroExtend 64
  | 0x01D => x.regs.cvdst.zeroExtend 64
  | 0x020 => y.qmap
  | 0x021 => y.pairp
  | 0x030 => y.pwreq
  | 0x031 => y.lease
  | 0x032 => y.pwbud
  | 0x040 => y.qtbase
  | 0x041 => y.ptbase
  | 0x042 => y.asid
  | 0x043 => hmodeAt s (clusterOf k)
  | 0x080 => word (s.cycle - c.ready)
  | 0x081 => y.instret
  | n => if n < 0x0A0 then rd 0 y.evc (eventNo n) else rd 0 y.evsel (eventNo n)

/-! Writing. A refused value leaves everything as it was (R69). -/

/-- The system registers of a slot changed. -/
def onSys (s : State) (k : Nat) (f : SysRegs → SysRegs) : State := s.onSlot k (fun x => { x with sys := f x.sys })
/-- The vector context of a slot changed. -/
def onVecOf (s : State) (k : Nat) (f : Vec → Vec) : State := s.onSlot k (fun x => { x with vec := f x.vec })
/-- A register that takes the masked value. -/
def maskWrite (w : Word) (old v : Word) : Word := (old &&& ~~~w) ||| (v &&& w)

/-- What the supervisor sets for a process (R34, R70). -/
def onProc (s : State) (asid : Nat) (f : Proc → Proc) : State :=
  { s with procs := wr none s.procs asid (some (f ((rd none s.procs asid).getD ⟨0, 0, 0⟩))) }

/-- VLMAX of a vtype for the segments attached at this moment (R56, R151, R155), by the live lanes that they have now: the
spec does not say whether a write takes those or the ones of the last grant (DESIGN CHOICE, log 142). -/
def vlmaxOf (s : State) (k : Nat) (vt : Word) : Nat :=
  let v := (s.slot k).vec
  vlmaxSeg vt (vlenEff v.vlen (spanLive s k)) * (v.segs.length + 1)

/-- vl, vtype and vstart (R155). -/
def putLength (s : State) (k n : Nat) (w : Word) : Option State :=
  let v := (s.slot k).vec
  match n with
  | 0x010 =>
    if vlmaxOf s k v.vtype < w.toNat then none
    else some (s.onSlot k (fun x => { x with vec := { v with vl := w }.dirtyVec, regs := { x.regs with vl := w } }))
  | 0x011 =>
    if vtRefused w = true ∨ vlmaxOf s k w < v.vl.toNat then none
    else some (s.onSlot k (fun x => { x with vec := { v with vtype := w }.dirtyVec, regs := { x.regs with vtype := w } }))
  | _ => some (onVecOf s k (fun v => { v with vstart := w }.dirtyVec))

/-- tm, tn, tk and tmode (R191). -/
def putShape (s : State) (k n : Nat) (w : Word) : Option State :=
  match n with
  | 0x018 => if 128 < w.toNat then none else some (onVecOf s k (fun v => { v with tm := w }.dirtyAcc))
  | 0x019 => if 128 < w.toNat then none else some (onVecOf s k (fun v => { v with tn := w }.dirtyAcc))
  | 0x01A => if 256 < w.toNat then none else some (onVecOf s k (fun v => { v with tk := w }.dirtyAcc))
  | _ =>
    if fieldOf w 9 8 = 3 ∨ tileCodesOk (fieldOf w 9 8) (w.getLsbD 10) (fieldOf w 3 0) (fieldOf w 7 4) = false then none
    else some (onVecOf s k (fun v => { v with tmode := w &&& 0x7FF }.dirtyAcc))

/-- vctx: mown must name a context of the core, whose matrix state then reads zero (R68, R73). -/
def putVctx (s : State) (k : Nat) (w : Word) : Option State :=
  if 2 ^ (s.slot k).vec.split ≤ fieldOf w 15 8 then none else some (setOwner s (coreOf k) (fieldOf w 15 8))

/-- vstate (R72). -/
def putVstate (s : State) (k : Nat) (w : Word) : Option State :=
  if fieldOf w 1 0 = 3 ∨ fieldOf w 3 2 = 3 ∨ fieldOf w 5 4 = 3 then none
  else some (onVecOf s k (fun v => { v with vstate := w &&& 0x3F }))

/-- qmap: a field that sets bound names a filled port entry (R74). -/
def putQmap (s : State) (k : Nat) (w : Word) : Option State :=
  if (boundFields (w &&& 0x0FFFFFFFFFFFFFFF)).any (fun e => ((s.slot k).port e.2).isNone) then none
  else some (onSys s k (fun y => { y with qmap := w &&& 0x0FFFFFFFFFFFFFFF }))

/-- The highest level that a pwreq asks for. -/
def pwAsked (w : Word) : Nat := max (fieldOf w 8 6) (max (fieldOf w 5 3) (fieldOf w 2 0))
/-- pwreq; a user write above level 5 asks for a lease in hardware mode (R376, R379). -/
def putPwreq (s : State) (k : Nat) (w : Word) : State :=
  let x := s.slot k
  let asks := !x.spv && decide (5 < pwAsked w ∧ leaseTime x.sys.lease = 0) && !assisted s (clusterOf k) 5
  onSys s k (fun y => { y with pwreq := w &&& 0x1FF, leaseAsked := asks || (y.leaseAsked && decide (5 < pwAsked w)) })

/-- A lease at a level for a time whose units are drawn. -/
def leaseOf (lvl time : Nat) : Word := if time = 0 then 0 else word (2 ^ 62 + lvl * 2 ^ 32 + time)
/-- Core-microseconds drawn for each microsecond at a level. -/
def leaseWeight (lvl : Nat) : Nat := if lvl = 7 then 2 else 1
/-- The time that the pool of a slot's partition covers at a level. -/
def poolCovers (s : State) (k lvl : Nat) : Nat := rd 0 s.pool (partOf s (clusterOf k)) / leaseWeight lvl
/-- Units drawn from the pool. -/
def drawPool (s : State) (k n : Nat) : State :=
  let p := partOf s (clusterOf k)
  { s with pool := wr 0 s.pool p (rd 0 s.pool p - n) }
/-- maxlvl of a pwbud. -/
def budLvl (w : Word) : Nat := fieldOf w 26 24
/-- maxtime of a pwbud. -/
def budTime (w : Word) : Nat := fieldOf w 23 0

/-- lease (R377, R379): the old lease returns to the pool; one that is held is installed as written, another draws what
the pool covers, and reads as held even when that is nothing. A value of zeros leaves no lease (R380; DEDUCED, log 150). -/
def putLease (s : State) (k : Nat) (w : Word) : Option State :=
  let y := (s.slot k).sys
  let lvl := leaseLvl w
  let time := leaseTime w
  if (1 ≤ lvl ∧ lvl ≤ 5) ∨ 10000 < time ∨ (lvl = 0) ≠ (time = 0) ∨ budLvl y.pwbud < lvl ∨ budTime y.pwbud < time then none
  else
    let s1 := creditPool s k (leaseUnits y.lease)
    if w.getLsbD 62 then
      some (onSys s1 k (fun y => { y with lease := w &&& 0x4000000700FFFFFF, leaseAsked := false }))
    else
      let t := min time (poolCovers s1 k lvl)
      some (onSys (drawPool s1 k (t * leaseWeight lvl)) k (fun y => { y with
        lease := if lvl = 0 then 0 else word (2 ^ 62 + lvl * 2 ^ 32 + t), leaseAsked := false }))

/-- A lease lowered to a budget (R380). -/
def clampLease (bud lease : Word) : Word :=
  let lvl := min (leaseLvl lease) (budLvl bud)
  let time := min (leaseTime lease) (budTime bud)
  if lvl < 6 then 0 else if time = 0 then 0 else setField (setField lease 34 32 lvl) 23 0 time

/-- pwbud (R378, R380): a lease above the new budget is lowered and the difference returns to the pool. -/
def putPwbud (s : State) (k : Nat) (w : Word) : Option State :=
  if budLvl w < 5 ∨ 10000 < budTime w then none
  else
    let bud := w &&& 0x7FFFFFF
    let old := (s.slot k).sys.lease
    let s1 := onSys s k (fun y => { y with pwbud := bud })
    if budLvl bud < leaseLvl old ∨ budTime bud < leaseTime old then
      some (onSys (creditPool s1 k (leaseUnits old - leaseUnits (clampLease bud old))) k
        (fun y => { y with lease := clampLease bud old }))
    else some s1

/-- ptbase: cached translations of the process go everywhere (R269). -/
def putPtbase (s : State) (k : Nat) (w : Word) : State :=
  let asid := (s.slot k).asidN
  let new := w &&& 0xFFFFFFFFFF000
  let s1 := onProc (onSys s k (fun y => { y with ptbase := new })) asid (fun p => { p with ptbase := new })
  { s1 with
    cores := s1.cores.foldl (fun m c => wr .reset m c.1 { c.2 with tlb := c.2.tlb.filter (fun e => e.asid != asid) })
      s1.cores
    clusters := s1.clusters.foldl
      (fun m c => wr .reset m c.1 { c.2 with walk := c.2.walk.filter (fun e => e.asid != asid) }) s1.clusters }

/-- hmode of a partition (R285); a change of scr starts a recall round of every armed counter that has holders (R345). -/
def putHmode (s : State) (p : Nat) (w : Word) : State :=
  let s1 := { s with hmode := wr 0 s.hmode p (w &&& 0x7F) }
  if (rd 0 s.hmode p).getLsbD 3 = w.getLsbD 3 then s1
  else (keysOf s1.ctrs).foldl (fun s a => s.onCtr a (fun c =>
    if c.holders ≠ [] ∧ c.recalling = false then startRound s.cycle c else c)) s1

/-- evsel: ev above 19 is reserved, and ovf is cleared by writing 1 (R75). -/
def putEvsel (s : State) (k n : Nat) (w : Word) : Option State :=
  if 20 ≤ fieldOf w 7 0 then none
  else some (onSys s k (fun y =>
    let ovf := rd 0 y.evsel n &&& 0x80000
    { y with evsel := wr 0 y.evsel n ((w &&& 0x700FF) ||| (ovf &&& ~~~w)) }))

/-- A write of a register by the supervisor, or of pwreq by a user (R257); none when the value is refused (reason 5). einfo keeps
all 64 bits as written: R421 gives bits [31:14] as zero yet RW, and R254 a handle there (DESIGN CHOICE, log 179). -/
def sysPut (s : State) (k n : Nat) (w : Word) : Option State :=
  match n with
  | 0x000 => some (onSys s k (fun y => { y with status := maskWrite 0x2E y.status w }))
  | 0x001 =>
    if w.getLsbD 0 then none
    else some (onProc (onSys s k (fun y => { y with svec := w })) (s.slot k).asidN (fun p => { p with svec := w }))
  | 0x002 => some (onSys s k (fun y => { y with epc := w }))
  | 0x003 => some (onSys s k (fun y => { y with ecause := w &&& 0xFF }))
  | 0x004 => some (onSys s k (fun y => { y with eaddr := w }))
  | 0x005 => some (onSys s k (fun y => { y with einfo := w }))
  | 0x010 => putLength s k 0x010 w
  | 0x011 => putLength s k 0x011 w
  | 0x012 => putLength s k 0x012 w
  | 0x014 => putVctx s k w
  | 0x015 => putVstate s k w
  | 0x018 => putShape s k 0x018 w
  | 0x019 => putShape s k 0x019 w
  | 0x01A => putShape s k 0x01A w
  | 0x01B => putShape s k 0x01B w
  | 0x01C => some (s.onSlot k (fun x => { x with regs := { x.regs with cdst := w.truncate 5 } }))
  | 0x01D => some (s.onSlot k (fun x => { x with regs := { x.regs with cvdst := w.truncate 5 } }))
  | 0x020 => putQmap s k w
  | 0x021 => some (onSys s k (fun y => { y with pairp := w &&& 0x7FFF }))
  | 0x030 => some (putPwreq s k w)
  | 0x031 => putLease s k w
  | 0x032 => putPwbud s k w
  | 0x040 =>
    if w.toNat % 64 ≠ 0 then none
    else some (onProc (onSys s k (fun y => { y with qtbase := w })) (s.slot k).asidN (fun p => { p with qtbase := w }))
  | 0x041 => some (putPtbase s k w)
  | 0x042 => some (onSys s k (fun y => { y with asid := w &&& 0xFFFF }))
  | 0x043 => some (putHmode s (partOf s (clusterOf k)) w)
  | 0x081 => some (onSys s k (fun y => { y with instret := w }))
  | n =>
    if 0x090 ≤ n ∧ n < 0x0A0 then some (onSys s k (fun y => { y with evc := wr 0 y.evc (eventNo n) w }))
    else if 0x0A0 ≤ n ∧ n < 0x0B0 then putEvsel s k (eventNo n) w
    else some s

end Sys2Proof.Machine
end

