-- ==== Sys2Proof/Machine/Queue.lean ====
section
/-! DEFINITION. Machine/Queue.lean: QBIND, QFREE, QPUSHN, QPOPN and QSTAT (R233 to R235, R466, R467). -/

namespace Sys2Proof.Machine

/-- The window number of a register named with its kind: s24 to s29 are 0 to 5, v28 to v31 are 6 to 9 (R74). -/
def windowNo (sc : BitVec 3) (r : Reg) : Nat := if sc = 0 then r.toNat - 24 else r.toNat - 22
/-- A window register's field of qmap. -/
def qmapField (q : Word) (w : Nat) : Nat := fieldOf q (6 * w + 5) (6 * w)
/-- The port entry a window is bound to. -/
def windowPort (x : Slot) (w : Nat) : Option Nat :=
  let f := qmapField x.sys.qmap w
  if f.testBit 5 then some (f % 32) else none

/-- A window is freed (R234): its field is cleared, and an entry that no field names is free; the low half of a command
that stays without its high half gives back its place. -/
def freeWindow (s : State) (w : Nat) : State :=
  match windowPort s.me w with
  | none => s
  | some p =>
    let s1 := s.onMe (fun x => { x with sys := { x.sys with qmap := setField x.sys.qmap (6 * w + 5) (6 * w) 0 } })
    if (boundFields s1.me.sys.qmap).any (fun e => e.2 == p) then s1
    else
      let s2 := match s1.me.port p with
        | some q => if q.low.isSome then s1.onEngine q.base (fun e => { e with resv := e.resv - 1 }) else s1
        | none => s1
      s2.onMe (fun x => x.putPort p none)

/-- The port entry a binding takes: the one that holds the handle, or the lowest free one (R234). -/
def portFor (x : Slot) (handle : Nat) : Nat :=
  match (upFrom 0 32).find? (fun p => match x.port p with | some q => q.handle == handle | none => false) with
  | some p => p
  | none => ((upFrom 0 32).find? (fun p => (x.port p).isNone)).getD 0

/-- The kinds that a window of its register class binds (R233). -/
def kindAllowed (sc : BitVec 3) (kind : Nat) : Bool :=
  if sc = 0 then decide (kind = 1 ∨ kind = 2 ∨ kind = 4 ∨ kind = 5) else decide (kind = 3 ∨ kind = 4 ∨ kind = 5)

/-- A window bound to an entry of the queue table (R234). -/
def bindWindow (s : State) (w handle : Nat) (e : QEnt) (opt : Word) : State :=
  let s1 := freeWindow s w
  let x := s1.me
  let p := portFor x handle
  let base := if e.kind = 1 then queueKey x.asidN handle
    else if e.kind = 5 then resultKey x.asidN handle else e.f 63 0
  let q : Port := match x.port p with
    | some old => { old with opt := opt, stale := false }
    | none => ⟨handle, x.asidN, e.kind, base, opt, none, none, false⟩
  s1.onMe (fun x => { (x.putPort p (some q)) with
    sys := { x.sys with qmap := setField x.sys.qmap (6 * w + 5) (6 * w) (32 + p) } })

/-- A word of the vector unit names the register in one of its register fields. -/
def namesReg (r : Nat) (code : BitVec 32) : Bool :=
  let f (lo : Nat) : Bool := decide ((code.extractLsb' lo 5).toNat = r)
  f 7 || f 12 || f 17 || f 22

/-- Pushes or pops through a window's binding that queued vector work still holds (R234): a reserved result, or an
instruction that names a bound vector register. -/
def windowBusy (x : Slot) (w : Nat) : Bool :=
  match windowPort x w with
  | none => false
  | some p =>
    let held (d : Dst) : Bool := match d with
      | .reg _ => false
      | _ => decide (boundPort x d.name = some p)
    x.arrivals.any (fun a => held a.1) || x.vq.any (fun e => e.dst.any held ||
      (decide (6 ≤ w) && (match e.work with
        | .vector _ => (entryWords e).any (fun c => namesReg (w + 22) c.1 ||
            (vecSources c.1 c.2 ++ vecTargets c.1).any (fun r => decide (r.1 ≤ w + 22 ∧ w + 22 < r.1 + r.2)))
        | .commands _ _ _ => true
        | _ => false)))

/-- QBIND: a window that is bound already is freed first, as by QFREE. -/
def execQbind (x : QF) (s : State) : Host.Outcome State Fault Refusal :=
  run { reason := reasonQbind x, srcs := [x.a, x.b], full := true, irrev := true } s (fun got s =>
    let handle := (srcVal s got x.a).toNat % 2 ^ 32
    let y := s.me
    match readEntry s s.cur y.asidN y.sys.ptbase y.sys.qtbase handle true with
    | (_, .inr c) => .trap (entryCause y c) .none
    | (s, .inl e) =>
      if kindAllowed x.sc e.kind = false ∨ (e.kind ≠ 4 ∧ x.b ≠ 31) then .trap (ownCause y 0x12 18) .none
      else if windowBusy y (windowNo x.sc x.d) then .wait .drain none
      else
        let bound (s : State) : R Unit :=
          .ok () (advance (bindWindow s (windowNo x.sc x.d) handle e (srcVal s got x.b)) 4)
        if e.kind = 1 then
          let key := queueKey y.asidN handle
          needResident (meetQueue s key y.sys.qtbase y.sys.ptbase handle e) key handle bound
        else bound s)

/-- QFREE: the reserved pushes of the binding enter their queue first (R234). -/
def execQfree (x : QF) (s : State) : Host.Outcome State Fault Refusal :=
  run { reason := reasonQfree x, full := true, irrev := true } s (fun _ s =>
    if windowBusy s.me (windowNo x.sc x.a) then .wait .drain none else
    .ok () (advance (freeWindow s (windowNo x.sc x.a)) 4))

/-- The end of a QPUSHN: p[d] says whether capacity was reserved. -/
def pushedAdvance (s : State) (d : Reg) (ok : Bool) : R Unit := .ok () (setPredAdvance s d ok 4)

/-- A take of one unit of a capacity counter that never waits for capacity to be freed (R231): true with the unit taken.
The answer of the home may already be there. -/
def tryCapacity (s : State) (ctr asid : Nat) (ctrVa : Word) (k : Bool → State → R Unit) : R Unit :=
  match s.me.answer with
  | some a =>
    if a.reason ≠ 0 then .trap ⟨0x1E, ctrVa, einfoOf a.reason 0 false 0⟩ .none
    else k (decide (a.value ≠ 0)) s
  | none => match s.ctr ctr with
    | none => .trap ⟨0x1E, ctrVa, einfoOf 1 0 false 0⟩ .none
    | some c =>
      if c.asid ≠ asid then .trap ⟨0x1E, ctrVa, einfoOf 2 0 false 0⟩ .none
      else match localTake s (clusterOf s.cur) ctr 1 with
        | some s1 => k true s1
        | none => .wait (.counter ctr) (some ⟨ctr, 0, 1⟩)

/-- QPUSHN: a push that does not wait for capacity (R235). -/
def execQpushn (x : QF) (s : State) : Host.Outcome State Fault Refusal :=
  run { reason := reasonQpushn x, srcs := [x.b], full := true } s (fun got s =>
    let v := srcVal s got x.b
    match windowPort s.me (windowNo 0 x.a) with
    | none => portMisuse s
    | some p => match s.me.port p with
      | none => portMisuse s
      | some q =>
        if q.stale then staleTrap s p q
        else if q.kind = 1 then awaitResident s q.base (fun s =>
          match s.queue q.base with
          | none => portMisuse s
          | some qs => tryCapacity s qs.ctr q.asid qs.ctrVa (fun ok s =>
              if ok then pushedAdvance (defer s (.release (.push (.data q.base qs.ctr) v))) x.d true
              else pushedAdvance s x.d false))
        else match pushPort s p v with
          | .ok _ s1 => pushedAdvance s1 x.d true
          | .trap c f => .trap c f
          | .wait _ _ => pushedAdvance s x.d false
          | .close => pushedAdvance s x.d false
          | .undone t => .undone t)

/-- QPOPN: a pop that does not wait for an entry (R235). -/
def execQpopn (x : QF) (s : State) : Host.Outcome State Fault Refusal :=
  run { reason := reasonQpushn x, dsts := [x.d], full := true, irrev := true } s (fun _ s =>
    match windowPort s.me (windowNo 0 x.a) with
    | none => portMisuse s
    | some p => match popPort s p with
      | .ok v s1 => (writeDst s1 x.d v).bind (fun _ s2 => pushedAdvance s2 x.b true)
      | .trap c f => .trap c f
      | .wait (.pop _) _ => pushedAdvance s x.b false
      | .wait w a => .wait w a
      | .close => .close
      | .undone t => .undone t)

/-- A push that goes where port `q` pushes. -/
def pushesTo (core : Nat) (q : Port) : PushTo → Bool
  | .data key _ => q.kind == 1 && q.base == key
  | .scalarQ c i _ => q.kind == 2 && core == c && q.base == i
  | .command e _ place => place && q.kind == 4 && q.base == e

/-- Reserved pushes of the binding that this slot has not committed (R235, R438): the low half of a command counts for its
command. -/
def reservedOf (x : Slot) (core : Nat) (q : Port) : Nat :=
  b2n q.low.isSome + (x.chunk.deferred.map (fun d => match d with
    | .release (.push t _) => b2n (pushesTo core q t)
    | .release (.command e _ _ p) => b2n (q.kind == 4 && q.base == e && p.handle == q.handle)
    | .vec e => (e.pushes.filter (pushesTo core q)).length
    | _ => 0)).sum

/-- Capacity and entries of the queue that a binding names (R233). -/
def capacityOf (s : State) (core : Nat) (q : Port) : Nat × Nat :=
  match q.kind with
  | 1 => match s.queue q.base with
    | some qs => (qs.cap + 1, qs.elems.length)
    | none => (0, 0)
  | 2 => (8, (rd ScalarQ.empty (s.core core).sq q.base).elems.length)
  | 3 => (2, (rd VectorQ.empty (s.core core).vq q.base).elems.length)
  | 4 => (64, (s.engine q.base).cmds.length)
  | _ => (64, (s.resultsOf q.base).length)

/-- A count in a 16-bit field; the spec states no result for a count that the field cannot hold, and a free value stands
for it. -/
def count16 (s : State) (n salt : Nat) : Nat :=
  if n < 65536 then n else (Config.freeWord (4 * s.free + salt)).toNat % 65536

/-- The word that QSTAT gives (R235). -/
def qstatWord (s : State) (sc : BitVec 3) (r : Reg) : Word :=
  match (windowPort s.me (windowNo sc r)).bind s.me.port with
  | none => 0
  | some q =>
    let n := capacityOf s (coreOf s.cur) q
    word (2 ^ 63 + count16 s (reservedOf s.me (coreOf s.cur) q) 0 * 2 ^ 32 + count16 s n.1 1 * 65536 + count16 s n.2 2)

/-- QSTAT. -/
def execQstat (x : QF) (s : State) : Host.Outcome State Fault Refusal :=
  run { reason := reasonQstat x, dsts := [x.d], full := true } s (fun _ s =>
    writeAdvance { s with free := s.free + 1 } x.d (qstatWord s x.sc x.a) 4)

end Sys2Proof.Machine
end

