-- ==== Sys2Proof/Machine/Task.lean ====
section
/-! DEFINITION. Machine/Task.lean: task descriptors and job cards (R31, R32, R240) and the instructions TQENQ, JCENQ,
SPAWN, MIGR, YIELD, EXIT and SLEEP (R239 to R243). -/

namespace Sys2Proof.Machine

/-- Field `[hi:lo]` of a task descriptor (R31). -/
def dsc (d : BitVec 512) (hi lo : Nat) : Nat := bits d.toNat hi lo
/-- The flag bit `i` of a descriptor. -/
def dflag (d : BitVec 512) (i : Nat) : Bool := d.getLsbD i
/-- The group level. -/
def dGlevel (d : BitVec 512) : Nat := dsc d 199 192
/-- The group size. -/
def dGsize (d : BitVec 512) : Nat := dsc d 223 200
/-- The vector context split. -/
def dSplit (d : BitVec 512) : Nat := dsc d 322 320
/-- A launch. -/
def dLaunch (d : BitVec 512) : Bool := dflag d 224
/-- A light thread. -/
def dLight (d : BitVec 512) : Bool := dflag d 225
/-- A pipeline launch. -/
def dPipe (d : BitVec 512) : Bool := dflag d 226

/-- The largest group of a descriptor's level (R36). -/
def gsizeLimit (d : BitVec 512) : Nat :=
  match dGlevel d with
  | 0 => 1
  | 1 => if dLight d then 16 else min 16 (2 ^ dSplit d)
  | 2 => 3072
  | _ => 16777215

/-- The descriptor is accepted at enqueue (R32). -/
def descOk (d : BitVec 512) : Bool :=
  decide (dsc d 447 364 = 0 ∧ dsc d 351 342 = 0 ∧ dsc d 255 230 = 0 ∧ dsc d 229 229 = 0) &&
  decide (dsc d 0 0 = 0 ∧ dGlevel d ≤ 5 ∧ dGsize d ≠ 0 ∧ dSplit d ≤ 4) &&
  decide (dGsize d ≤ gsizeLimit d) &&
  (if dLaunch d then decide (dsc d 287 256 % dGsize d = 0) else decide (dsc d 287 256 = 0)) &&
  (!dLight d || decide (dGlevel d = 0 ∧ dGsize d = 1)) &&
  decide (dsc d 324 323 ≤ dsc d 326 325 ∧ dsc d 329 327 ≤ dsc d 332 330) &&
  (!dPipe d ||
    (decide (dGlevel d = 1) &&
      (if dGsize d = 3 then
        decide (dsc d 355 352 ≠ dsc d 359 356 ∧ dsc d 359 356 ≠ dsc d 363 360 ∧ dsc d 355 352 ≠ dsc d 363 360)
       else decide (dGsize d = 2 ∧ dsc d 355 352 ≠ dsc d 359 356 ∧ dsc d 363 360 = 0))))

/-- A descriptor with bits `[hi:lo]` replaced. -/
def dSet (d : BitVec 512) (hi lo v : Nat) : BitVec 512 :=
  BitVec.ofNat 512 (d.toNat - (dsc d hi lo <<< lo) + ((v % 2 ^ (hi - lo + 1)) <<< lo))

/-- A tile entry of a job card (R240): source, length and destination word, when it is well formed. -/
def tileOf (raw : Nat) : Option (Word × Nat × Nat) :=
  let len := bits raw 95 64
  let dst := bits raw 127 96
  if 262144 < len ∨ 2 ^ 31 ≤ dst then none
  else if len ≠ 0 ∧ (23 < dst / 2 ^ 26 ∨ 191 < dst / 2 ^ 18 % 256 ∨ 262144 < dst % 2 ^ 18 + len) then none
  else some (word raw, len, dst)

/-- The used tiles of a card whose four entries are well formed and name one core (R240). -/
def cardTiles (raw : Nat) : Option (List (Word × Nat × Nat)) :=
  let es := (upFrom 0 4).map (fun i => tileOf (bits raw (128 * i + 127) (128 * i)))
  if es.any Option.isNone then none
  else
    let used := (es.filterMap id).filter (fun t => decide (t.2.1 ≠ 0))
    match used with
    | [] => none
    | t :: ts => if ts.all (fun u => u.2.2 / 2 ^ 18 == t.2.2 / 2 ^ 18) then some used else none

/-- A read at issue by the open chunk, as a scalar load of `n` aligned bytes (R239). -/
def readBlock (s : State) (va : Word) (n : Nat) : R Nat :=
  if va.toNat % n ≠ 0 then .trap (accessCause va 0x13 1 0 false) .none
  else match resolveFor s s.cur va wantRead with
    | (_, .bad c r l) => .trap (accessCause va c r l false) (.access va wantRead)
    | (s1, .ok loc) =>
      if acquireQueued s.me then waitClosed s .drain none
      else .ok (ofLe (loadBytes s1 s1.cur loc n)) (consumePoison (noteLoad s1 loc n) loc n)

/-- The task queue that an enqueue names, checked (R239): live, resident, and then of kind 0. -/
def taskQueue (s : State) (handle : Nat) (k : State → Nat → QueueSt → R Unit) : R Unit :=
  let y := s.me
  match readEntry s s.cur y.asidN y.sys.ptbase y.sys.qtbase handle true with
  | (_, .inr c) => .trap (entryCause y c) .none
  | (s1, .inl e) =>
    if 1 < e.kind then .trap (ownCause y 0x12 18) .none
    else
      let key := queueKey y.asidN handle
      needResident (meetQueue s1 key y.sys.qtbase y.sys.ptbase handle e) key handle (fun s2 =>
        match s2.queue key with
        | some q => if q.kind ≠ 0 then .trap (ownCause y 0x12 18) .none else k s2 key q
        | none => .trap (ownCause y 0x12 18) .none)

/-- One unit of a task queue's counter for an enqueue whose result register is `d` (R239): a blocking form with d = zr. -/
def enqueueUnit (s : State) (q : QueueSt) (d : Reg) (k : State → R Unit) : R Unit :=
  if d = 31 then (takeCapacity s q.ctr s.me.asidN q.ctrVa).bind (fun _ s => k s)
  else tryCapacity s q.ctr s.me.asidN q.ctrVa (fun ok s => if ok then k s else writeAdvance s d 0 4)

/-- The end of an enqueue: s[d] := 1 unless d is zr. -/
def enqueued (s : State) (d : Reg) : R Unit := if d = 31 then .ok () (advance s 4) else writeAdvance s d 1 4

/-- TQENQ (R239). -/
def execTqenq (x : QF) (s : State) : Host.Outcome State Fault Refusal :=
  run { reason := zeroQFSc x, srcs := [x.a, x.b], dsts := [x.d] } s (fun got s =>
    let va := srcVal s got x.a
    (readBlock s va 64).bind (fun raw s =>
      let d := BitVec.ofNat 512 raw
      if descOk d = false then .trap (ownCause s.me 0x12 17) .none
      else taskQueue s ((srcVal s got x.b).toNat % 2 ^ 32) (fun s key q =>
        enqueueUnit s q x.d (fun s => enqueued (defer s (.release (.task key d q.ctr []))) x.d))))

/-- JCENQ (R240). -/
def execJcenq (x : QF) (s : State) : Host.Outcome State Fault Refusal :=
  run { reason := zeroQFSc x, srcs := [x.a, x.b], dsts := [x.d] } s (fun got s =>
    let va := srcVal s got x.a
    (readBlock s va 128).bind (fun raw s =>
      let d := dSet (dSet (BitVec.ofNat 512 raw) 229 229 0) 511 448 0
      let card := dSet (dSet d 229 229 1) 511 448 (va + 64).toNat
      match cardTiles (raw / 2 ^ 512) with
      | none => .trap (ownCause s.me 0x12 17) .none
      | some tiles =>
        if descOk d = false ∨ dLaunch d = true ∨ 1 < dGlevel d then .trap (ownCause s.me 0x12 17) .none
        else taskQueue s ((srcVal s got x.b).toNat % 2 ^ 32) (fun s key q =>
          enqueueUnit s q x.d (fun s => enqueued (defer s (.release (.task key card q.ctr tiles))) x.d))))

/-- SPAWN (R241): a place in the core's run queue is reserved at issue. -/
def execSpawn (x : QF) (s : State) : Host.Outcome State Fault Refusal :=
  run { reason := zeroQFSc x, srcs := [x.a, x.b], dsts := [x.d] } s (fun got s =>
    let c := coreOf s.cur
    let a := srcVal s got x.a
    if runRoom s c then
      enqueued (defer (s.onCore c (fun y => { y with runResv := y.runResv + 1 }))
        (.release (.spawn c (a &&& ~~~1) (srcVal s got x.b) (a.getLsbD 0)))) x.d
    else if x.d = 31 then waitClosed s (.capacity 0 c) none
    else writeAdvance s x.d 0 4)

/-- The core may take a migrating thread of slot `k` (R242). -/
def migrTarget (s : State) (k n : Nat) : Bool :=
  decide (n < 4608) && clusterReadyBit s (n / 192) && decide (partOf s (n / 192) = partOf s (clusterOf k)) &&
    decide (liveOf (s.core n) ≠ 0)

/-- The first reason that holds. -/
def firstReason (a b : Option Nat) : Option Nat :=
  match a with
  | some r => some r
  | none => b

/-- MIGR (R242): the thread waits to leave, and goes on behind MIGR once it has left, or when the target refuses it for 2 µs
(R53); an interrupt of the wait lets it run again. -/
def execMigr (x : QF) (s : State) : Host.Outcome State Fault Refusal :=
  run { reason := firstReason (zeroQFScBD x) (if s.me.light then none else some 3), srcs := [x.a], irrev := true } s
    (fun got s =>
      let n := (srcVal s got x.a).toNat
      if migrTarget s s.cur n = false then .trap (ownCause s.me 0x12 22) .none
      else .wait (.migrate n s.cycle false) none)

/-- A pre-emption that is requested of a slot and enabled (R58, R71). -/
def preemptDue (x : Slot) : Option Nat := if x.ie then x.preempt else none

/-- YIELD: the pre-emption point (R58, R243). -/
def execYield (x : QF) (s : State) : Host.Outcome State Fault Refusal :=
  run { reason := zeroQFScBAD x, irrev := true } s (fun _ s =>
    match preemptDue s.me with
    | none => .ok () (advance s 4)
    | some i =>
      .ok () (takeTrap (s.onMe (fun y => { y with preempt := none })) s.cur ⟨0x03, 0, word i⟩ (s.me.regs.pc + 4) true))

/-- EXIT (R243): the slot leaves the rotation; it is freed, its bindings with it, when its vector unit has finished
(VECTOR_UNIT_DISPATCH). The lease's remaining time returns (R380) unless the supervisor ends a thread whose image keeps
it: the supervisor has read the lease since it took over (DESIGN CHOICE, log 149). -/
def execExit (x : QF) (s : State) : Host.Outcome State Fault Refusal :=
  run { reason := zeroQFScBAD x, irrev := true } s (fun _ s =>
    let s1 := if s.me.spv && s.me.sys.leaseSaved then s else creditPool s s.cur (leaseUnits s.me.sys.lease)
    .ok () (s1.onMe (fun y => { y with
      sys := { y.sys with lease := 0, leaseAsked := false }
      vfault := none, wait := .exited })))

/-- An event that wakes a sleeping slot is pending (R243): an entry at a port bound for popping, or a requested
pre-emption. -/
def sleepEvent (s : State) (k : Nat) : Bool :=
  (s.slot k).preempt.isSome || (boundFields (s.slot k).sys.qmap).any (fun e =>
    match (s.slot k).port e.2 with
    | some q => match q.kind with
      | 1 => match s.queue q.base with | some qs => !qs.elems.isEmpty | none => false
      | 2 => !(rd ScalarQ.empty (s.core (coreOf k)).sq q.base).elems.isEmpty
      | 3 => !(rd VectorQ.empty (s.core (coreOf k)).vq q.base).elems.isEmpty
      | 5 => !(s.resultsOf q.base).isEmpty
      | _ => false
    | none => false)

/-- SLEEP (R243): out of the rotation until the time has passed or an event comes; SLEEP_WAKE writes s[d]. -/
def execSleep (x : QF) (s : State) : Host.Outcome State Fault Refusal :=
  run { reason := zeroQFScB x, srcs := [x.a], dsts := [x.d], irrev := true } s (fun got s =>
    if sleepEvent s s.cur then writeAdvance s x.d 1 4
    else
      let n := (srcVal s got x.a).toNat
      .wait (.sleep (if n = 0 then none else some (s.cycle + n)) x.d) none)

end Sys2Proof.Machine
end

