-- ==== Sys2Proof/Machine/Sched.lean ====
section
/-! DEFINITION. Machine/Sched.lean: residency and retirement of queues (R314 to R318, R466, R467, R469), enqueueing (R30,
R239, R321), starting threads (R34, R53, R278), spans (R55), and the choice of a unit (R322 to R329, R333, R470). -/

namespace Sys2Proof.Machine

/-- Scalar cycles of a microsecond at the nominal level (R7, R374). -/
def usCycles : Nat := 1600

/-! The backing store of a queue (R314). -/

/-- Bytes of an entry. -/
def entryBytes (q : QueueSt) : Nat := if q.kind = 0 then 64 else 8

/-- Physical pieces of the first `n` bytes of a queue's backing store, when they lie in tracked pages of tier 0 or 1
homed on the queue's die. -/
def backingPieces (s : State) (q : QueueSt) : List (Word × Nat) → Option (List (Nat × Nat))
  | [] => some []
  | (va, n) :: rest =>
    if canonical va = false ∨ inWindowRegion va = true then none else
    match walk s va.toNat (bits q.ptbase.toNat 51 12) 4 [] with
    | .bad _ _ _ => none
    | .ok l =>
      if bit l.pte 5 && !bit l.pte 6 && (inTier0 l.pa || inTier1 l.pa) && homeOf l.pa == q.home then
        (backingPieces s q rest).map (fun r => (l.pa, n) :: r)
      else none

/-- The pieces of the first `n` bytes. -/
def backingPrefix (s : State) (q : QueueSt) (n : Nat) : Option (List (Nat × Nat)) :=
  backingPieces s q (pagePieces q.base (n / 4096 + 2) n)

/-- Bytes of what a queue holds, entry after entry in dispatch order. -/
def heldBytes (q : QueueSt) : List Byte :=
  if q.kind = 0 then q.tasks.flatMap (fun t => toLe 64 t.desc.toNat) else q.elems.flatMap (fun v => toLe 8 v.toNat)

/-- The header with a number. -/
def headerBytes (stamp : Nat) : List Byte :=
  (List.range 64).map (fun i => if stamp = 0 then 0 else Config.backing stamp i)

/-- Bytes written over pieces. -/
def putPieces : State → List (Nat × Nat) → List Byte → State
  | s, [], _ => s
  | s, (pa, n) :: rest, bs => putPieces (outsideWrite s pa (bs.take n)) rest (bs.drop n)

/-- The state of a queue written to its backing store under a new header (R317). -/
def spill (s : State) (key : Nat) : State :=
  match s.queue key with
  | none => s
  | some q =>
    let stamp := s.free + 1
    let bs := headerBytes stamp ++ heldBytes q
    let s1 := { s with free := stamp }
    match backingPrefix s1 q bs.length with
    | some ps => (putPieces s1 ps bs).onQueue key (fun q => { q with stamp := stamp })
    | none => s1

/-- The die's limit of resident queues (R316). -/
def queueLimit (s : State) (die : Nat) : Nat := fieldOf (s.dreg (0xF00000010008 + die * 0x1000)) 3 0 * 512

/-- A release names the queue. -/
def Release.names (key : Nat) : Release → Bool
  | .push (.data k _) _ => k == key
  | .task k _ _ _ => k == key
  | _ => false

/-- A committed release waits for the queue to become resident (R317, R318). -/
def awaitedRelease (s : State) (key : Nat) : Bool :=
  s.slots.any (fun e => e.2.vq.any (fun q => match q.work with | .release r => r.names key | _ => false))

/-- A slot waits at the queue: for it to become resident, for an entry, or for capacity. -/
def waitedOn (s : State) (key : Nat) : Bool :=
  s.slots.any (fun e => match e.2.wait with
    | .queueMiss k _ => k == key
    | .pop p => (match e.2.port p with | some q => q.kind == 1 && q.base == key | none => false)
    | .counter c => (match s.queue key with | some q => q.ctr == c | none => false)
    | _ => false) || awaitedRelease s key

/-- A queue holds nothing. -/
def QueueSt.isIdle (q : QueueSt) : Bool := q.tasks.isEmpty && q.elems.isEmpty

/-- The first of two queues in the eviction order of R317. -/
def evictsFirst (a b : Nat × QueueSt) : Bool :=
  decide (b2n (!a.2.isIdle) < b2n (!b.2.isIdle) ∨ (a.2.isIdle = b.2.isIdle ∧ (a.2.last < b.2.last ∨
    (a.2.last = b.2.last ∧ a.1 ≤ b.1))))

/-- The least of a list in an order. -/
def leastBy {α : Type} (f : α → α → Bool) : List α → Option α
  | [] => none
  | x :: xs => match leastBy f xs with
    | none => some x
    | some y => if f x y then some x else some y

/-- Resident queues of a die that `f` admits. -/
def residents (s : State) (die : Nat) (f : Nat → QueueSt → Bool) : List (Nat × QueueSt) :=
  s.queues.filterMap (fun e => match e.2 with
    | some q => if q.resident && q.home == die && f e.1 q then some (e.1, q) else none
    | none => none)

/-- A queue-miss event posted to the host, with the handle in einfo (R254, R318, R423). -/
def postMiss (s : State) (key : Nat) : State :=
  match s.queue key with
  | none => s
  | some q =>
    let s1 := eventRecord s (keyAsid key) 0x07 q.handle 0 4 4 q.home { TaskInfo.none with queue := q.handle }
    { s1 with output := s1.output ++ [.queueMiss key] }

/-- A task that does not lead its queue, or whose queue offers no candidates: it has been a candidate since no cycle (R316, R328,
R329, R331). -/
def QTask.behind (t : QTask) : QTask := { t with led := none, nowhere := none, cand := none, fallback := false }

/-- A queue leaves the queue storage; one that holds tasks joins its die's pending list (R317, R318). -/
def evict (s : State) (key : Nat) : State :=
  match s.queue key with
  | none => s
  | some q =>
    let host := assisted s (q.home * 3) 1
    let s1 := (spill s key).onQueue key (fun q => { q with
      resident := false, joined := s.cycle, posted := false, hostMode := host, tasks := q.tasks.map QTask.behind })
    if q.tasks = [] then s1
    else
      let s2 := s1.onDie q.home (fun d => { d with pending := addOnce d.pending key })
      if host then (postMiss s2 key).onQueue key (fun q => { q with posted := true }) else s2

/-- A place for one more resident queue: free already, or by an eviction; none when no queue can be evicted (R317). -/
def makeRoom (s : State) (die : Nat) : Option State :=
  if residentCount s die < queueLimit s die then some s
  else (leastBy evictsFirst (residents s die (fun k q => !q.pin && !waitedOn s k))).map (fun e => evict s e.1)

/-! Failing launches and retiring queues (R315, R430, R466, R467). -/

/-- A launch fails, once (R430): one record with flag bit 3, and its vector; a device fault's carries flag bit 1 (R424), and one
of cause 0x19 the handle (R466). -/
def failLaunch (s : State) (n code reason : Nat) (addr : Word) (kind unit : Nat) : State :=
  match s.launch n with
  | none => s
  | some l =>
    if l.failed then s else
    let s1 := s.onLaunch n (fun l => { l with failed := true })
    let s2 := logRecord s1 ⟨addr, einfoOf reason 0 false (if code = 0x19 then l.handle else 0), 0, 0xFFFFFFFF, keyAsid l.key, code,
      12 + (if code = 0x1C ∨ code = 0x1D ∨ code = 0x21 then 2 else 0), l.first, l.handle, kind, unit⟩
    if l.irq then raiseMsix s2 (portOfProc s2 (keyAsid l.key)) l.msix else s2

/-- The waits of a retired queue end (R467): an access through a stale binding runs again and traps there; another access of
the slot traps with reason 2, unless a vector fault is pending, which comes first (R422): it runs again then. -/
def rouseRetired (s : State) (key handle ctr : Nat) (qtbase : Word) : State :=
  let asked (k : Nat) : Bool := match s.ctr ctr with
    | some c => (c.asked ++ c.fifo ++ c.parked).any (fun r => r.slot == k && r.kind == 6)
    | none => false
  s.slots.foldl (fun s e =>
    let stale := e.2.ports.any (fun p => match p.2 with
      | some q => q.handle == handle && q.asid == keyAsid key
      | none => false)
    let mine := match e.2.wait with
      | .queueMiss k _ => k == key
      | .pop _ => stale
      | .capacity kind _ => stale && kind != 0
      | .counter c => c == ctr && asked e.1 && (stale || decide (e.2.asidN = keyAsid key))
      | _ => false
    if mine = false then s
    else if stale || e.2.vfault.isSome then (dropRequests s e.1).wake e.1
    else takeTrap s e.1 ⟨0x19, qtbase + word (64 * (handle % 65536)), einfoOf 2 0 false handle⟩ e.2.regs.pc true) s

/-- A push goes to what a handle of a process names, whose queue has number `key`. -/
def PushTo.names (x : Slot) (key handle : Nat) : PushTo → Bool
  | .data k _ => k == key
  | .scalarQ _ _ h => x.asidN == keyAsid key && h == handle
  | .command _ p _ => match x.port p with | some q => q.handle == handle && q.asid == keyAsid key | none => false

/-- The destination of a result whose handle is retired. -/
def staleDst (x : Slot) (key handle : Nat) : Dst → Dst
  | .push r q => if q.names x key handle then .gone r handle q else .push r q
  | d => d

/-- A release whose handle is retired. -/
def staleRelease (x : Slot) (key handle : Nat) : Release → Release
  | .push q v => if q.names x key handle then .gone handle q else .push q v
  | .task k d ctr tiles => if k = key then .gone handle (.data key ctr) else .task k d ctr tiles
  | .command e lo hi p =>
    if p.handle = handle ∧ p.asid = keyAsid key then .gone handle (.command e 0 true) else .command e lo hi p
  | r => r

/-- An entry of the vector instruction queue when a handle is retired: commands of it that are still to be delivered go. -/
def staleEntry (x : Slot) (key handle : Nat) (e : QEntry) : QEntry :=
  { e with
    dst := e.dst.map (staleDst x key handle)
    work := match e.work with
      | .release r => .release (staleRelease x key handle r)
      | .commands p dws i =>
        if p.handle = handle ∧ p.asid = keyAsid key then .release (.gone handle (.command p.base 0 false)) else .commands p dws i
      | w => w }

/-- Every binding of a handle becomes stale, and what its slots have reserved and not committed is to be discarded (R467). -/
def stalePorts (s : State) (key handle : Nat) : State :=
  let mark (l : Store (Option Port)) : Store (Option Port) := l.map (fun p => (p.1, p.2.map (fun q =>
    if q.handle = handle ∧ q.asid = keyAsid key then { q with stale := true } else q)))
  s.slots.foldl (fun s e => s.onSlot e.1 (fun x => { x with
    ports := mark x.ports
    vq := x.vq.map (staleEntry x key handle)
    held := x.held.map (staleEntry x key handle)
    arrivals := x.arrivals.map (fun a => (staleDst x key handle a.1, a.2))
    chunk := { x.chunk with
      ckptPorts := mark x.chunk.ckptPorts
      deferred := x.chunk.deferred.map (fun d => match d with
        | .vec e => .vec (staleEntry x key handle e)
        | .release r => .release (staleRelease x key handle r)
        | d => d) } })) s

/-- The entry of a handle loses its valid bit and takes the next generation, in one store (R315). -/
def regenerate (s : State) (ptbase qtbase : Word) (handle : Nat) : State :=
  match ctrAddr s ptbase (qtbase + word (64 * (handle % 65536) + 16)) with
  | none => s
  | some pa =>
    let w := s.le pa 8
    outsideWrite s pa (toLe 8 ((w % 2 ^ 48 - (if bit w 35 then 2 ^ 35 else 0)) + (w / 2 ^ 48 + 1) % 65536 * 2 ^ 48))

/-- A queue is retired (R315, R466): its tasks are discarded with a record each and their launches fail. -/
def retireQueue (s : State) (key reason : Nat) : State :=
  match s.queue key with
  | none => s
  | some q =>
    let ea := q.qtbase + word (64 * (q.handle % 65536))
    let note (s : State) (i : Nat) : State :=
      logRecord s ⟨ea, einfoOf reason 0 false q.handle, 0, 0xFFFFFFFF, keyAsid key, 0x19, 4, i, q.handle, 4, q.home⟩
    let s1 := if reason = 4 then note s 0 else s
    let s2 := q.tasks.foldl (fun s t =>
      failLaunch (note s (dsc t.desc 319 288 + t.next)) t.launch 0x19 reason ea 4 q.home) s1
    let s3 := regenerate s2 q.ptbase q.qtbase q.handle
    let s4 := stalePorts s3 key q.handle
    let s5 := (s4.putQueue key none).onDie q.home (fun d => { d with pending := d.pending.filter (· != key) })
    rouseRetired s5 key q.handle q.ctr q.qtbase

/-! Spans (R55, R322). -/

/-- Slots of a core that hold full threads. -/
def fullsOf (s : State) (core : Nat) : List Nat := (slotsOf core).filter (fun k => decide ((s.slot k).res = .full))
/-- A core may take a context of a process and split (R67, R278, R322, R390). -/
def offers (s : State) (core asid split : Nat) : Bool :=
  let c := s.core core
  clusterReadyBit s (core / 192) && takesWork c && (c.split.isNone || decide (c.split = some split)) &&
    (decide (fullsOf s core = []) || decide (c.owner = some asid))
/-- The lowest empty slot of a core, or the named one when it is empty. -/
def freeSlot (s : State) (core : Nat) : Option Nat → Option Nat
  | some i => if (s.slot (core * 16 + i)).res = .empty then some (core * 16 + i) else none
  | none => (slotsOf core).find? (fun k => decide ((s.slot k).res = .empty))
/-- The lowest context of a core that is not in use. -/
def freeContext (s : State) (core split : Nat) : Option Nat :=
  (upFrom 0 (2 ^ split)).find? (fun i => !(contextsOf s core).any (fun k => (s.slot k).vec.ctx == i))

/-- The reservation that a cluster holds: the first whose unit still waits (R329). -/
def reserved (s : State) (cluster : Nat) : Option (Nat × Nat × Option Nat) :=
  (s.cluster cluster).reserve.find? (fun r => match s.queue r.1 with
    | some q => q.tasks.any (fun t => t.seq == r.2.1)
    | none => false)

/-- A core's free slots are held for a reservation (R329). -/
def heldCore (s : State) (core : Nat) : Bool :=
  match reserved s (core / 192) with
  | some (_, _, some c) => c == core
  | some (_, _, none) => true
  | none => false

/-- A thread is of the unit that a reservation is for: its task is of that launch, and among the next ones of the group. -/
def ofReserved (s : State) (r : Nat × Nat × Option Nat) (t : TaskInfo) : Bool :=
  match (s.queue r.1).bind (fun q => q.tasks.find? (fun u => u.seq == r.2.1)) with
  | some u =>
    let i := dsc u.desc 319 288 + u.next
    decide (u.launch = t.launch ∧ i ≤ t.index ∧ t.index < i + dGsize u.desc)
  | none => false

/-- A core's free slots and contexts are held for a reservation, and not lent to this thread: it is not of the unit, and no
deadline raises its queue (R329, R334). -/
def heldAgainst (s : State) (core : Nat) (t : TaskInfo) : Bool :=
  heldCore s core && (match reserved s (core / 192) with | some r => !ofReserved s r t | none => false) &&
    !(match s.queue t.key with | some q => q.raised | none => false)

/-- The first core that can hold a further segment of slot `k`, with its slot and context. -/
def segmentPlace (s : State) (k : Nat) : List Nat → Option (Nat × Nat × Nat)
  | [] => none
  | core :: rest =>
    let x := s.slot k
    let used := (k :: x.vec.segs).any (fun j => coreOf j == core)
    if used || !offers s core x.asidN x.vec.split || heldAgainst s core x.task || decide (partOf s (core / 192) ≠ partOf s (clusterOf k)) then
      segmentPlace s k rest
    else match freeSlot s core none, freeContext s core x.vec.split with
      | some j, some c => some (core, j, c)
      | _, _ => segmentPlace s k rest

/-- One more segment attached to slot `k` (R55): it reserves a context and its slot. -/
def attachSegment (s : State) (k : Nat) : Option State :=
  match segmentPlace s k (upFrom 0 4608) with
  | none => none
  | some (core, j, c) =>
    let split := (s.slot k).vec.split
    let seg : Slot := { Slot.empty with
      res := .segment, vec := { Vec.zero with split := split, ctx := c, live := liveOf (s.core core) } }
    let s1 := (s.putSlot j seg).onCore core (fun y => { y with split := some split })
    some (s1.onSlot k (fun x => { x with vec := { x.vec with segs := x.vec.segs ++ [j] } }))

/-- `n` more segments, or none of them. -/
def attachSegments (s : State) (k : Nat) : Nat → Option State
  | 0 => some s
  | n + 1 => match attachSegment s k with
    | some s1 => attachSegments s1 k n
    | none => none

/-! Starting threads (R34, R53). -/

/-- The scratchpad of a core scrubbed to zero (R278, R398). -/
def scrubCore (s : State) (core : Nat) : State :=
  let base := winKey (core / 192) (core % 192 * 0x40000)
  let hit (a : Nat) : Bool := decide (base ≤ a ∧ a < base + 0x40000)
  let rs := s.slots.filter (fun e => e.2.chunk.rset.any (fun sec => hit (64 * sec)))
  let s1 := (rs.map Prod.fst).foldl squash s
  { s1 with mem := delWhere hit s1.mem, poison := delWhere hit s1.poison }

/-- The registers a thread of a task starts with (R34). -/
def startRegs (t : QTask) (i : Nat) : Regs :=
  let first := dsc t.desc 319 288
  let g := dGsize t.desc
  let vals := [dsc t.desc 127 64, i, (i - first) / g, (i - first) % g, g, dsc t.desc 191 128]
  { Regs.zero with
    pc := word (dsc t.desc 63 0)
    s := (vals.zip (upFrom 0 6)).foldl (fun m e => wr 0 m e.2 (word e.1)) [] }

/-- The effective class of a queue's task (R324, R334). -/
def effClass (q : QueueSt) (t : QTask) : Nat := if q.raised then 0 else q.cls - t.aged

/-- The system registers a thread of a queue starts with (R34, R71, R376, R378). -/
def startSys (s : State) (k key : Nat) (q : QueueSt) (t : QTask) : SysRegs :=
  let pw := dsc t.desc 341 333
  { SysRegs.zero with
    status := word (4 + 16 * b2n (dLight t.desc) + 32 * b2n (dflag t.desc 228) +
      64 * b2n (dflag t.desc 227))
    svec := ((rd none s.procs (keyAsid key)).getD ⟨0, 0, 0⟩).svec
    pwreq := word (if pw = 0 then 0x16D else pw)
    pwbud := s.dreg (0xF00000030008 + partOf s (clusterOf k) * 0x1000)
    qtbase := q.qtbase, ptbase := q.ptbase, asid := word (keyAsid key) }

/-- What a thread of a task runs for. -/
def startInfo (s : State) (key : Nat) (q : QueueSt) (t : QTask) (i : Nat) : TaskInfo :=
  ⟨q.handle, key, t.launch, i, dsc t.desc 319 288, dGsize t.desc, effClass q t, s.cycle, none⟩

/-- A full thread's core passes to its process, with its scratchpad scrubbed when it was another's, takes its split, and
gets it as matrix owner when it has none: when mown is 0xFF. A mown that names a context without a thread stays, which R34 and
R68 leave open (DESIGN CHOICE, log 181) (R34, R67, R68, R278). -/
def claimCore (s : State) (core asid split ctx : Nat) : State :=
  let c := s.core core
  let s1 := if c.owner = none ∨ c.owner = some asid then s else scrubCore s core
  let s2 := s1.onCore core (fun y => { y with owner := some asid, split := some split })
  if c.mown = 0xFF then setOwner s2 core ctx else s2

/-- A thread of a task starts in slot `k` with context `ctx`. -/
def startThread (s : State) (k key : Nat) (q : QueueSt) (t : QTask) (i ctx : Nat) : State :=
  let light := dLight t.desc
  let x : Slot := { Slot.empty with
    res := if light then .light else .full
    regs := startRegs t i
    sys := startSys s k key q t
    vec := if light then Vec.zero else { Vec.zero with
      live := liveOf (s.core (coreOf k)), split := dSplit t.desc, ctx := ctx
      smin := dsc t.desc 324 323, smax := dsc t.desc 326 325 }
    task := startInfo s key q t i }
  let s1 := if light then s else claimCore s (coreOf k) (keyAsid key) (dSplit t.desc) ctx
  s1.putSlot k x

/-- A packet of a core's run queue starts in a slot (R52, R53): a thread that arrives performs its instruction first. The run of a
spawned thread begins here (R331). -/
def startPacket (s : State) (k : Nat) (p : Packet) : State :=
  let regs := { Regs.zero with
    pc := p.pc, p := p.p, cdst := p.cdst
    s := (p.regs.zip (upFrom 0 10)).foldl (fun m e => wr 0 m e.2 e.1) [] }
  let s1 := s.putSlot k { Slot.empty with
    res := .light, regs := regs, sys := p.sys, held := p.held
    task := if p.fresh then { p.task with since := s.cycle } else p.task
    preempt := if p.preempt then some 0 else none }
  s1.onCore (coreOf k) (fun c => { c with runq := c.runq.drop 1 })

/-! Units (R30, R322). -/

/-- The ready task that leads a resident queue (R322): a job card whose tiles have not landed is passed over. -/
def leadOf (q : QueueSt) : Option QTask := if q.resident then q.tasks.find? (fun t => t.tiles == 0) else none
/-- A gang launch. -/
def isGang (t : QTask) : Bool := dLaunch t.desc && decide (dGlevel t.desc = 1 ∨ dGlevel t.desc = 2)
/-- Threads that the next unit starts. -/
def unitSize (t : QTask) : Nat :=
  if isGang t then dGsize t.desc else if dLaunch t.desc ∧ dsc t.desc 287 256 = 0 then 0 else 1
/-- Slots that a unit occupies, span segments included (R325). -/
def unitCost (t : QTask) : Nat := unitSize t * (1 + dsc t.desc 324 323)
/-- The slot that the role of a member is pinned to (R49): also that of a plain task with pipe set, of which R49 does not speak
(DESIGN CHOICE, log 180). -/
def roleSlot (t : QTask) (j : Nat) : Option Nat :=
  if dPipe t.desc then
    some (match j with | 0 => dsc t.desc 355 352 | 1 => dsc t.desc 359 356 | _ => dsc t.desc 363 360)
  else none

/-- Some cluster could hold the unit with every slot free and every lane live (R470). -/
def everFits (s : State) (t : QTask) : Bool :=
  let per := if dLight t.desc then 16 else 2 ^ dSplit t.desc
  let part := if s.modctl.getLsbD 2 then 2304 else 4608
  decide (unitSize t ≤ (if dGlevel t.desc = 2 then 192 * per else per) ∧ unitCost t ≤ part * per)

/-! Resume tasks (R333, R471). -/

/-- A word of a process's memory, read by the part; zero where it cannot be read. -/
def peekWord (s : State) (cluster asid : Nat) (ptbase va : Word) : Word :=
  match procRead s (cluster * 3072) asid ptbase va 8 with
  | (_, .ok v) => word v
  | _ => 0

/-- Saved split, segments, vl, vtype, tmode, and tm, tn, tk of the image at an address (R78). -/
structure Image where
  split : Nat
  segs : Nat
  vl : Nat
  vtype : Word
  tmode : Word
  tm : Nat
  tn : Nat
  tk : Nat
  deriving DecidableEq, Repr

/-- The image of a resume task. -/
def imageOf (s : State) (key : Nat) (q : QueueSt) (t : QTask) : Image :=
  let arg := word (dsc t.desc 127 64)
  let at_ (n : Nat) : Word := peekWord s (q.home * 3) (keyAsid key) q.ptbase (arg + word n)
  let h := at_ 0
  let m := at_ 16
  { split := fieldOf h 15 8, segs := fieldOf h 23 16, vl := (at_ 320).toNat, vtype := at_ 328, tmode := at_ 344
    tm := fieldOf m 15 0, tn := fieldOf m 31 16, tk := fieldOf m 47 32 }

/-- The saved state that the placement of slot `k` does not cover, by its reason (R471). -/
def coverFails (s : State) (k : Nat) (im : Image) : List Nat :=
  let v := (s.slot k).vec
  let w := vlenEff v.vlen v.live
  let max := vlmaxSeg im.vtype w * im.segs
  let mode := fieldOf im.tmode 9 8
  let fa := fieldOf im.tmode 3 0
  let fb := fieldOf im.tmode 7 4
  let i8 := im.tmode.getLsbD 10
  let g := grantTile mode i8 fa fb max (w * vtG im.vtype) im.tm im.tn im.tk
  (if (attachSegments s k (im.segs - 1)).isNone then [1] else []) ++ (if max < im.vl then [2] else []) ++
    (if ¬ (im.tm = 0 ∧ im.tn = 0 ∧ im.tk = 0) ∧ (mode = 3 ∨ tileCodesOk mode i8 fa fb = false ∨
      g.1 < im.tm ∨ g.2.1 < im.tn ∨ g.2.2 < im.tk) then [3] else [])

/-- What each other core that fits a resume task would not cover, its thread started there as it is in slot `k` (R471). -/
def otherFails (s : State) (k : Nat) (im : Image) : List (List Nat) :=
  let x := s.slot k
  (upFrom 0 4608).filterMap (fun core =>
    if core = coreOf k ∨ offers s core x.asidN x.vec.split = false ∨ partOf s (core / 192) ≠ partOf s (clusterOf k) then none
    else match freeSlot s core none, freeContext s core x.vec.split with
      | some j, some c =>
        some (coverFails (s.putSlot j { x with vec := { x.vec with ctx := c, live := liveOf (s.core core) } }) j im)
      | _, _ => none)

/-- A resume task in its slot: with the saved segments, or not on this core. One that has waited 10 ms, and that no fitting core
covers, traps before its first instruction with the lowest reason that holds of all of them (R333, R471). -/
def settleResume (s : State) (k key : Nat) (q : QueueSt) (t : QTask) : Option State :=
  let im := imageOf s key q t
  match coverFails s k im with
  | [] => if im.split = dSplit t.desc ∨ t.overdue = true then attachSegments s k (im.segs - 1) else none
  | r :: rs =>
    let others := if t.overdue then otherFails s k im else []
    if t.overdue = true ∧ others.contains [] = false then
      let x := s.slot k
      let reason := ((r :: rs).find? (fun n => others.all (fun l => l.contains n))).getD r
      let s1 := s.onSlot k (fun y => { y with task := { y.task with stuck := some (reason, x.regs.get 0) } })
      some (takeTrap s1 k ⟨0x1A, x.regs.get 0, einfoOf reason 0 false 0⟩ x.regs.pc true)
    else none

/-! Placement (R38, R322, R323). -/

/-- One member started on a core, with its slot. -/
def placeMember (s : State) (core key : Nat) (q : QueueSt) (t : QTask) (i : Nat) (role : Option Nat) :
    Option (State × Nat) :=
  if dLight t.desc then
    if clusterReadyBit s (core / 192) && takesWork (s.core core) then
      (freeSlot s core none).map (fun k => (startThread s k key q t i 0, k))
    else none
  else if offers s core (keyAsid key) (dSplit t.desc) then
    match freeSlot s core role, freeContext s core (dSplit t.desc) with
    | some k, some c =>
      let s1 := startThread s k key q t i c
      if q.resume then (settleResume s1 k key q t).map (fun s2 => (s2, k)) else some (s1, k)
    | _, _ => none
  else none

/-- `n` members started on one core, from member `j` of the unit on. -/
def placeOn (s : State) (core key : Nat) (q : QueueSt) (t : QTask) (i j : Nat) : Nat → List Nat → Option (State × List Nat)
  | 0, ks => some (s, ks)
  | n + 1, ks => match placeMember s core key q t i (roleSlot t j) with
    | some (s1, k) => placeOn s1 core key q t (i + 1) (j + 1) n (ks ++ [k])
    | none => none

/-- As many members as a core takes. -/
def fillCore (s : State) (core key : Nat) (q : QueueSt) (t : QTask) (i : Nat) :
    Nat → Nat → List Nat → State × Nat × List Nat
  | 0, n, ks => (s, n, ks)
  | fuel + 1, n, ks =>
    if n = 0 then (s, 0, ks) else
    match placeMember s core key q t i none with
    | some (s1, k) => fillCore s1 core key q t (i + 1) fuel (n - 1) (ks ++ [k])
    | none => (s, n, ks)

/-- `n` members spread over the cores in their order. -/
def spread (key : Nat) (q : QueueSt) (t : QTask) (i0 n0 : Nat) : State → Nat → List Nat → List Nat → Option (State × List Nat)
  | s, n, ks, [] => if n = 0 then some (s, ks) else none
  | s, n, ks, core :: rest =>
    let r := fillCore s core key q t (i0 + (n0 - n)) 16 n ks
    spread key q t i0 n0 r.1 r.2.1 r.2.2 rest

/-- The first core that takes a whole unit. -/
def firstCore (s : State) (key : Nat) (q : QueueSt) (t : QTask) (i n : Nat) : List Nat → Option (State × List Nat)
  | [] => none
  | core :: rest => match placeOn s core key q t i 0 n [] with
    | some r => some r
    | none => firstCore s key q t i n rest

/-- The segments of smin could be reserved for every started thread (R55). -/
def segmentsFit (s : State) (n : Nat) : List Nat → Bool
  | [] => true
  | k :: rest => match attachSegments s k (n - (s.slot k).vec.segs.length) with
    | some s1 => segmentsFit s1 n rest
    | none => false

/-- The cores of a cluster in the order of R323: for a full thread those that run its process come first. -/
def coreOrder (s : State) (cluster asid : Nat) (light : Bool) : List Nat :=
  let all := upFrom (cluster * 192) 192
  if light then all
  else
    let mine := all.filter (fun c => decide (fullsOf s c ≠ [] ∧ (s.core c).owner = some asid))
    mine ++ all.filter (fun c => !mine.contains c)

/-- The next unit of a task started on the given cores. -/
def placeUnit (s : State) (key : Nat) (q : QueueSt) (t : QTask) (cores : List Nat) : Option State :=
  let n := unitSize t
  let i := dsc t.desc 319 288 + t.next
  let r := if n = 0 then some (s, [])
    else if dGlevel t.desc = 2 ∧ isGang t = true then spread key q t i n s n [] cores
    else firstCore s key q t i n cores
  match r with
  | none => none
  | some (s1, ks) =>
    if dLight t.desc ∨ (q.resume = true ∧ t.overdue = true) ∨ segmentsFit s1 (dsc t.desc 324 323) ks = true then some s1 else none

/-! Die sets (R38, R39, R326, R383). -/

/-- Headroom of a compute die: the sum over its open clusters of 105 °C less their temperature (R383). -/
def headroom (s : State) (d : Nat) : Int :=
  ((upFrom (3 * d) 3).map (fun c =>
    if (s.cluster c).isOpen && clusterReadyBit s c then 105 - ((s.cluster c).temp : Int) else 0)).foldl (· + ·) 0

/-- Dies with a cluster that accepts the task, best headroom first, ties to the lowest number. -/
def acceptingDies (s : State) (key : Nat) (q : QueueSt) (t : QTask) : List Nat :=
  let ok := (upFrom 0 8).filter (fun d => decide (partOf s (3 * d) = partOf s (3 * q.home)) &&
    (upFrom (3 * d) 3).any (fun c => (placeUnit s key q t (coreOrder s c (keyAsid key) (dLight t.desc))).isSome))
  ok.foldl (fun l d => l.takeWhile (fun e => decide (headroom s d ≤ headroom s e)) ++ [d] ++
    l.dropWhile (fun e => decide (headroom s d ≤ headroom s e))) []

/-- The die set of a launch with a die added, when the set may hold it; its first dmin + 1 dies are the best ranked of those
that accept it (R39, R383). -/
def joinDies (s : State) (key : Nat) (q : QueueSt) (t : QTask) (l : Launch) (d : Nat) : Option (List Nat) :=
  let base := if l.dies = [] ∧ dLaunch t.desc = true then
      let a := acceptingDies s key q t
      if a.length ≤ l.dmin then none else some (a.take (l.dmin + 1))
    else some l.dies
  match base with
  | none => none
  | some b => if b.contains d then some b else if b.length ≤ l.dmax then some (b ++ [d]) else none

/-- A die group whose first member has fixed another die (R38, R322). -/
def groupElsewhere (t : QTask) (l : Launch) (d : Nat) : Bool :=
  dLaunch t.desc && decide (dGlevel t.desc = 3 ∧ t.next % dGsize t.desc ≠ 0) &&
    (match l.groupDie with | some g => g != d | none => false)

/-! Queues after a change of their leading task. -/

/-- A unit of capacity that a started or discarded task gives back (R319). -/
def unitBack (s : State) (cluster key : Nat) (q : QueueSt) (t : QTask) : State :=
  returnUnit s cluster (keyAsid key) t.ctr q.ctrVa q.home q.handle

/-- The leading task is noted at the cycle it first leads, and the tasks behind it lead no longer; one that no cluster could
ever hold fails its launch (R329, R470). -/
def settleQueue (s : State) (key : Nat) : Nat → State
  | 0 => s
  | n + 1 =>
    match s.queue key with
    | none => s
    | some q => match leadOf q with
      | none => s
      | some t =>
        if t.led.isSome || everFits s t then
          s.onQueue key (fun q => { q with tasks := q.tasks.map (fun u =>
            if u.seq = t.seq then { u with led := some (u.led.getD s.cycle) } else u.behind) })
        else
          let s1 := failLaunch s t.launch 0x12 25 0 4 q.home
          let s2 := s1.onQueue key (fun q => { q with tasks := q.tasks.filter (fun u => !(u.seq == t.seq)) })
          settleQueue ((unitBack s2 (q.home * 3) key q t).onLaunch t.launch (fun l => { l with left := 0 })) key n

/-- The queue settled over as many tasks as it holds. -/
def settle (s : State) (key : Nat) : State :=
  match s.queue key with
  | some q => settleQueue s key (q.tasks.length + 1)
  | none => s

/-! Residency (R314 to R318). -/

/-- The slot waits for a queue that is not resident. -/
def Wait.misses (key : Nat) : Wait → Bool
  | .queueMiss k _ => k == key
  | _ => false

/-- A queue's entry and its backing store are read in, and it is resident; a store or header that is inconsistent retires
it (R314, R316, R317). -/
def bringIn (s : State) (key : Nat) : State :=
  match s.queue key with
  | none => s
  | some q =>
    match readEntry s (q.home * 9216) (keyAsid key) q.ptbase q.qtbase q.handle true with
    | (s1, .inr _) => retireQueue s1 key 4
    | (s1, .inl e) =>
      let q1 := queueOfEntry s1 (keyAsid key) q.qtbase q.ptbase q.handle e
      let n := 64 + entryBytes q * (q.tasks.length + q.elems.length)
      match backingPrefix s1 q1 (64 + entryBytes q * (q1.cap + 1)), backingPrefix s1 q1 n with
      | some _, some ps =>
        let bs := ps.flatMap (fun p => rdMany unlistedByte s1.mem p.1 p.2)
        if bs.take 64 ≠ headerBytes q.stamp ∨ q1.kind ≠ q.kind ∨ q1.home ≠ q.home then
          retireQueue s1 key 4
        else
          let entry (i : Nat) : Nat := ofLe ((bs.drop (64 + entryBytes q * i)).take (entryBytes q))
          let full := q.stamp ≠ 0
          let q2 := { q1 with
            resident := true, raised := q.raised, last := s.cycle, stamp := q.stamp
            tasks := if full then (q.tasks.zip (upFrom 0 q.tasks.length)).map (fun e =>
              { e.1 with desc := BitVec.ofNat 512 (entry e.2) }) else q.tasks
            elems := if full then (upFrom 0 q.elems.length).map (fun i => word (entry i)) else q.elems }
          let s2 := (s1.putQueue key (some q2)).onDie q.home (fun d =>
            { d with pending := d.pending.filter (· != key) })
          settle (wakeWhere s2 (fun _ x => x.wait.misses key)) key
      | _, _ => retireQueue s1 key 4

/-- A queue becomes resident in hardware mode if a place is free or can be made (R317, R318). -/
def ensureResident (s : State) (key : Nat) : State :=
  match s.queue key with
  | none => s
  | some q => if q.resident = true ∨ q.lost = true ∨ assisted s (q.home * 3) 1 = true then s else match makeRoom s q.home with
    | some s1 => bringIn s1 key
    | none => s

/-- A change of the entries of a queue that may not be resident: its backing store follows. -/
def onEntries (s : State) (key : Nat) (f : QueueSt → QueueSt) : State :=
  let s1 := (ensureResident s key).onQueue key (fun q => { f q with last := s.cycle })
  if residentQ s1 key then s1 else spill s1 key

/-- The task of a queue with a sequence number changed. -/
def onTask (s : State) (key seq : Nat) (f : QTask → QTask) : State :=
  s.onQueue key (fun q => { q with tasks := q.tasks.map (fun t => if t.seq = seq then f t else t) })

/-- The bookkeeping of a unit that has started at a cluster (R30, R319, R326). -/
def unitStarted (s : State) (cluster key : Nat) (q : QueueSt) (t : QTask) (dies : List Nat) : State :=
  let d := cluster / 3
  let n := unitSize t
  let last := !dLaunch t.desc || decide (dsc t.desc 287 256 ≤ t.next + n)
  let s1 := s.onLaunch t.launch (fun l => { l with
    dies := dies, started := l.started || last
    groupDie := if t.next % dGsize t.desc = 0 then some d else l.groupDie })
  let s2 := s1.onCluster cluster (fun c => { c with
    reserve := c.reserve.filter (fun r => !(r.1 == key && r.2.1 == t.seq)) })
  let s3 := touchQueue s2 key
  let s4 := if last then
      unitBack (s3.onQueue key (fun q => { q with tasks := q.tasks.filter (fun u => !(u.seq == t.seq)) })) cluster key q t
    else onTask s3 key t.seq (fun u => {
      u.behind with next := u.next + n, victims := [] })
  settle s4 key

/-- The leading unit of a queue started at a cluster, when it is a candidate there (R322). -/
def tryUnit (s : State) (cluster key : Nat) : Option (State × QTask) :=
  match s.queue key with
  | none => none
  | some q =>
    if partOf s cluster ≠ partOf s (3 * q.home) ∨ q.kind ≠ 0 then none else
    match leadOf q with
    | none => none
    | some t => match s.launch t.launch with
      | none => none
      | some l =>
        let resv := reserved s cluster
        let mine := match resv with | some r => decide (r.1 = key ∧ r.2.1 = t.seq) | none => false
        let order := coreOrder s cluster (keyAsid key) (dLight t.desc)
        let cores := match resv with
          | none => order
          | some (_, _, none) => if mine || q.raised then order else []
          | some (_, _, some c) =>
            if mine then [c] else if q.raised then order else order.filter (· != c)
        let cores := match t.core with
          | none => cores
          | some c => cores.filter (· == c)
        if groupElsewhere t l (cluster / 3) || (l.isTranslation && (assisted s (3 * q.home) 4 || !Config.imageVerified 2)) then none
        else match joinDies s key q t l (cluster / 3) with
          | none => none
          | some ds => (placeUnit s key q t cores).map (fun s1 => (unitStarted s1 cluster key q t ds, t))

/-- A closed cluster may start the leading unit of a queue (R328). -/
def mayStart (s : State) (cluster key : Nat) : Bool :=
  (s.cluster cluster).isOpen ||
  (match s.queue key with
    | some q => q.raised || (match leadOf q with
      | some t => t.fallback || (match reserved s cluster with
        | some r => decide (r.1 = key ∧ r.2.1 = t.seq)
        | none => false)
      | none => false)
    | none => false)

/-- A candidate: its queue, its task, its effective class. -/
structure Cand where
  key : Nat
  task : QTask
  cls : Nat
  deriving DecidableEq, Repr

/-- The candidates at a cluster from the queues of a die (R322). -/
def candidates (s : State) (cluster die : Nat) : List Cand :=
  s.queues.filterMap (fun e => match e.2 with
    | none => none
    | some q =>
      if q.home = die ∧ mayStart s cluster e.1 = true then
        match tryUnit s cluster e.1, leadOf q with
        | some _, some t => some ⟨e.1, t, effClass q t⟩
        | _, _ => none
      else none)

/-- The weight of a process (R312); 1 where its header cannot be read. -/
def weightOf (s : State) (key : Nat) : Nat :=
  match s.queue key with
  | some q => max 1 ((peekWord s (q.home * 3) (keyAsid key) q.ptbase q.qtbase).toNat % 256)
  | none => 1

/-- The candidate of a process with the lowest key and then the lowest enqueue sequence. -/
def bestOf (l : List Cand) : Option Cand :=
  leastBy (fun a b => decide (dsc a.task.desc 191 128 < dsc b.task.desc 191 128 ∨
    (dsc a.task.desc 191 128 = dsc b.task.desc 191 128 ∧ a.task.seq ≤ b.task.seq))) l

/-- Deficit round robin (R325): the first process whose deficit covers its candidate; otherwise each gains 16 times its
weight. -/
def roundRobin (s : State) (l : List (Nat × Cand)) : Nat → Store Nat → Option (Nat × Cand × Store Nat)
  | 0, _ => none
  | fuel + 1, def_ =>
    match l.find? (fun e => decide (unitCost e.2.task ≤ rd 0 def_ e.1)) with
    | some (a, c) => some (a, c, wr 0 def_ a (rd 0 def_ a - unitCost c.task))
    | none => roundRobin s l fuel (l.foldl (fun m e => wr 0 m e.1 (rd 0 m e.1 + 16 * weightOf s e.2.key)) def_)

/-- The members of a list without repeats, in ascending order. -/
def ascending (l : List Nat) : List Nat :=
  l.foldl (fun r x => if r.contains x then r
    else r.takeWhile (fun y => decide (y < x)) ++ [x] ++ r.dropWhile (fun y => decide (y < x))) []

/-- The deficits that are not those of a process with a candidate at the cluster, which are zero (R325). -/
def staleDeficits (s : State) (cluster : Nat) : List Nat :=
  match s.clusters.find? (fun e => e.1 == cluster && e.2.deficit != []) with
  | none => []
  | some e =>
    let asids := ((upFrom 0 8).flatMap (candidates s cluster)).map (fun c => keyAsid c.key)
    (keysOf e.2.deficit).filter (fun a => !asids.contains a)

/-- Those deficits set to zero. -/
def clearDeficits (s : State) (cluster : Nat) : State :=
  let l := staleDeficits s cluster
  if l = [] then s else s.onCluster cluster (fun y => { y with deficit := l.foldl (fun m a => wr 0 m a 0) y.deficit })

/-- The choice among candidates at a cluster (R323 to R325): the chosen one, with the cluster's deficits and pointer. -/
def choose (s : State) (cluster : Nat) (cs : List Cand) : Option (State × Cand) :=
  match leastBy (fun a b => decide (a ≤ b)) (cs.map Cand.cls) with
  | none => none
  | some c =>
    let asids := ascending ((cs.filter (fun e => e.cls == c)).map (fun e => keyAsid e.key))
    let ptr := (s.cluster cluster).rrPtr
    let order := asids.filter (fun a => decide (ptr < a)) ++ asids.filter (fun a => decide (a ≤ ptr))
    let l := order.filterMap (fun a =>
      (bestOf (cs.filter (fun e => e.cls == c && keyAsid e.key == a))).map (fun e => (a, e)))
    match roundRobin s l 1024 (s.cluster cluster).deficit with
    | none => none
    | some (a, e, d) => some (s.onCluster cluster (fun y => { y with deficit := d, rrPtr := a }), e)

/-- A cluster has a free slot. -/
def hasFreeSlot (s : State) (cluster : Nat) : Bool :=
  (upFrom (cluster * 192) 192).any (fun c => takesWork (s.core c) && (freeSlot s c none).isSome)

/-- The lowest core of a cluster whose run queue holds a packet that a free slot can take (R53, R323). -/
def packetCore (s : State) (cluster : Nat) : Option (Nat × Nat × Packet) :=
  (s.cores.filterMap (fun e =>
    if e.1 / 192 = cluster ∧ heldCore s e.1 = false ∧ liveOf e.2 ≠ 0 then
      match e.2.runq, freeSlot s e.1 none with
      | p :: _, some k => some (e.1, k, p)
      | _, _ => none
    else none)).head?

/-! Enqueueing (R30, R321, R324). -/

/-- A task takes its place by key and then by sequence. -/
def insertTask (t : QTask) : List QTask → List QTask
  | [] => [t]
  | u :: us =>
    if dsc t.desc 191 128 < dsc u.desc 191 128 ∨
      (dsc t.desc 191 128 = dsc u.desc 191 128 ∧ t.seq < u.seq) then t :: u :: us
    else u :: insertTask t us

/-- A task of the system translator queue, which is of kind 0 and class 7 (R406): a plain task that is no graphics task. -/
def asksTranslator (key : Nat) (q : QueueSt) (d : BitVec 512) : Bool :=
  q.kind == 0 && q.cls == 7 && key % 65536 == Config.translatorQueue (keyAsid key) && !dLaunch d && !dflag d 227

/-- The core that a launch of a translation runs on (R407): actor i on core i of the cluster that the translation is for. A launch is one
of a translation when its descriptor is one that the translation holds (R408). -/
def translatedCore (s : State) (asid : Nat) (d : BitVec 512) : Option Nat :=
  (s.translations.filter (fun t => t.asid == asid)).findSome? (fun t => t.out.bind (fun bs =>
    ((List.range 192).find? (fun i => decide (64 + 64 * i + 64 ≤ bs.length ∧ ofLe (bs.take 4) = 0x31464150) &&
      (bs.drop (64 + 64 * i)).take 64 == toLe 64 d.toNat)).map (fun i => t.cluster * 192 + i)))

/-- A launch record for a task that nothing else counts. -/
def newLaunch (key : Nat) (q : QueueSt) (d : BitVec 512) : Launch :=
  { key, handle := q.handle, left := if dLaunch d then dsc d 287 256 else 1, failed := false, started := false, dies := []
    dmax := dsc d 332 330, dmin := dsc d 329 327, first := dsc d 319 288, groupDie := none
    isTranslation := asksTranslator key q d, arg := word (dsc d 127 64)
    doneVa := q.doneVa, irq := q.irq, msix := q.msix, ptbase := q.ptbase, home := q.home, peers := 0
    remote := none, ended := 0 }

/-- A descriptor enters a queue (R30, R239, R321): with a launch of its own, or as a thread of an existing launch (R332,
R458). -/
def enqueueTask (s : State) (key : Nat) (d : BitVec 512) (ctr : Nat) (tiles : Nat) (core : Option Nat)
    (inLaunch : Option Nat) (replay : Bool) : State :=
  match s.queue key with
  | none => s
  | some q =>
    let seq := (s.die q.home).seq + 1
    let s1 := s.onDie q.home (fun y => { y with seq := seq })
    let n := s1.nlaunch + 1
    let s2 := match inLaunch with
      | some m => s1.onLaunch m (fun l => { l with left := l.left + (if dLaunch d then dsc d 287 256 else 1) })
      | none => { s1 with nlaunch := n, launches := wr none s1.launches n (some (newLaunch key q d)) }
    let t : QTask := ⟨d, seq, inLaunch.getD n, 0, tiles, s.cycle, 0, none, none, none, false, false, ctr, s.cycle,
      core.or (translatedCore s (keyAsid key) d), [], replay⟩
    settle (onEntries s2 key (fun q => { q with tasks := insertTask t q.tasks })) key

end Sys2Proof.Machine
end

