-- ==== Sys2Proof/Machine/Commit.lean ====
section
/-! DEFINITION. Machine/Commit.lean: the commit of a chunk (R293, R294, R296) and what its releases do (R231, R236, R239,
R241, R298, R358, R467), and the stuck tile of a commit block (R488). -/

namespace Sys2Proof.Machine

/-- The record of a push or enqueue that is discarded because its handle was retired (R466, R467). -/
def staleRecord (s : State) (k handle : Nat) : State :=
  let x := s.slot k
  logRecord s ⟨x.sys.qtbase + word (64 * (handle % 65536)), einfoOf 3 0 false handle, 0, k, x.asidN, 0x19, 4, x.task.index,
    x.task.queue, 0, 0⟩

/-- An engine takes a command with the binding it came through (R236). -/
def giveCommand (s : State) (k e : Nat) (lo hi : Word) (p : Port) : State :=
  let x := s.slot k
  let c : Cmd := ⟨lo, hi, p.handle, p.asid, x.sys.ptbase, x.sys.qtbase, p.opt, k, x.task, none, 0, 0, 0, none, 0, !x.spv⟩
  s.onEngine e (fun y => { y with
    cmds := y.cmds ++ [{ c with seq := y.next }], next := y.next + 1
    since := if y.cmds = [] ∧ y.fly = [] ∧ y.tiles = [] then s.cycle else y.since })

/-- The engine that a job card's tiles go to (R358). -/
def tileEngine (core : Nat) : Nat := 4 * (core / 576) + core % 4

/-- The core that a tile entry names (R240). -/
def tileCore (dst : Nat) : Nat := dst / 2 ^ 26 * 192 + dst / 2 ^ 18 % 256

/-- A task enters its queue, and a job card's tiles go to their engine (R239, R240, R358); a supervisor that enqueues
the resume task again has answered its trap (R471). -/
def releaseTask (s : State) (k key : Nat) (d : BitVec 512) (ctr : Nat) (tiles : List (Word × Nat × Nat)) : State :=
  match s.queue key with
  | none => s
  | some q =>
    let x := s.slot k
    let inL := if q.resume && (s.launch x.task.launch).isSome then some x.task.launch else none
    let core := tiles.head?.map (fun t => tileCore t.2.2)
    let s0 := if q.resume then s.onSlot k (fun y => { y with task := { y.task with stuck := none } }) else s
    let s1 := enqueueTask s0 key d ctr tiles.length core inL false
    match core with
    | none => s1
    | some c =>
      let seq := (s1.die q.home).seq
      let cmds := tiles.map (fun t =>
        (⟨t.1, word (t.2.1 + t.2.2 * 2 ^ 32), q.handle, keyAsid key, x.sys.ptbase, x.sys.qtbase, 0, k, x.task,
          some (key, seq), 0, 0, 0, none, 0, !x.spv⟩ : Cmd))
      s1.onEngine (tileEngine c) (fun e => { e with
        tiles := e.tiles ++ (cmds.zip (upFrom e.next cmds.length)).map (fun c => { c.1 with seq := c.2 })
        next := e.next + cmds.length
        since := if e.cmds = [] ∧ e.fly = [] ∧ e.tiles = [] then s.cycle else e.since })

/-- A spawned light thread joins the core's run queue (R241); one of a peer's launch is reported there (R327). -/
def releaseSpawn (s : State) (k core : Nat) (pc arg : Word) (mig : Bool) : State :=
  let x := s.slot k
  let sys := { SysRegs.zero with
    status := word (4 + 16 + 32 * b2n mig), svec := x.sys.svec, qtbase := x.sys.qtbase, ptbase := x.sys.ptbase
    asid := x.sys.asid, pwbud := s.dreg (0xF00000030008 + partOf s (clusterOf k) * 0x1000) }
  let p : Packet := ⟨pc, [arg, 0, 0, 0, 0, 0, 0, 0, 0, 0], 0, mig, false, 0, k, sys, { x.task with stuck := none }, [], true⟩
  let s1 := (s.onCore core (fun c => { c with runq := c.runq ++ [p], runResv := c.runResv - 1 })).onLaunch x.task.launch
    (fun l => { l with left := l.left + 1 })
  match (s.launch x.task.launch).bind (fun l => l.remote) with
  | some r => { s1 with output := s1.output ++ [.peerThread r.1 r.2 false] }
  | none => s1

/-- A release performs; one whose handle was retired leaves a record instead (R467). -/
def performRelease (s : State) (k : Nat) : Release → State
  | .push (.data key _) v => onEntries s key (fun q => { q with elems := q.elems ++ [v] })
  | .push (.scalarQ c i _) v => s.onCore c (fun y =>
      let q := rd ScalarQ.empty y.sq i
      { y with sq := wr .empty y.sq i ⟨q.elems ++ [v], q.resv - 1⟩ })
  | .push (.command _ _ _) _ => s
  | .command e lo hi p => (giveCommand s k e lo hi p).onEngine e (fun y => { y with resv := y.resv - 1 })
  | .task key d ctr tiles => releaseTask s k key d ctr tiles
  | .spawn core pc arg mig => releaseSpawn s k core pc arg mig
  | .gone h q => unreserve (staleRecord s k h) (clusterOf k) q

/-- A release to a queue that is not resident waits for it (R317, R318). -/
def awaitsQueue (s : State) (r : Release) : Bool :=
  s.queues.any (fun e => r.names e.1 && (match e.2 with | some q => !q.resident | none => false))

/-- A deferred effect of a committed chunk enters its target (R293 step 6); a release behind vector accesses waits in the
vector instruction queue (R298, R299). -/
def enterDeferred (k : Nat) (s : State) : Deferred → State
  | .vec e => s.onSlot k (fun x => x.enqueue s.cycle e)
  | .release r =>
    if storesQueued s k || awaitsQueue s r then
      s.onSlot k (fun x => x.enqueue s.cycle ⟨.release r, x.regs.pc, [], 0, [], 0, none, [], []⟩)
    else performRelease s k r
  | .redadd va v sc =>
    let x := s.slot k
    { s with reds := s.reds ++ [⟨0, va, v, sc, false, k, x.asidN, x.sys.ptbase, x.task, !x.spv, false⟩] }

/-- The machine's next steps for stores that the cluster does not cache, from one to a device register on, in program order
(R292). -/
def laterStores (cluster : Nat) (l : List StoreRec) : List Actor :=
  l.flatMap (fun r => if r.kind = 4 then (devPieces r.key r.bytes).map (fun e => .reg e.1 e.2)
    else [.store cluster r.key r.kind r.bytes])

/-- The stores of a chunk, performed in program order (R292) as one event (R293 step 4), up to one to a device register: of the
ones behind it, those to locations that the cluster holds belong to that event, and the rest are the machine's next steps. -/
def performStores (s : State) (cluster : Nat) (st : List StoreRec) : State :=
  let rest := st.dropWhile (fun r => r.kind != 4)
  let now := st.takeWhile (fun r => r.kind != 4) ++ rest.filter (fun r => decide (r.kind ≤ 1))
  let s1 := now.foldl (fun s r => pokeLoc s cluster r.key r.kind r.bytes) s
  let later := rest.filter (fun r => decide (2 ≤ r.kind))
  if later = [] then s1 else { s1 with agenda := laterStores cluster later ++ s1.agenda }

/-- A commit of the chunk would squash a protected chunk of another slot (R296). -/
def heldBack (s : State) (k : Nat) : Bool :=
  s.slots.any (fun e => e.1 != k && clusterOf e.1 == clusterOf k && e.2.chunk.prot &&
    conflict e.2.chunk.rset (s.slot k).chunk.wset)

/-- The chunks that a protected chunk held back are checked again (R296). -/
def releaseBack (s : State) (cluster : Nat) : State :=
  s.slots.foldl (fun s e =>
    if clusterOf e.1 = cluster ∧ (e.2.chunk.back = true ∨ e.2.wait = .protectedChunk) then
      s.onSlot e.1 (fun x => { x with
        chunk := { x.chunk with back := false }
        wait := if x.wait = .protectedChunk then .none else x.wait })
    else s) s

/-- The plumb accepts the closed chunk of a slot (R293), or holds it back (R296). -/
def commitChunk (s : State) (k : Nat) : State :=
  let x := s.slot k
  let c := x.chunk
  if c.closed = false then s
  else if c.count = 0 then s.onSlot k (fun y => { y with chunk := .empty })
  else if heldBack s k then s.onSlot k (fun y => { y with chunk := { y.chunk with back := true } })
  else
    let s1 := s.onSlot k (fun y => countEvent (countEvent { y with
      chunk := .empty, squashes := 0
      sys := { y.sys with instret := y.sys.instret + word c.count } } 2 c.count) 3 1)
    let s2 := performStores s1 (clusterOf k) c.stores
    let s3 := squashReaders s2 (fun d => d == clusterOf k) c.wset
    let s4 := c.deferred.foldl (enterDeferred k) s3
    if c.prot then releaseBack s4 (clusterOf k) else s4

/-- CHUNK_COMMIT. -/
def execChunkCommit (slot : Nat) (s : State) : Host.Outcome State Fault Refusal := .next (commitChunk s slot)

/-- EXTERNAL_CLUSTER_WRITE: a write from outside the chunks reaches a sector of the cluster (R294). -/
def execExternalClusterWrite (cluster sector : Nat) (s : State) : Host.Outcome State Fault Refusal :=
  .next (squashReaders s (fun c => c == cluster) [sector])

/-! The stuck tile that a commit block shows (R488). -/

/-- A tile is stuck (R488): one that only holds packets, its ticket 0 not yet applied, is taken with the open ones (DEDUCED,
log 164). -/
def isStuck (s : State) (t : Tile) : Bool := !t.held.isEmpty && decide (t.changed + 10000 * usCycles ≤ s.cycle)

/-- The commit block shows the oldest stuck tile (R488). -/
def showStuck (s : State) (c : Nat) : State :=
  s.onCluster c (fun y =>
    match leastBy (fun a b => decide (a.changed ≤ b.changed)) (y.tiles.filter (isStuck s)) with
    | some t => { y with tcstuck := word (2 ^ 63 + t.expect % 65536 * 2 ^ 32 + t.tile), tcsrec := t.record }
    | none => { y with tcstuck := 0, tcsrec := 0 })

end Sys2Proof.Machine
end

