-- ==== Sys2Proof/Machine/Compact.lean ====
section
/-! DEFINITION. Machine/Compact.lean: the scalar compact forms (R91 to R93, R147). The first source is the register that
cdst names at issue; the vector compact forms stand with the vector instructions. -/

namespace Sys2Proof.Machine

/-- A compact operation on s[cdst] that writes sR (R92). -/
def compactC (x : CF) (reason : Option Nat) (f : Word → Word) (s : State) : Host.Outcome State Fault Refusal :=
  let c := s.me.regs.cdst
  run { reason := reason, srcs := [c], dsts := [x.r] } s (fun got s => writeAdvance s x.r (f (srcVal s got c)) 2)

/-- A compact operation on s[cdst] and sR that writes sR (R92). -/
def compactCR (x : CF) (f : Word → Word → Word) (s : State) : Host.Outcome State Fault Refusal :=
  let c := s.me.regs.cdst
  run { reason := zeroCFImm x, srcs := [c, x.r], dsts := [x.r] } s (fun got s =>
    writeAdvance s x.r (f (srcVal s got c) (srcVal s got x.r)) 2)

/-- CMOV: or sR, sc, zr. -/
def execCmov (x : CF) (s : State) : Host.Outcome State Fault Refusal :=
  let c := s.me.regs.cdst
  run { reason := zeroCFImm x, srcs := [c, 31], dsts := [x.r] } s (fun got s => writeAdvance s x.r (srcVal s got c) 2)
/-- CLI: addi sR, zr, imm. -/
def execCli (x : CF) (s : State) : Host.Outcome State Fault Refusal :=
  run { srcs := [31], dsts := [x.r] } s (fun _ s => writeAdvance s x.r (sext64 x.imm) 2)
/-- CADDI. -/
def execCaddi (x : CF) (s : State) : Host.Outcome State Fault Refusal := compactC x none (fun a => a + sext64 x.imm) s
/-- CADD. -/
def execCadd (x : CF) (s : State) : Host.Outcome State Fault Refusal := compactCR x (fun a b => a + b) s
/-- CSUB. -/
def execCsub (x : CF) (s : State) : Host.Outcome State Fault Refusal := compactCR x (fun a b => a - b) s
/-- CAND. -/
def execCand (x : CF) (s : State) : Host.Outcome State Fault Refusal := compactCR x (fun a b => a &&& b) s
/-- CSLLI. -/
def execCslli (x : CF) (s : State) : Host.Outcome State Fault Refusal := compactC x none (fun a => a <<< x.imm.toNat) s
/-- CSRLI. -/
def execCsrli (x : CF) (s : State) : Host.Outcome State Fault Refusal := compactC x none (fun a => a >>> x.imm.toNat) s
/-- CLD: ld64 sR, [sc + 8 × imm5]. -/
def execCld (x : CF) (s : State) : Host.Outcome State Fault Refusal :=
  let c := s.me.regs.cdst
  run { srcs := [c], dsts := [x.r] } s (fun got s =>
    loadAt s x.r (srcVal s got c + word (8 * x.imm.toNat)) 8 true 2)
/-- CST: st64 sR, [sc + 8 × imm5]. -/
def execCst (x : CF) (s : State) : Host.Outcome State Fault Refusal :=
  let c := s.me.regs.cdst
  run { srcs := [c, x.r] } s (fun got s =>
    storeAt s (srcVal s got c + word (8 * x.imm.toNat)) (srcVal s got x.r) 8 2)
/-- The forward target of a compact branch (R92). -/
def compactTarget (pc : Word) (imm : BitVec 5) : Word := pc + word (2 + 2 * imm.toNat)
/-- CBP. -/
def execCbp (x : CF) (s : State) : Host.Outcome State Fault Refusal :=
  run {} s (fun _ s => .ok () (branchIf s x.r true (compactTarget s.me.regs.pc x.imm) 2))
/-- CBPN. -/
def execCbpn (x : CF) (s : State) : Host.Outcome State Fault Refusal :=
  run {} s (fun _ s => .ok () (branchIf s x.r false (compactTarget s.me.regs.pc x.imm) 2))

end Sys2Proof.Machine
end

