-- ==== Sys2Proof/Machine/Counter.lean ====
section
/-! DEFINITION. Machine/Counter.lean: the SCTR instructions at the issuing slot (R247, R248, R336 to R341, R439); what
the homes do stands in EvCounter.lean. -/

namespace Sys2Proof.Machine

/-- The counter object that an SCTR instruction names (R248): 64-byte aligned; for SCARM also in a tracked page.
SCDSRM, which writes the object, is a store to it (R445). -/
def ctrLocate (s : State) (va : Word) (arm : Bool) (w : Want) : R Nat :=
  if va.toNat % 64 ≠ 0 then .trap (accessCause va 0x13 6 0 false) .none
  else if inWindowRegion va = true ∧ canonical va = true then
    if arm then .trap (ownCause s.me 0x12 19) .none else .trap ⟨0x1E, va, einfoOf 1 0 false 0⟩ .none
  else match resolveFor s s.cur va w with
    | (_, .bad c r l) => .trap (accessCause va c r l w.write) .none
    | (s1, .ok l) =>
      if l.tracked = false then
        if arm then .trap (ownCause s.me 0x12 19) .none else .trap ⟨0x1E, va, einfoOf 1 0 false 0⟩ .none
      else .ok l.key s1

/-- The counter is armed by the slot's process, else ecause 0x1E (R248, R336, R439). -/
def needArmed (s : State) (va : Word) (ctr : Nat) : R Ctr :=
  match s.ctr ctr with
  | none => .trap ⟨0x1E, va, einfoOf 1 0 false 0⟩ .none
  | some c => if c.asid = s.me.asidN then .ok c s else .trap ⟨0x1E, va, einfoOf 2 0 false 0⟩ .none

/-- The answer of the home to this instruction, once it is there; until then the request is sent and the slot waits
(R344). A request served behind a disarm traps (R439 reason 3). -/
def awaitHome (s : State) (va : Word) (ctr kind value : Nat) (k : Word → R Unit) : R Unit :=
  match s.me.answer with
  | some a => if a.reason = 0 then k a.value else .trap ⟨0x1E, va, einfoOf a.reason 0 false 0⟩ .none
  | none => .wait (.counter ctr) (some ⟨ctr, kind, value⟩)

/-- A split-counter instruction other than SCARM, whose answer to a request may already be there. -/
def onCounter (x : QF) (reason : Option Nat) (srcs dsts : List Reg) (w : Want) (s : State)
    (k : State → Word → Nat → Word → R Unit) : Host.Outcome State Fault Refusal :=
  run { reason := reason, srcs := srcs, dsts := dsts, irrev := true } s (fun got s =>
    let va := srcVal s got x.a
    (ctrLocate s va false w).bind (fun ctr s =>
      if s.me.answer.isSome then k s va ctr (srcVal s got x.b)
      else (needArmed s va ctr).bind (fun _ s => k s va ctr (srcVal s got x.b))))

/-- The number of armed counters of the device (R336). -/
def armedCount (s : State) : Nat := s.ctrs.length

/-- SCARM (R247 table, R248, R336). -/
def execScarm (x : QF) (s : State) : Host.Outcome State Fault Refusal :=
  run { reason := zeroQFSc x, srcs := [x.a, x.b], dsts := [x.d], irrev := true } s (fun got s =>
    let va := srcVal s got x.a
    let b := srcVal s got x.b
    if va.toNat % 64 = 0 ∧ 2 ^ 63 ≤ b.toNat then .trap (ownCause s.me 0x12 19) .none
    else (ctrLocate s va true wantRead).bind (fun ctr s =>
      match s.ctr ctr with
      | some c =>
        if c.asid = s.me.asidN then writeAdvance s x.d 2 4 else .trap ⟨0x1E, va, einfoOf 2 0 false 0⟩ .none
      | none =>
        if 65536 ≤ armedCount s then writeAdvance s x.d 0 4
        else
          let c : Ctr := ⟨s.me.asidN, b.toNat, [], false, [], [], [], [], [], 0⟩
          writeAdvance { s with ctrs := wr none s.ctrs ctr (some c) } x.d 1 4))

/-- SCTAKE: exactly s[b] units or none (R247, R339). -/
def execSctake (x : QF) (s : State) : Host.Outcome State Fault Refusal :=
  onCounter x (zeroQFSc x) [x.a, x.b] [x.d] wantRead s (fun s va ctr b =>
    if b = 0 then writeAdvance s x.d 0 4
    else match s.me.answer with
      | some _ => awaitHome s va ctr 0 b.toNat (fun v => writeAdvance s x.d v 4)
      | none => match localTake s (clusterOf s.cur) ctr b.toNat with
        | some s1 => writeAdvance s1 x.d b 4
        | none => awaitHome s va ctr 0 b.toNat (fun v => writeAdvance s x.d v 4))

/-- SCTAKEP: as many as there are, up to s[b] (R247, R339). -/
def execSctakep (x : QF) (s : State) : Host.Outcome State Fault Refusal :=
  onCounter x (zeroQFSc x) [x.a, x.b] [x.d] wantRead s (fun s va ctr b =>
    if b = 0 then writeAdvance s x.d 0 4
    else match s.me.answer with
      | some _ => awaitHome s va ctr 1 b.toNat (fun v => writeAdvance s x.d v 4)
      | none => match localTake s (clusterOf s.cur) ctr b.toNat with
        | some s1 => writeAdvance s1 x.d b 4
        | none => awaitHome s va ctr 1 b.toNat (fun v => writeAdvance s x.d v 4))

/-- A give served from the cluster's allowance, which it may not lift above what the home lent (R340). -/
def localGive (s : State) (cluster ctr n : Nat) : Option State :=
  match allowOf s cluster ctr, s.ctr ctr with
  | some (a, g), some c => if a + n ≤ g ∧ c.parked = [] then some (putAllow s cluster ctr (a + n) g) else none
  | _, _ => none

/-- SCGIVE (R247, R340): a give that is not local waits for the home, which linearises it (R342). -/
def execScgive (x : QF) (s : State) : Host.Outcome State Fault Refusal :=
  onCounter x (zeroQFScD x) [x.a, x.b] [] wantRead s (fun s va ctr b =>
    match (if s.me.answer.isSome then none else localGive s (clusterOf s.cur) ctr b.toNat) with
    | some s1 => .ok () (advance s1 4)
    | none => awaitHome s va ctr 2 b.toNat (fun _ => .ok () (advance s 4)))

/-- SCREAD: the exact total, by a recall round (R341). -/
def execScread (x : QF) (s : State) : Host.Outcome State Fault Refusal :=
  onCounter x (zeroQFScB x) [x.a] [x.d] wantRead s (fun s va ctr _ =>
    awaitHome s va ctr 3 0 (fun v => writeAdvance s x.d v 4))

/-- SCSET: the total replaced, the old one returned (R341). -/
def execScset (x : QF) (s : State) : Host.Outcome State Fault Refusal :=
  onCounter x (zeroQFSc x) [x.a, x.b] [x.d] wantRead s (fun s va ctr b =>
    if 2 ^ 63 ≤ b.toNat then .trap (ownCause s.me 0x12 19) .none
    else awaitHome s va ctr 4 b.toNat (fun v => writeAdvance s x.d v 4))

/-- SCDSRM: the counter disarmed, its total written to the object and returned (R341). -/
def execScdsrm (x : QF) (s : State) : Host.Outcome State Fault Refusal :=
  onCounter x (zeroQFScB x) [x.a] [x.d] wantWrite s (fun s va ctr _ =>
    awaitHome s va ctr 5 0 (fun v => writeAdvance s x.d v 4))

end Sys2Proof.Machine
end

