-- ==== Sys2Proof/Machine/Frame.lean ====
section
/-! DEFINITION. Machine/Frame.lean: saving and restoring vector and matrix state and the held frame (R258 to R260, R413,
R414). -/

namespace Sys2Proof.Machine

/-! What R258 gives these instructions in common. -/

/-- Bytes cut into pieces that each lie in one page. -/
def cutPages (va : Word) (bs : List Byte) : List (Word × List Byte) :=
  ((pagePieces va (bs.length + 1) bs.length).foldl (fun (a : List (Word × List Byte) × List Byte) e =>
    (a.1 ++ [(e.1, a.2.take e.2)], a.2.drop e.2)) ([], bs)).1

/-- A piece would squash a protected chunk of the cluster (R296). -/
def saveHeld (s : State) (ws : List (Word × List Byte)) : Bool :=
  ws.any (fun w => match (resolveFor s s.cur w.1 wantWrite).2 with
    | .ok l => decide (l.kind ≤ 1) && heldByProtected s s.cur l.key w.2.length
    | .bad _ _ _ => false)

/-- A save of bytes, then the rest of the instruction; a fault leaves the pieces before it written (R258). -/
def saveTo (s : State) (va : Word) (bs : List Byte) (k : State → R Unit) : R Unit :=
  let ws := cutPages va bs
  if saveHeld s ws then .wait .protectedChunk none
  else match savePieces s ws with
  | (s1, none) => k s1
  | (_, some (a, c, r, l)) => .trap (accessCause a c r l true) (.saved ws)

/-- A restore's bytes, all read before anything changes (R258). -/
def restoreFrom (s : State) (va : Word) (n : Nat) (k : List Byte → State → R Unit) : R Unit :=
  match readPieces s s.cur (pagePieces va (n + 1) n) [] with
  | (s1, .inl bs) => k bs s1
  | (_, .inr (c, r, l, a, _)) => .trap (accessCause a c r l false) .none

/-- A pass that waits in the lanes of a slot for its partner (R200, R258). -/
def inLanes (s : State) (k : Nat) : Bool := (s.slot k).pairSince.isSome
/-- A pass of some slot of the core that has not finished (R259). -/
def corePass (s : State) (core : Nat) : Bool := (slotsOf core).any (inLanes s)

/-- A save or restore: privilege, alignment, the wait for the lanes (R252, R258). -/
def saveForm (x : XF) (write mat : Bool) (s : State) (k : Word → State → R Unit) :
    Host.Outcome State Fault Refusal :=
  run { reason := zeroXFImmD x, srcs := [x.a], full := true, priv := true, irrev := true } s (fun got s =>
    let va := srcVal s got x.a
    if va.toNat % 256 ≠ 0 then .trap (accessCause va 0x13 5 0 write) .none
    else if inLanes s s.cur || (mat && corePass s (coreOf s.cur)) then .wait .drain none
    else k va s)

/-! The layouts of R259. -/

/-- Bytes of a vector register. -/
def Vec.regBytes (v : Vec) : Nat := v.vlen / 8
/-- Segments of a context. -/
def Vec.segCount (v : Vec) : Nat := v.segs.length + 1

/-- What VSAVE writes. -/
def vecImage (v : Vec) : List Byte :=
  (upFrom 0 (32 * v.segCount)).flatMap (fun i => toLe v.regBytes (rd 0 v.v i)) ++
  (upFrom 0 v.segCount).flatMap (fun j => (upFrom 1 7).flatMap (fun m => toLe (v.regBytes / 4) (v.msk j m)))
/-- Bytes of that image. -/
def vecImageLen (v : Vec) : Nat := v.segCount * 32 * v.regBytes + v.segCount * 7 * (v.regBytes / 4)

/-- `n` numbers of `w` bytes each, one after another. -/
def cutNums (w : Nat) : Nat → List Byte → List Nat
  | 0, _ => []
  | n + 1, bs => ofLe (bs.take w) :: cutNums w n (bs.drop w)

/-- A context loaded from an image; the vec field becomes clean. -/
def loadVec (v : Vec) (bs : List Byte) : Vec :=
  let regs := cutNums v.regBytes (32 * v.segCount) bs
  let masks := cutNums (v.regBytes / 4) (7 * v.segCount) (bs.drop (v.segCount * 32 * v.regBytes))
  { v with
    v := wrMany 0 [] 0 regs
    m := (masks.zip (upFrom 0 masks.length)).foldl (fun t e => wr 0 t (8 * (e.2 / 7) + e.2 % 7 + 1) e.1) []
    vstate := setField v.vstate 1 0 1 }

/-- What ASAVE writes. -/
def matImage (c : CoreSt) : List Byte :=
  (rdMany 0 c.acc 0 16384).flatMap (fun w => toLe 4 w.toNat) ++ rdMany 0 c.blk 0 16384 ++ toLe 4 c.sB.toNat ++ toLe 4 0

/-- The matrix state of a core loaded from an image. -/
def loadMat (c : CoreSt) (bs : List Byte) : CoreSt :=
  { c with
    acc := wrMany 0 [] 0 ((cutNums 4 16384 bs).map (BitVec.ofNat 32))
    blk := wrMany 0 [] 0 ((bs.drop 65536).take 16384)
    blkBad := false
    sB := BitVec.ofNat 32 (ofLe ((bs.drop 81920).take 4))
    run := none }

/-- Register bits at and above VLEN_eff of the lanes whose slices are not fenced are discarded (R499). -/
def fenceRegs (s : State) (k : Nat) : State :=
  let x := s.slot k
  let cores := (k :: x.vec.segs).map coreOf
  if cores.all (fun c => decide ((s.core c).fenced = 0xFFFFFFFF)) then s
  else s.onSlot k (fun y => { y with vec := { y.vec with
    v := y.vec.v.foldl (fun m e =>
      let c := cores.getD (e.1 / 32) 0
      wr 0 m e.1 (e.2 % 2 ^ vlenEff y.vec.vlen (popCount 32 (s.core c).fenced.toNat))) y.vec.v } })

/-- VSAVE. -/
def execVsave (x : XF) (s : State) : Host.Outcome State Fault Refusal :=
  saveForm x true false s (fun va s => saveTo s va (vecImage s.me.vec) (fun s => .ok () (advance s 4)))
/-- VRSTR. -/
def execVrstr (x : XF) (s : State) : Host.Outcome State Fault Refusal :=
  saveForm x false false s (fun va s => restoreFrom s va (vecImageLen s.me.vec) (fun bs s =>
    .ok () (advance (fenceRegs (onVecOf s s.cur (fun v => loadVec v bs)) s.cur) 4)))
/-- ASAVE. -/
def execAsave (x : XF) (s : State) : Host.Outcome State Fault Refusal :=
  saveForm x true true s (fun va s => saveTo s va (matImage (s.core (coreOf s.cur))) (fun s =>
    .ok () (advance (s.onCore (coreOf s.cur) (fun c => { c with run := none })) 4)))
/-- ARSTR. -/
def execArstr (x : XF) (s : State) : Host.Outcome State Fault Refusal :=
  saveForm x false true s (fun va s => restoreFrom s va 81928 (fun bs s =>
    .ok () (advance (onVecOf (s.onCore (coreOf s.cur) (fun c => loadMat c bs)) s.cur (fun v =>
      { v with vstate := setField (setField v.vstate 3 2 1) 5 4 1 })) 4)))

/-! The held frame (R260). Its bytes behind the first dword are the part's own: here the number under which the part keeps
the entries, then opaque bytes. -/

/-- Bytes of a frame of `n` entries. -/
def frameLen (n : Nat) : Nat := if n = 0 then 0 else min 4096 (64 + 32 * n)
/-- What FRSAVE writes for a frame of `n` entries kept under a number. -/
def frameBytes (n no : Nat) : List Byte :=
  toLe 8 (frameLen n + 7 * 65536) ++
    (if n = 0 then [] else toLe 8 no ++ (upFrom 16 (frameLen n - 16)).map Config.framePad)

/-- vl and vtype that a frame's entries leave behind, in their order (R70). -/
def lengthAfter (es : List QEntry) (r : Regs) : Regs :=
  es.foldl (fun r e => match e.work with
    | .setVl vl vt _ => { r with vl := vl, vtype := vt }
    | .setVlOnly vl _ => { r with vl := vl }
    | .grant _ vt _ _ => { r with vtype := vt }
    | _ => r) r

/-- FRSAVE; the scalar side's copies of vl and vtype become what the dispatched instructions left (R70). The thread's faulted
reductions are part of the frame (R449). -/
def execFrsave (x : XF) (s : State) : Host.Outcome State Fault Refusal :=
  saveForm x true false s (fun va s =>
    let held := s.me.held
    let reds := s.reds.filter (redHeld s.me)
    let n := held.length + reds.length
    let no := s.frames.length
    saveTo s va (frameBytes n no) (fun s =>
      let s1 := if n = 0 then s else
        { s with
          frames := wr none s.frames no (some ⟨s.me.vec.split, s.me.vec.segCount, held, reds⟩)
          reds := s.reds.filter (fun r => !redHeld s.me r) }
      .ok () (advance (s1.onMe (fun y => { y with
        regs := if held = [] then y.regs else { y.regs with vl := y.vec.vl, vtype := y.vec.vtype }
        held := [] })) 4)))

/-- A reduction of a loaded frame, of the thread that loads it: its address is translated again (R449). -/
def Red.adopt (x : Slot) (k : Nat) (r : Red) : Red :=
  { r with slot := k, task := x.task, asid := x.asidN, ptbase := x.sys.ptbase, held := true }

/-- FRLOAD: the checks of R260, on the first dword and then on the frame that the bytes are. -/
def execFrload (x : XF) (s : State) : Host.Outcome State Fault Refusal :=
  saveForm x false false s (fun va s =>
    restoreFrom s va 8 (fun d s =>
      let d0 := ofLe d
      let len := bits d0 12 0
      let refuse : R Unit := .trap (ownCause s.me 0x12 21) .none
      if s.me.held ≠ [] ∨ s.reds.any (redHeld s.me) = true ∨ 4096 < len ∨ bits d0 31 16 ≠ 7 then refuse
      else if len = 0 then .ok () (advance s 4)
      else restoreFrom s va len (fun bs s =>
        let no := ofLe ((bs.drop 8).take 8)
        match rd none s.frames no with
        | none => refuse
        | some f =>
          if bs ≠ frameBytes (f.entries.length + f.reds.length) no ∨ f.split ≠ s.me.vec.split ∨ f.segs ≠ s.me.vec.segCount then refuse
          else .ok () (advance ({ s with reds := s.reds ++ f.reds.map (Red.adopt s.me s.cur) }.onMe (fun y => { y with
            held := f.entries, regs := lengthAfter f.entries y.regs })) 4))))

end Sys2Proof.Machine
end

