-- ==== Sys2Proof/Machine/VecAmo.lean ====
section
/-! DEFINITION. Machine/VecAmo.lean: vector atomics (R246) with the scope-miss mask m7. -/

namespace Sys2Proof.Machine

/-- The value an element operation stores, from the old value, the data and the value a VAMOCAS stores (R244, R246). -/
def amoEl (opn w old x y : Nat) : Nat :=
  match opn with
  | 0 => (old + x) % 2 ^ w
  | 1 => if sextN w old < sextN w x then old else x
  | 2 => if sextN w old < sextN w x then x else old
  | 3 => old &&& x
  | 4 => old ||| x
  | 5 => old ^^^ x
  | 6 => x
  | _ => if old = x then y else old

/-- Elements located from vstart on, each with its location when its scope contains it, up to the first that fails. -/
structure AmoAcc where
  s : State
  found : List (Nat × Loc)
  missed : List Nat
  fail : Option (Nat × Cause)
  /-- Elements of a no-return form that fail behind the thread's EXIT (R456). -/
  lost : List Nat

/-- One active element located: alignment, translation, an untracked page, then the scope (R246). An element of a no-return form
that fails behind the thread's EXIT does not stop the others: it is orphaned (R456). -/
def amoLocate (x : Slot) (k : Nat) (sh : Shape) (sc : Nat) (nr : Bool) (addr : Nat → Nat) (a : AmoAcc) (i : Nat) : AmoAcc :=
  let fails (s : State) (c : Cause) : AmoAcc :=
    if nr && x.wait == .exited then { a with s := s, lost := a.lost ++ [i] } else { a with s := s, fail := some (i, c) }
  match a.fail with
  | some _ => a
  | none =>
    match locateEl a.s k (coreOf (segSlot x k (i / sh.seg))) wantBoth sh.ew false (8 * addr i) with
    | (s1, .bad c r l) => fails s1 (elCause (8 * addr i) c r l true i)
    | (s1, .ok ((l, _) :: _)) =>
      if l.tracked = false then fails s1 (elCause (8 * addr i) 0x16 7 0 true i)
      else if contains k sc l then { a with s := s1, found := a.found ++ [(i, l)] }
      else { a with s := s1, missed := a.missed ++ [i] }
    | (s1, .ok []) => { a with s := s1 }

/-- A list in an order that is left open. -/
def anyOrder {α : Type} : Nat → Nat → List α → List α
  | 0, _, l => l
  | n + 1, occ, l =>
    match l[Config.freeNat occ % max 1 l.length]? with
    | some a => a :: anyOrder n (occ + 1) (l.eraseIdx (Config.freeNat occ % max 1 l.length))
    | none => l

/-- The order in which located elements perform: open where two of them address the same word (R246). -/
def amoOrder (s : State) (l : List (Nat × Loc)) : State × List (Nat × Loc) :=
  let keys := l.map (fun e => e.2.key)
  if keys.all (fun a => (keys.filter (· == a)).length == 1) then (s, l)
  else ({ s with free := s.free + l.length }, anyOrder l.length s.free l)

/-- Elements performed: their old values, and whether a device register refuses a new one (R385). -/
structure AmoDone where
  s : State
  olds : List (Nat × Nat)
  refused : Bool

/-- One element performed: its old value, and the store of its new one. -/
def amoPerform (x : Slot) (k : Nat) (sh : Shape) (opn : Nat) (data alt : List Nat) (a : AmoDone) (e : Nat × Loc) : AmoDone :=
  let cl := clusterOf (segSlot x k (e.1 / sh.seg))
  let n := sh.ew / 8
  let old := ofLe (elBytes a.s cl e.2 n)
  let new := amoEl opn sh.ew old (elAt sh sh.ew data e.1) (elAt sh sh.ew alt e.1)
  let s1 := poisoned (touchLoc a.s k cl e.2 n) x.asidN e.2 n
  ⟨writeAt s1 cl e.2 (toLe n new), a.olds ++ [(e.1, old)],
    a.refused || (e.2.kind == 4 && storeRefused a.s (pendingStores a.s) e.2.key (toLe n new))⟩

/-- A vector atomic (R246): operations 0 to 7 return old values, 8 to 14 are the no-return forms of 0 to 6, whose elements that are
orphaned are reductions of their own (R456, R458). -/
def amoEffect (k : Nat) (sh : Shape) (o : VOp) (sc : Nat) (s : State) (v : Vec) : Eff :=
  if sh.vl = 0 then .ok s { v with vstart := 0 } [] else
  let x := s.slot k
  let opn := if 8 ≤ o.fn then o.fn - 8 else o.fn
  let idx := v.grps sh o.b sh.g
  let data := v.grps sh o.d sh.g
  let alt := if opn = 7 then v.grps sh (o.d + sh.g) sh.g else data
  let active := maskBit v sh o.m
  let addr (i : Nat) : Nat := ((o.val 0).toNat + elAt sh sh.ew idx i * (sh.ew / 8)) % 2 ^ 64
  let a := ((upFrom sh.vstart (sh.vl - sh.vstart)).filter active).foldl (amoLocate x k sh sc (decide (8 ≤ o.fn)) addr) ⟨s, [], [], none, []⟩
  let stop := match a.fail with | some (i, _) => i | none => sh.vl
  let ord := amoOrder a.s a.found
  let orphans : List Red := a.lost.map (fun i =>
    ⟨opn, word (addr i), word (elAt sh sh.ew data i), sc, decide (sh.ew = 32), k, x.asidN, x.sys.ptbase, x.task, !x.spv, false⟩)
  let p0 := ord.2.foldl (amoPerform x k sh opn data alt) ⟨ord.1, [], false⟩
  let p : AmoDone := { p0 with s := { p0.s with reds := p0.s.reds ++ orphans } }
  let msm := (a.found.map Prod.fst).foldl (fun ms i => putAt sh 1 ms i 0) (v.msks sh 7)
  let v0 := v.putMsks sh 7 (a.missed.foldl (fun ms i => putAt sh 1 ms i 1) msm)
  let passed := (upFrom sh.vstart (stop - sh.vstart)).any (fun i => !active i)
  let wrote := decide (a.found ≠ [] ∨ a.missed ≠ []) || (decide (o.fn < 8) &&
    ((sh.mz && passed) || (sh.tz && a.fail.isNone && decide (sh.vl < sh.max))))
  let v1 := if wrote then v0.dirtyVec else v0
  let v2 := if 8 ≤ o.fn then v1 else
    let g1 := p.olds.foldl (fun g e => putAt sh sh.ew g e.1 e.2) data
    let g2 := if sh.mz then ((upFrom sh.vstart (stop - sh.vstart)).filter (fun i => !active i)).foldl
      (fun g i => putAt sh sh.ew g i 0) g1 else g1
    let g3 := if a.fail = none ∧ sh.tz = true then (upFrom sh.vl (sh.max - sh.vl)).foldl
      (fun g i => putAt sh sh.ew g i 0) g2 else g2
    v1.putGrps sh o.d sh.g g3
  if p.refused then .stop s v (laneFault sh o.pc 5) else
  match a.fail with
  | some (i, c) => .stop p.s { v2 with vstart := word i } c
  | none => .ok p.s { v2 with vstart := 0 } []

/-- The instructions of major VAMO at the lanes; the scope stands in bits [27:25] (R86). -/
def amoLane (k : Nat) (sh : Shape) (o : VOp) (sc : Nat) : LaneSpec :=
  let n := if o.fn = 7 then 2 * sh.g else sh.g
  { reads := [(o.d, n), (o.b, sh.g)], writes := if 8 ≤ o.fn then [] else [(o.d, sh.g)]
    align := [(o.d, sh.g, n), (o.b, sh.g, sh.g)], masks := true
    ew := sh.ew
    bad := [(8, decide (sh.ew ≠ 32 ∧ sh.ew ≠ 64))]
    effect := amoEffect k sh o sc }

/-- VAMOADD. -/
def execVamoadd (x : VAF) (s : State) : Host.Outcome State Fault Refusal :=
  issueVec { reason := zeroVAFFrom1Scope5 x, code := wordVAF 0x1B 0 x, srcs := [x.a], cvd := some x.vd } s
/-- VAMOMIN. -/
def execVamomin (x : VAF) (s : State) : Host.Outcome State Fault Refusal :=
  issueVec { reason := zeroVAFFrom1Scope5 x, code := wordVAF 0x1B 1 x, srcs := [x.a], cvd := some x.vd } s
/-- VAMOMAX. -/
def execVamomax (x : VAF) (s : State) : Host.Outcome State Fault Refusal :=
  issueVec { reason := zeroVAFFrom1Scope5 x, code := wordVAF 0x1B 2 x, srcs := [x.a], cvd := some x.vd } s
/-- VAMOAND. -/
def execVamoand (x : VAF) (s : State) : Host.Outcome State Fault Refusal :=
  issueVec { reason := zeroVAFFrom1Scope5 x, code := wordVAF 0x1B 3 x, srcs := [x.a], cvd := some x.vd } s
/-- VAMOOR. -/
def execVamoor (x : VAF) (s : State) : Host.Outcome State Fault Refusal :=
  issueVec { reason := zeroVAFFrom1Scope5 x, code := wordVAF 0x1B 4 x, srcs := [x.a], cvd := some x.vd } s
/-- VAMOXOR. -/
def execVamoxor (x : VAF) (s : State) : Host.Outcome State Fault Refusal :=
  issueVec { reason := zeroVAFFrom1Scope5 x, code := wordVAF 0x1B 5 x, srcs := [x.a], cvd := some x.vd } s
/-- VAMOSWP. -/
def execVamoswp (x : VAF) (s : State) : Host.Outcome State Fault Refusal :=
  issueVec { reason := zeroVAFFrom1Scope5 x, code := wordVAF 0x1B 6 x, srcs := [x.a], cvd := some x.vd } s
/-- VAMOCAS. -/
def execVamocas (x : VAF) (s : State) : Host.Outcome State Fault Refusal :=
  issueVec { reason := zeroVAFFrom1Scope5 x, code := wordVAF 0x1B 7 x, srcs := [x.a], cvd := some x.vd } s
/-- VAMOADD_NR. -/
def execVamoaddNr (x : VAF) (s : State) : Host.Outcome State Fault Refusal :=
  issueVec { reason := zeroVAFFrom1Scope5 x, code := wordVAF 0x1B 8 x, srcs := [x.a] } s
/-- VAMOMIN_NR. -/
def execVamominNr (x : VAF) (s : State) : Host.Outcome State Fault Refusal :=
  issueVec { reason := zeroVAFFrom1Scope5 x, code := wordVAF 0x1B 9 x, srcs := [x.a] } s
/-- VAMOMAX_NR. -/
def execVamomaxNr (x : VAF) (s : State) : Host.Outcome State Fault Refusal :=
  issueVec { reason := zeroVAFFrom1Scope5 x, code := wordVAF 0x1B 10 x, srcs := [x.a] } s
/-- VAMOAND_NR. -/
def execVamoandNr (x : VAF) (s : State) : Host.Outcome State Fault Refusal :=
  issueVec { reason := zeroVAFFrom1Scope5 x, code := wordVAF 0x1B 11 x, srcs := [x.a] } s
/-- VAMOOR_NR. -/
def execVamoorNr (x : VAF) (s : State) : Host.Outcome State Fault Refusal :=
  issueVec { reason := zeroVAFFrom1Scope5 x, code := wordVAF 0x1B 12 x, srcs := [x.a] } s
/-- VAMOXOR_NR. -/
def execVamoxorNr (x : VAF) (s : State) : Host.Outcome State Fault Refusal :=
  issueVec { reason := zeroVAFFrom1Scope5 x, code := wordVAF 0x1B 13 x, srcs := [x.a] } s
/-- VAMOSWP_NR. -/
def execVamoswpNr (x : VAF) (s : State) : Host.Outcome State Fault Refusal :=
  issueVec { reason := zeroVAFFrom1Scope5 x, code := wordVAF 0x1B 14 x, srcs := [x.a] } s

end Sys2Proof.Machine
end

