-- ==== Sys2Proof/Machine/Repf.lean ====
section
/-! DEFINITION. Machine/Repf.lean: the repeat frame (R94 to R96, R189). -/

namespace Sys2Proof.Machine

/-- A word that a frame may hold, with fields that its entry admits, the control codes of VNARROW and VWIDEN included (R94,
R189). -/
def frameWordOk (w : BitVec 32) : Bool :=
  let y := fieldsVF w
  let fn := fnOf w
  w.getLsbD 0 && (match majorOf w with
  | 0x1C => decide (fn < 16) && (zeroVFF y).isNone
  | 0x1D =>
    if fn < 2 then decide (y.f.toNat < 2)
    else decide (fn < 4) && (zeroVFF y).isNone && decide (y.vb.toNat < if fn = 2 then 4 else 2)
  | 0x1E => decide (fn < 12) && (!fpUnary fn || (zeroVFVb y).isNone)
  | 0x1F => decide (fn < 9) && (decide (fn = 6) || (zeroVFVb y).isNone)
  | 0x20 => decide (fn < 10) && (if fn < 6 then (reasonVcmpeq y).isNone else (reasonVfcmpeq y).isNone)
  | 0x21 => (match fn with
    | 0 => (reasonMand y).isNone
    | 1 => (reasonMand y).isNone
    | 2 => (reasonMand y).isNone
    | 3 => (reasonMnot y).isNone
    | 6 => (reasonMset y).isNone
    | 7 => (zeroVFFVbVa y).isNone
    | 8 => (reasonVmsel y).isNone
    | _ => false)
  | _ => false)

/-- The format register that a frame instruction reads. -/
def frameFmt (w : BitVec 32) : Option Reg :=
  let op := majorOf w
  if op = 0x1E ∨ op = 0x1F ∨ (op = 0x20 ∧ 6 ≤ fnOf w) then some (fmtReg (fieldsVF w).f) else none
/-- The scalar register that a frame instruction names: only MSET does (R184). -/
def frameScalar (w : BitVec 32) : Option Reg :=
  if majorOf w = 0x21 ∧ fnOf w = 6 then some (fieldsVF w).va else none
/-- The vector register that a frame instruction writes through vd (R64). -/
def frameCvd (w : BitVec 32) : Option Reg :=
  let op := majorOf w
  if op < 0x20 ∨ (op = 0x21 ∧ 7 ≤ fnOf w) then some (fieldsVF w).vd else none

/-- The entry of a frame: for each performed instruction its format value and its scalar value. -/
def frameEntry (x : PF) (s : State) (got : List (Reg × Word)) (ws : List (BitVec 32)) : QEntry :=
  let read (r : Option Reg) : Word := match r with | some r => srcVal s got r | none => 0
  { work := .vector (wordPF 0x26 x), pc := s.me.regs.pc
    vals := (performedWords x ws).flatMap (fun e => [read (frameFmt e.2), read (frameScalar e.2)])
    fmt := 0, frame := ws, done := 0, cap := none, dst := [], bound := [] }

/-- A frame issued with its instructions as fetched (R94 to R96). Where the spec leaves a point open: of several refused frame
instructions eaddr names the first in the order of the passes; a bound scalar register that several performed instructions
name pops once for the REPF; and the frame is refused behind the wait on, and the pop of, the registers that it names, as a
cause of step 6 of R89 (DESIGN CHOICE, log 36, 135, 169). -/
def issueFrame (x : PF) (ws : List (BitVec 32)) (s : State) : State :=
  let done := performedWords x ws
  let n := ws.length
  let srcs := (done.filterMap (fun e => frameFmt e.2) ++ done.filterMap (fun e => frameScalar e.2)).eraseDups
  runSlot { reason := zeroPFZ x, srcs := srcs, full := true, vec := true, count := n + 1 } s (fun got s =>
    let pc := s.me.regs.pc
    let c := s.me.chunk
    match done.find? (fun e => !frameWordOk e.2) with
    | some e => .trap ⟨0x12, pc + word (4 + 4 * e.1), einfoOf 16 0 false 0⟩ .none
    | none =>
      if c.count ≠ 0 ∧ (if 0 < s.me.single then 1 else 256) < c.count + n + 1 then .close
      else if vecRoom s.me then
        enqueueVec s (frameEntry x s got ws) [] ((done.filterMap (fun e => frameCvd e.2)).getLast?) (4 + 4 * n)
      else waitClosed s .drain none)

/-- REPF: the frame's halfwords are fetched before anything else (R96). -/
def execRepf (x : PF) (s : State) : Host.Outcome State Fault Refusal :=
  match s.me.res with
  | .empty => .fault .emptySlot
  | .segment => .fault .emptySlot
  | _ =>
    match fetchWords s s.cur (s.me.regs.pc + 4) (x.len.toNat + 1) [] with
    | (s1, .got ws) => .next (issueFrame x ws s1)
    | (s1, .bad r l a) => .next (fetchTrap s1 r l a)
    | (s1, .miss set line) => .next (missFetch s1 s1.cur set line)

end Sys2Proof.Machine
end

