-- ==== Sys2Proof/Machine/BlockTex.lean ====
section
/-! DEFINITION. Machine/BlockTex.lean: the texels of compressed blocks (R215, R218): ETC2 and EAC as the Khronos Data Format
Specification gives them, ASTC under the LDR profile of the ASTC specification. Both standards stand outside spec/ and are
taken from general knowledge of them (PRESUMED, log 51). A block is its bytes as a number, the first byte lowest. -/

namespace Sys2Proof.Machine

/-! ETC2 and EAC: blocks of 4 × 4 texels; the eight bytes of a part are read with the first byte highest. -/

/-- The eight bytes of a block from byte `off` on, the first byte highest. -/
def etcWord (raw off : Nat) : Nat := ofLe (toLe 8 (raw >>> (8 * off))).reverse
/-- A sum clamped to `hi`. -/
def clampTo (hi : Nat) (v : Int) : Nat := (max 0 (min (hi : Int) v)).toNat
/-- A value of `n` bits repeated into eight. -/
def widen8 (n v : Nat) : Nat := ((v <<< (8 - n)) ||| (v >>> (2 * n - 8))) % 256
/-- The modifiers of the intensity tables. -/
def etcMods : List (Nat × Nat) := [(2, 8), (5, 17), (9, 29), (13, 42), (18, 60), (24, 80), (33, 106), (47, 183)]
/-- The distances of the T and H modes. -/
def etcDist : List Nat := [3, 6, 11, 16, 23, 32, 41, 64]

/-- A paint colour: three channels moved by a distance. -/
def etcPaint (c : List Nat) (d : Int) : List Nat := c.map (fun (v : Nat) => clampTo 255 ((v : Int) + d))

/-- A texel of the T mode; `i` is its index. -/
def etcT (b i : Nat) : List Nat :=
  let c1 := [bits b 60 59 * 4 + bits b 57 56, bits b 55 52, bits b 51 48].map (· * 17)
  let c2 := [bits b 47 44, bits b 43 40, bits b 39 36].map (· * 17)
  let d : Nat := etcDist.getD (bits b 35 34 * 2 + bits b 32 32) 0
  match i with
  | 0 => c1
  | 1 => etcPaint c2 d
  | 2 => c2
  | _ => etcPaint c2 (-(d : Int))
/-- A texel of the H mode. -/
def etcH (b i : Nat) : List Nat :=
  let c1 := [bits b 62 59, bits b 58 56 * 2 + bits b 52 52, bits b 51 51 * 8 + bits b 49 47]
  let c2 := [bits b 46 43, bits b 42 39, bits b 38 35]
  let rank (c : List Nat) : Nat := c.foldl (fun n v => n * 16 + v) 0
  let d : Nat := etcDist.getD (bits b 34 34 * 4 + bits b 32 32 * 2 + b2n (decide (rank c2 ≤ rank c1))) 0
  match i with
  | 0 => etcPaint (c1.map (· * 17)) d
  | 1 => etcPaint (c1.map (· * 17)) (-(d : Int))
  | 2 => etcPaint (c2.map (· * 17)) d
  | _ => etcPaint (c2.map (· * 17)) (-(d : Int))
/-- A texel of the planar mode. -/
def etcPlanar (b x y : Nat) : List Nat :=
  let o := [widen8 6 (bits b 62 57), widen8 7 (bits b 56 56 * 64 + bits b 54 49),
    widen8 6 (bits b 48 48 * 32 + bits b 44 43 * 8 + bits b 41 39)]
  let h := [widen8 6 (bits b 38 34 * 2 + bits b 32 32), widen8 7 (bits b 31 25), widen8 6 (bits b 24 19)]
  let v := [widen8 6 (bits b 18 13), widen8 7 (bits b 12 6), widen8 6 (bits b 5 0)]
  (upFrom 0 3).map (fun c =>
    let co : Int := o.getD c 0
    clampTo 255 (((x : Int) * ((h.getD c 0 : Nat) - co) + (y : Int) * ((v.getD c 0 : Nat) - co) + 4 * co + 2) / 4))

/-- The four channels of an ETC2 texel; `punch` says that bit 33 means opaque instead of differential. -/
def etcColour (b x y : Nat) (punch : Bool) : List Nat :=
  let p := 4 * x + y
  let i := bits b (16 + p) (16 + p) * 2 + bits b p p
  let clear := punch && !bit b 33
  let sum (hi lo dh dl : Nat) : Int := (bits b hi lo : Int) + sextN 3 (bits b dh dl)
  let out (v : Int) : Bool := decide (v < 0 ∨ 31 < v)
  let r := sum 63 59 58 56
  let g := sum 55 51 50 48
  let bl := sum 47 43 42 40
  let diff := punch || bit b 33
  if diff && !out r && !out g && out bl then etcPlanar b x y ++ [255]
  else if clear ∧ i = 2 then [0, 0, 0, 0]
  else if diff && out r then etcT b i ++ [255]
  else if diff && out g then etcH b i ++ [255]
  else
    let second := decide (2 ≤ if bit b 32 then y else x)
    let base : List Nat :=
      if diff then
        (if second then [r.toNat, g.toNat, bl.toNat] else [bits b 63 59, bits b 55 51, bits b 47 43]).map (widen8 5)
      else (if second then [bits b 59 56, bits b 51 48, bits b 43 40]
        else [bits b 63 60, bits b 55 52, bits b 47 44]).map (· * 17)
    let m := etcMods.getD (if second then bits b 36 34 else bits b 39 37) (0, 0)
    let d : Int := match i with
      | 0 => if clear then 0 else m.1
      | 1 => m.2
      | 2 => -(m.1 : Int)
      | _ => -(m.2 : Int)
    etcPaint base d ++ [255]

/-- The first four modifiers of the EAC tables, without their sign; the other four are one less. -/
def eacMods : List (List Nat) :=
  [[3, 6, 9, 15], [3, 7, 10, 13], [2, 5, 8, 13], [2, 4, 6, 13], [3, 6, 8, 12], [3, 7, 9, 11], [4, 7, 8, 11], [3, 5, 8, 11]] ++
  [[2, 6, 8, 10], [2, 5, 8, 10], [2, 4, 8, 10], [2, 5, 7, 10], [3, 4, 7, 10], [1, 2, 3, 10], [4, 6, 8, 9], [3, 5, 7, 9]]
/-- The modifier of a texel of an EAC part. -/
def eacMod (b x y : Nat) : Int :=
  let i := bits b (47 - 3 * (4 * x + y)) (45 - 3 * (4 * x + y))
  let t := eacMods.getD (bits b 51 48) []
  if i < 4 then -(t.getD i 0 : Int) else (t.getD (i - 4) 0 : Int) - 1
/-- An 8-bit EAC value. -/
def eac8 (b x y : Nat) : Nat := clampTo 255 ((bits b 63 56 : Int) + eacMod b x y * (bits b 55 52 : Nat))
/-- An 11-bit EAC value. -/
def eac11 (b x y : Nat) : Nat :=
  let m := bits b 55 52
  clampTo 2047 ((bits b 63 56 * 8 + 4 : Nat) + eacMod b x y * (if m = 0 then 1 else m * 8 : Nat))

/-- The channels of a texel of a format from 0x10 to 0x14. -/
def etcTexel (f raw x y : Nat) : List Nat :=
  match f with
  | 0x10 => etcColour (etcWord raw 0) x y false
  | 0x11 => (etcColour (etcWord raw 8) x y false).take 3 ++ [eac8 (etcWord raw 0) x y]
  | 0x12 => etcColour (etcWord raw 0) x y true
  | 0x13 => [eac11 (etcWord raw 0) x y]
  | _ => [eac11 (etcWord raw 0) x y, eac11 (etcWord raw 8) x y]

/-! ASTC: bounded integer sequences. -/

/-- What a range of an integer sequence is made of: trits (3), quints (5) or neither (1), and plain bits. -/
def iseOf (q : Nat) : Nat × Nat :=
  if q = 0 then (1, 1) else if q % 3 = 0 then (5, q / 3 - 1) else if q % 3 = 1 then (3, q / 3) else (1, q / 3 + 2)
/-- Bits of a sequence of `n` values. -/
def iseBits (q n : Nat) : Nat :=
  let e := iseOf q
  e.2 * n + (if e.1 = 3 then (8 * n + 4) / 5 else if e.1 = 5 then (7 * n + 2) / 3 else 0)
/-- The five trits of a packed byte. -/
def trits (t : Nat) : List Nat :=
  let big := decide (bits t 4 2 = 7)
  let c := if big then bits t 7 5 * 4 + bits t 1 0 else bits t 4 0
  let hi := if big then [2, 2] else if bits t 6 5 = 3 then [bits t 7 7, 2] else [bits t 6 5, bits t 7 7]
  let lo :=
    if bits c 1 0 = 3 then [bits c 3 3 * 2 + bits c 2 2 * (1 - bits c 3 3), bits c 4 4, 2]
    else if bits c 3 2 = 3 then [bits c 1 0, 2, 2]
    else [bits c 1 1 * 2 + bits c 0 0 * (1 - bits c 1 1), bits c 3 2, bits c 4 4]
  lo ++ hi
/-- The three quints of seven packed bits. -/
def quints (q : Nat) : List Nat :=
  if bits q 2 1 = 3 ∧ bits q 6 5 = 0 then
    let n := 1 - bits q 0 0
    [4, 4, bits q 0 0 * 4 + bits q 4 4 * n * 2 + bits q 3 3 * n]
  else
    let big := decide (bits q 2 1 = 3)
    let c := if big then bits q 4 3 * 8 + (3 - bits q 6 5) * 2 + bits q 0 0 else bits q 4 0
    (if bits c 2 0 = 5 then [bits c 4 3, 4] else [bits c 2 0, bits c 4 3]) ++ [if big then 4 else bits q 6 5]
/-- Where the pieces of a packed group lie: for each value the low position and the count of its packed bits. -/
def isePieces (kind : Nat) : List (Nat × Nat) :=
  if kind = 3 then [(0, 2), (2, 2), (4, 1), (5, 2), (7, 1)] else if kind = 5 then [(0, 3), (3, 2), (5, 2)] else [(0, 0)]
/-- One group of a sequence from bit `at_` on: each value's trit or quint with its plain bits. -/
def iseGroup (q x at_ : Nat) : List (Nat × Nat) :=
  let e := iseOf q
  let r := (isePieces e.1).foldl (fun (a : Nat × Nat × List Nat) p =>
    (a.1 + e.2 + p.2, a.2.1 + ((x >>> (a.1 + e.2)) % 2 ^ p.2) <<< p.1, a.2.2 ++ [(x >>> a.1) % 2 ^ e.2])) (at_, 0, [])
  let d := if e.1 = 3 then trits r.2.1 else if e.1 = 5 then quints r.2.1 else [0]
  d.zip r.2.2
/-- A sequence of `n` values in the low bits of `x`; bits beyond its end read as zero. -/
def iseRead (q n x : Nat) : List (Nat × Nat) :=
  let e := iseOf q
  let g := (isePieces e.1).length
  let step := e.2 * g + (if e.1 = 3 then 8 else if e.1 = 5 then 7 else 0)
  ((upFrom 0 (ceilDiv n g)).flatMap (fun i => iseGroup q (x % 2 ^ iseBits q n) (i * step))).take n

/-- The pattern of the plain bits above the lowest, placed by positions from the highest down; -1 is an empty place. -/
def isePattern (m : Nat) (places : List Int) : Nat :=
  places.foldl (fun n p => 2 * n + (if p < 0 then 0 else bits m p.toNat p.toNat)) 0
/-- A value of `n` bits repeated into `w`. -/
def repeatTo (w n v : Nat) : Nat := ((upFrom 0 8).foldl (fun x _ => x * 2 ^ n + v) 0) >>> (8 * n - w) % 2 ^ w

/-- A weight of range `q`, from 0 to 64. -/
def astcWeight (q : Nat) (v : Nat × Nat) : Nat :=
  let e := iseOf q
  let w :=
    if e.1 = 1 then repeatTo 6 e.2 v.2
    else if e.2 = 0 then (if e.1 = 3 then [0, 32, 63] else [0, 16, 32, 47, 63]).getD v.1 0
    else
      let a := if v.2 % 2 = 1 then 0x7F else 0
      let c : Nat × Nat := match e with
        | (3, 1) => (50, 0)
        | (3, 2) => (23, isePattern v.2 [1, -1, -1, -1, 1, -1, 1])
        | (3, _) => (11, isePattern v.2 [2, 1, -1, -1, -1, 2, 1])
        | (_, 1) => (28, 0)
        | _ => (13, isePattern v.2 [1, -1, -1, -1, -1, 1, -1])
      (a &&& 0x20) ||| (Nat.xor (v.1 * c.1 + c.2) a % 128) >>> 2
  if 32 < w then w + 1 else w

/-- A colour value of range `q`, as eight bits. -/
def astcColour (q : Nat) (v : Nat × Nat) : Nat :=
  let e := iseOf q
  if e.1 = 1 then repeatTo 8 e.2 v.2
  else
    let a := if v.2 % 2 = 1 then 0x1FF else 0
    let c : Nat × List Int := match e with
      | (3, 1) => (204, [])
      | (3, 2) => (93, [1, -1, -1, -1, 1, -1, 1, 1, -1])
      | (3, 3) => (44, [2, 1, -1, -1, -1, 2, 1, 2, 1])
      | (3, 4) => (22, [3, 2, 1, -1, -1, -1, 3, 2, 1])
      | (3, 5) => (11, [4, 3, 2, 1, -1, -1, -1, 4, 3])
      | (3, _) => (5, [5, 4, 3, 2, 1, -1, -1, -1, 5])
      | (_, 1) => (113, [])
      | (_, 2) => (54, [1, -1, -1, -1, -1, 1, 1, -1, -1])
      | (_, 3) => (26, [2, 1, -1, -1, -1, -1, 2, 1, 2])
      | (_, 4) => (13, [3, 2, 1, -1, -1, -1, -1, 3, 2])
      | _ => (6, [4, 3, 2, 1, -1, -1, -1, -1, 4])
    (a &&& 0x80) ||| (Nat.xor (v.1 * c.1 + isePattern v.2 c.2) a % 512) >>> 2

/-! ASTC: block layout. -/

/-- A block's weight grid: width, height, weight range, two planes. -/
structure AstcGrid where
  w : Nat
  h : Nat
  q : Nat
  dual : Bool
  deriving DecidableEq, Repr

/-- The grid of a block mode. -/
def astcGrid (m : Nat) : Option AstcGrid :=
  let a := bits m 6 5
  let b := bits m 8 7
  let dual := bit m 10
  let hi := 6 * bits m 9 9
  let q (r : Nat) : Nat := bits m 4 4 + 2 * r - 2
  if bits m 1 0 ≠ 0 then
    let q := q (bits m 1 0) + hi
    match bits m 3 2 with
    | 0 => some ⟨b + 4, a + 2, q, dual⟩
    | 1 => some ⟨b + 8, a + 2, q, dual⟩
    | 2 => some ⟨a + 2, b + 8, q, dual⟩
    | _ => if bit m 8 then some ⟨b % 2 + 2, a + 2, q, dual⟩ else some ⟨a + 2, b % 2 + 6, q, dual⟩
  else if bits m 3 2 = 0 then none
  else
    let q := q (bits m 3 2)
    match b with
    | 0 => some ⟨12, a + 2, q + hi, dual⟩
    | 1 => some ⟨a + 2, 12, q + hi, dual⟩
    | 2 => some ⟨a + 6, bits m 10 9 + 6, q, false⟩
    | _ => if a = 0 then some ⟨6, 10, q + hi, dual⟩ else if a = 1 then some ⟨10, 6, q + hi, dual⟩ else none

/-- The bits of a block in reverse. -/
def reverse128 (x : Nat) : Nat := (upFrom 0 128).foldl (fun n i => 2 * n + bits x i i) 0

/-- The hash of the partition function. -/
def astcHash (seed : Nat) : BitVec 32 :=
  let p0 := BitVec.ofNat 32 seed
  let p1 := (p0 ^^^ (p0 >>> 15)) * 0xEEDE0891
  let p2 := p1 ^^^ (p1 >>> 5)
  let p3 := p2 + (p2 <<< 16)
  let p4 := p3 ^^^ (p3 >>> 7)
  let p5 := p4 ^^^ (p4 >>> 3)
  let p6 := p5 ^^^ (p5 <<< 6)
  p6 ^^^ (p6 >>> 17)
/-- The partition of a texel. -/
def astcPartition (index x y n : Nat) (small : Bool) : Nat :=
  if n = 1 then 0 else
  let seed := index + (n - 1) * 1024
  let r := (astcHash seed).toNat
  let x := if small then 2 * x else x
  let y := if small then 2 * y else y
  let three := if n = 3 then 6 else 5
  let other := if bit seed 1 then 4 else 5
  let s1 := if bit seed 0 then other else three
  let s2 := if bit seed 0 then three else other
  let f (lo s : Nat) : Nat := ((bits r (lo + 3) lo) ^ 2) >>> s
  let v (lx ly off : Nat) : Nat := (f lx s1 * x + f ly s2 * y + r >>> off) % 64
  let a := v 0 4 14
  let b := v 8 12 10
  let c := if n < 3 then 0 else v 16 20 6
  let d := if n < 4 then 0 else v 24 28 2
  if b ≤ a ∧ c ≤ a ∧ d ≤ a then 0 else if c ≤ b ∧ d ≤ b then 1 else if d ≤ c then 2 else 3

/-- Base and offset of the modes that encode differences. -/
def astcTransfer (a b : Nat) : Int × Int := (sextN 6 (bits a 6 1), ((b / 2 + bits a 7 7 * 128 : Nat) : Int))
/-- The blue contraction of an endpoint. -/
def astcContract (e : List Int) : List Int :=
  let g (i : Nat) : Int := e.getD i 0
  [(g 0 + g 2) / 2, (g 1 + g 2) / 2, g 2, g 3]

/-- The two endpoints of a partition in an LDR mode, each channel from 0 to 255; none for an HDR mode. -/
def astcEnds (mode : Nat) (vs : List Nat) : Option (List Nat × List Nat) :=
  let v (i : Nat) : Int := (vs.getD i 0 : Nat)
  let dif (i : Nat) : Int := (astcTransfer (vs.getD (i + 1) 0) (vs.getD i 0)).1
  let base (i : Nat) : Int := (astcTransfer (vs.getD (i + 1) 0) (vs.getD i 0)).2
  let fin (a b : List Int) : Option (List Nat × List Nat) := some (a.map (clampTo 255), b.map (clampTo 255))
  let direct (a0 a1 : Int) : Option (List Nat × List Nat) :=
    if v 0 + v 2 + v 4 ≤ v 1 + v 3 + v 5 then fin [v 0, v 2, v 4, a0] [v 1, v 3, v 5, a1]
    else fin (astcContract [v 1, v 3, v 5, a1]) (astcContract [v 0, v 2, v 4, a0])
  let offset (a0 a1 : Int) : Option (List Nat × List Nat) :=
    let lo : List Int := [base 0, base 2, base 4, a0]
    let hi : List Int := [base 0 + dif 0, base 2 + dif 2, base 4 + dif 4, a1]
    if 0 ≤ dif 0 + dif 2 + dif 4 then fin lo hi else fin (astcContract hi) (astcContract lo)
  match mode with
  | 0 => fin [v 0, v 0, v 0, 255] [v 1, v 1, v 1, 255]
  | 1 =>
    let l0 : Int := (vs.getD 0 0 / 4 + bits (vs.getD 1 0) 7 6 * 64 : Nat)
    let l1 : Int := l0 + (bits (vs.getD 1 0) 5 0 : Nat)
    fin [l0, l0, l0, 255] [l1, l1, l1, 255]
  | 4 => fin [v 0, v 0, v 0, v 2] [v 1, v 1, v 1, v 3]
  | 5 => fin [base 0, base 0, base 0, base 2] [base 0 + dif 0, base 0 + dif 0, base 0 + dif 0, base 2 + dif 2]
  | 6 => fin [v 0 * v 3 / 256, v 1 * v 3 / 256, v 2 * v 3 / 256, 255] [v 0, v 1, v 2, 255]
  | 8 => direct 255 255
  | 9 => offset 255 255
  | 10 => fin [v 0 * v 3 / 256, v 1 * v 3 / 256, v 2 * v 3 / 256, v 4] [v 0, v 1, v 2, v 5]
  | 12 => direct (v 6) (v 7)
  | 13 => offset (base 6) (base 6 + dif 6)
  | _ => none

/-- The weight of texel (x, y) of a block of bw × bh from a grid, for the plane whose weights are `ws`. -/
def astcInfill (g : AstcGrid) (bw bh x y : Nat) (ws : List Nat) : Nat :=
  let pos (b n i : Nat) : Nat := ((1024 + b / 2) / (b - 1) * i * (n - 1) + 32) / 64
  let gx := pos bw g.w x
  let gy := pos bh g.h y
  let fx := gx % 16
  let fy := gy % 16
  let at_ := gx / 16 + gy / 16 * g.w
  let w11 := (fx * fy + 8) / 16
  (ws.getD at_ 0 * (16 + w11 - fx - fy) + ws.getD (at_ + 1) 0 * (fx - w11) + ws.getD (at_ + g.w) 0 * (fy - w11) +
    ws.getD (at_ + g.w + 1) 0 * w11 + 8) / 16

/-- The endpoint modes of a block's partitions and the bits below the weights that they take. -/
def astcModes (raw n below : Nat) : List Nat × Nat :=
  if n = 1 then ([bits raw 16 13], 0)
  else if bits raw 24 23 = 0 then (List.replicate n (bits raw 28 25), 0)
  else
    let extra := 3 * n - 4
    let t := bits raw 28 23 + ((raw >>> (below - extra)) % 2 ^ extra) * 64
    ((upFrom 0 n).map (fun i => (bits t (2 + i) (2 + i) + bits t 1 0 - 1) * 4 + (t >>> (2 + n + 2 * i)) % 4), extra)

/-- The four channels, sixteen bits each, of a texel of an ASTC block of bw × bh texels; none for an HDR or illegal block. -/
def astcTexel (bw bh raw x y : Nat) (srgb : Bool) : Option (List Nat) :=
  if bits raw 8 0 = 0x1FC then
    let open_ := decide (bits raw 63 12 = 2 ^ 52 - 1)
    if bit raw 9 = false ∧ bits raw 11 10 = 3 ∧
        (open_ = true ∨ (bits raw 24 12 < bits raw 37 25 ∧ bits raw 50 38 < bits raw 63 51)) then
      some ((upFrom 0 4).map (fun c => bits raw (79 + 16 * c) (64 + 16 * c)))
    else none
  else match astcGrid (bits raw 10 0) with
  | none => none
  | some g =>
    let planes := if g.dual then 2 else 1
    let nw := g.w * g.h * planes
    let wb := iseBits g.q nw
    let n := bits raw 12 11 + 1
    if bw < g.w ∨ bh < g.h ∨ 64 < nw ∨ wb < 24 ∨ 96 < wb ∨ (n = 4 ∧ g.dual = true) then none else
    let m := astcModes raw n (128 - wb)
    let below := 128 - wb - m.2 - (if g.dual then 2 else 0)
    let start := if n = 1 then 17 else 29
    let counts := m.1.map (fun c => c / 4 * 2 + 2)
    let nc := counts.sum
    match ((upFrom 4 17).reverse).find? (fun q => decide (start + iseBits q nc ≤ below)) with
    | none => none
    | some q =>
      if 18 < nc then none else
      let cs := (iseRead q nc (raw >>> start)).map (astcColour q)
      let ends := (m.1.zip (upFrom 0 n)).map (fun e => astcEnds e.1 (cs.drop (counts.take e.2).sum))
      if ends.any Option.isNone then none else
      let ws := (iseRead g.q nw (reverse128 raw)).map (astcWeight g.q)
      let plane (p : Nat) : Nat :=
        astcInfill g bw bh x y ((upFrom 0 (g.w * g.h)).map (fun i => ws.getD (planes * i + p) 0))
      let e := ((ends.getD (astcPartition (bits raw 22 13) x y n (decide (bw * bh < 31))) none).getD ([], []))
      let sel := if g.dual then (raw >>> below) % 4 else 4
      let wide (c v : Nat) : Nat := v * 256 + (if srgb ∧ c < 3 then 0x80 else v)
      some ((upFrom 0 4).map (fun c =>
        let w := plane (if c = sel then 1 else 0)
        (wide c (e.1.getD c 0) * (64 - w) + wide c (e.2.getD c 0) * w + 32) / 64))

end Sys2Proof.Machine
end

