-- ==== Sys2Proof/Machine/Gfx.lean ====
section
/-! DEFINITION. Machine/Gfx.lean: triangle coverage (R209, R210), rays against boxes and triangles (R211 to R214), and the
hand-over of packets to the tile commit units (R208, R224, R362, R365, R366). -/

namespace Sys2Proof.Machine

/-- What every GFX instruction but EDGE checks: no span, EW 32 (R208). -/
def gfxBad (sh : Shape) : List (Nat × Bool) := [(13, decide (sh.segs ≠ 1)), (8, decide (sh.ew ≠ 32))]

/-! EDGE (R209, R210). -/

/-- A vertex: x and y in 16.8 fixed point. -/
def vertexOf (w : Word) : Int × Int := (sextN 32 w.toNat, sextN 32 (w.toNat / 2 ^ 32))
/-- The directed edge from one vertex to another: dx, dy, and its start. -/
structure Edge where
  dx : Int
  dy : Int
  x : Int
  y : Int
  deriving DecidableEq, Repr
/-- The edge from `p` to `q`, oriented by `o`. -/
def edgeOf (o : Int) (p q : Int × Int) : Edge := ⟨o * (q.1 - p.1), o * (q.2 - p.2), p.1, p.2⟩
/-- A sample is inside an edge, or on it when it is a top or left edge. -/
def Edge.covers (e : Edge) (x y : Int) : Bool :=
  let v := e.dx * (y - e.y) - e.dy * (x - e.x)
  decide (0 < v ∨ (v = 0 ∧ (e.dy < 0 ∨ (e.dy = 0 ∧ 0 < e.dx))))

/-- Coverage of element `i` (R210). -/
def edgeCovers (p q r : Int × Int) (rect : Word) (cull i : Nat) : Bool :=
  let area := (q.1 - p.1) * (r.2 - p.2) - (q.2 - p.2) * (r.1 - p.1)
  if area = 0 ∨ (area < 0 ∧ cull = 1) ∨ (0 < area ∧ cull = 2) then false
  else
    let o : Int := if 0 < area then 1 else -1
    let wl := fieldOf rect 39 32
    let x : Int := 256 * (fieldOf rect 15 0 + i % 2 ^ wl : Nat) + 128
    let y : Int := 256 * (fieldOf rect 31 16 + i / 2 ^ wl : Nat) + 128
    (edgeOf o p q).covers x y && (edgeOf o q r).covers x y && (edgeOf o r p).covers x y

/-- A coordinate in the range of R209. -/
def inScreen (v : Int) : Bool := decide (-(2 ^ 23 : Int) ≤ v ∧ v < (2 ^ 23 : Int))

/-- EDGE at the lanes. -/
def edgeLane (sh : Shape) (o : VOp) : LaneSpec :=
  let p := vertexOf (o.val 0)
  let q := vertexOf (o.val 1)
  let r := vertexOf (o.val 2)
  let rect := o.val 3
  { masks := true
    bad := [(13, decide (sh.segs ≠ 1)),
      (15, !([p, q, r].all (fun v => inScreen v.1 && inScreen v.2)) || decide (fieldOf rect 63 40 ≠ 0 ∨ 7 < fieldOf rect 39 32))]
    effect := onVec (fun v => v.writeMask sh o (edgeCovers p q r rect o.f)) }

/-! Rays (R211 to R214). -/

/-- The nine fields of ray `i`. -/
def rayOf (v : Vec) (sh : Shape) (o : VOp) (i : Nat) : List Nat :=
  (upFrom 0 9).map (fun k => getEl 32 (v.grp sh.w 0 (o.a + k * sh.g) sh.g) i)
/-- An FP32 value. -/
def f32 (x : Nat) : FVal := decodeF 0 x
/-- A finite value. -/
def finiteV : FVal → Bool
  | .num _ _ _ => true
  | _ => false
/-- A ray that can hit something (R212). -/
def rayOk (ray : List Nat) : Bool :=
  (ray.take 6).all (fun x => finiteV (f32 x)) && ((ray.drop 6).take 2).all (fun x => decide (f32 x ≠ .nan))

/-- One axis of a box: none for a miss, else near and far (R213). -/
def boxAxis (o d lo hi : FVal) : Option (FVal × FVal) :=
  if isZeroV d then (if leV lo o && leV o hi then some (.inf true, .inf false) else none)
  else
    let t (rm : Nat) (x : FVal) : FVal := decodeF 0 (divF ⟨rm, false, false⟩ 0 (addV 0 x (negV o)) d)
    some (minV (t 2 lo) (t 2 hi), maxV (t 3 lo) (t 3 hi))

/-- The near value of child `c` when the ray hits it. -/
def boxHit (ray : List Nat) (node : List Nat) (c : Nat) : Option FVal :=
  let box := (upFrom (6 * c) 6).map (fun k => f32 (node.getD k 0))
  let kind := (node.getD (24 + c) 0) / 2 ^ 30
  let ax (a : Nat) : Option (FVal × FVal) :=
    boxAxis (f32 (ray.getD a 0)) (f32 (ray.getD (3 + a) 0)) (box.getD a .nan) (box.getD (3 + a) .nan)
  if kind = 0 ∨ box.contains .nan = true ∨ rayOk ray = false then none
  else match ax 0, ax 1, ax 2 with
  | some x, some y, some z =>
    let near := maxV (maxV (maxV (f32 (ray.getD 6 0)) x.1) y.1) z.1
    let far := minV (minV (minV (f32 (ray.getD 7 0)) x.2) y.2) z.2
    if leV near far then some near else none
  | _, _, _ => none

/-- The hit children in increasing near value, ties in child order. -/
def sortHits : List (Nat × FVal) → List (Nat × FVal)
  | [] => []
  | h :: t =>
    let put := (sortHits t)
    put.takeWhile (fun e => ltV e.2 h.2) ++ [h] ++ put.dropWhile (fun e => ltV e.2 h.2)

/-- The result of BOXT for a ray and a node of 32-bit words; the order bits are left open when no child is hit (R213). -/
def boxResult (ray node : List Nat) (open_ : Nat) : Nat :=
  let hits := (upFrom 0 4).filterMap (fun c => (boxHit ray node c).map (fun v => (c, v)))
  let order := (sortHits hits).map Prod.fst
  let slots := match order.getLast? with
    | some l => ((upFrom 0 4).map (fun k => (order.getD k l) <<< (4 + 2 * k))).foldl (· + ·) 0
    | none => open_ % 256 * 16
  (hits.map (fun e => 2 ^ e.1)).foldl (· + ·) 0 + slots

/-- A node reference that holds a reserved value: kind 3, or a count beside a kind that is no leaf. -/
def refReserved (x : Nat) : Bool := decide (x / 2 ^ 30 = 3 ∨ (x / 2 ^ 30 ≠ 2 ∧ (x / 2 ^ 25) % 32 ≠ 0))

/-- Vectors of integers. -/
abbrev I3 := Int × Int × Int
/-- The dot product. -/
def dot3 (a b : I3) : Int := a.1 * b.1 + a.2.1 * b.2.1 + a.2.2 * b.2.2
/-- The cross product. -/
def cross3 (a b : I3) : I3 :=
  (a.2.1 * b.2.2 - a.2.2 * b.2.1, a.2.2 * b.1 - a.1 * b.2.2, a.1 * b.2.1 - a.2.1 * b.1)
/-- The difference. -/
def sub3 (a b : I3) : I3 := (a.1 - b.1, a.2.1 - b.2.1, a.2.2 - b.2.2)

/-- Finite values as multiples of one power of two. -/
def intsOf (vs : List FVal) : List Int :=
  let q := vs.foldl (fun q v => match v with | .num _ m e => if m = 0 then q else min q e | _ => q) 0
  vs.map (fun v => match v with | .num s m e => if m = 0 then 0 else scaledTo s m e q | _ => 0)

/-- A ratio of integers rounded once to FP32; zero is +0. -/
def ratio32 (n d : Int) : Nat :=
  if n = 0 then 0 else divF .default 0 (ofIntV n) (ofIntV d)

/-- The four results of TRIT (R214). -/
def triResult (ray tri : List Nat) : List Nat :=
  let miss := [0x7F800000, 0, 0, 0]
  let vs := (ray.take 6 ++ tri).map f32
  if rayOk ray = false ∨ vs.all finiteV = false then miss
  else
    let n := intsOf vs
    let vec (k : Nat) : I3 := (n.getD k 0, n.getD (k + 1) 0, n.getD (k + 2) 0)
    let d := vec 3
    let a := vec 6
    let e1 := sub3 (vec 9) a
    let e2 := sub3 (vec 12) a
    let s := sub3 (vec 0) a
    let nrm := cross3 e1 e2
    let det := dot3 d nrm
    let sg := det.sign
    let t := -(dot3 nrm s)
    let u := dot3 s (cross3 e2 d)
    let w := dot3 e1 (cross3 s d)
    let m := ofIntV (det * sg)
    let tv := ofIntV (t * sg)
    if det ≠ 0 ∧ 0 ≤ u * sg ∧ 0 ≤ w * sg ∧ (u + w) * sg ≤ det * sg ∧
        leV (mulV (f32 (ray.getD 6 0)) m) tv = true ∧ leV tv (mulV (f32 (ray.getD 7 0)) m) = true then
      [ratio32 t det, ratio32 u det, ratio32 w det, if 0 < det then 3 else 1]
    else miss

/-- The 32-bit words of bytes. -/
def words32 : Nat → List Byte → List Nat
  | 0, _ => []
  | n + 1, bs => ofLe (bs.take 4) :: words32 n (bs.drop 4)

/-- What a record read for an element gives: its results, a cause, or a reserved value. -/
inductive RecR where
  | ok (s : State) (res : List Nat)
  | bad (s : State) (c : Cause)
  | reserved (s : State)

/-- The records of the active elements read and tested one after the other (R166, R208, R212): every result, the failing
element with its cause, or a reserved value. -/
def recLoop (active : Nat → Bool) (f : State → Nat → RecR) : List Nat → State → List (Nat × List Nat) →
    State × List (Nat × List Nat) × Option (Nat × Option Cause)
  | [], s, got => (s, got, none)
  | i :: is, s, got =>
    if active i then
      match f s i with
      | .ok s1 r => recLoop active f is s1 (got ++ [(i, r)])
      | .bad s1 c => (s1, got, some (i, some c))
      | .reserved s1 => (s1, got, some (i, none))
    else recLoop active f is s got

/-- Results of `n` groups from element results, under a vl that may be cut at a failing element. -/
def putResults (v : Vec) (sh : Shape) (o : VOp) (n : Nat) (got : List (Nat × List Nat)) : Vec :=
  (upFrom 0 n).foldl (fun v k =>
    v.writeEls sh { o with d := o.d + k * sh.g } sh.g 32 (fun i =>
      ((got.find? (fun e => e.1 == i)).map (fun e => e.2.getD k 0)).getD 0)) v

/-- An instruction that reads a record for each element and writes `n` groups. -/
def recEffect (sh : Shape) (o : VOp) (n : Nat) (f : State → Vec → Nat → RecR) (s : State) (v : Vec) : Eff :=
  if sh.vl = 0 then .ok s { v with vstart := 0 } [] else
  match recLoop (maskBit v sh o.m) (fun s i => f s v i) (upFrom sh.vstart (sh.vl - sh.vstart)) s [] with
  | (s1, got, none) => .ok s1 { putResults v sh o n got with vstart := 0 } []
  | (s1, _, some (_, none)) => .stop s1 v (laneFault sh o.pc 15)
  | (s1, got, some (i, some c)) =>
    .stop s1 { putResults v { sh with vl := i, tz := false } o n got with vstart := word i } c

/-- Bytes of a record read through the L1 for element `i`. -/
def recBytes (s : State) (k i : Nat) (va : Word) (n : Nat) : State × (List Byte ⊕ Cause) :=
  match readPieces s k (pagePieces va (n + 1) n) [] with
  | (s1, .inl bs) => (s1, .inl bs)
  | (s1, .inr (c, r, l, a, _)) => (s1, .inr ⟨c, a, impInfo r l false i⟩)

/-- BOXT and TRIT at the lanes. -/
def rayLane (k : Nat) (sh : Shape) (o : VOp) : LaneSpec :=
  let box := decide (o.fn = 1)
  let n := if box then 1 else 4
  let base := o.val 0
  { reads := [(o.a, 9 * sh.g)], writes := [(o.d, n * sh.g)]
    align := [(o.a, sh.g, 9 * sh.g), (o.d, sh.g, n * sh.g)], masks := decide (o.m ≠ 0), bad := gfxBad sh
    effect := fun s v => recEffect sh o n (fun s v i =>
      let ray := rayOf v sh o i
      let ref := ray.getD 8 0
      if base.toNat % (if box then 128 else 16) ≠ 0 then .bad s ⟨0x13, base, impInfo 4 0 false i⟩
      else if box then
        match recBytes s k i (base + word (128 * ref)) 112 with
        | (s1, .inr c) => .bad s1 c
        | (s1, .inl bs) =>
          let node := words32 28 bs
          if (node.drop 24).any refReserved then .reserved s1
          else .ok { s1 with free := s1.free + 1 } [boxResult ray node (Config.freeNat s1.free)]
      else
        match recBytes s k i (base + word (48 * ref)) 36 with
        | (s1, .inr c) => .bad s1 c
        | (s1, .inl bs) => .ok s1 (triResult ray (words32 9 bs))) s v }

/-! Commit packets (R223, R224, R362, R366). -/

/-- The home cluster of a tile for a packet of slot `k` (R362). -/
def tileHome (s : State) (k tile : Nat) : Nat :=
  let h := 7 * (tile % 65536) + 13 * (tile / 65536 % 65536)
  if s.modctl.getLsbD 2 then (if 12 ≤ clusterOf k then 12 else 0) + h % 12 else h % 24

/-- The bytes of pixel data that a packet carries. -/
def packetData (p : TilePacket) : Nat := 16 * p.colour.length
/-- The open tile that a packet belongs to. -/
def tileFor (c : ClusterSt) (p : TilePacket) : Option Tile :=
  c.tiles.find? (fun t => t.asid == p.asid && t.record == p.record && t.tile == p.tile)
/-- Bytes of a pixel of a format (R223). -/
def pixelBytes (fmt : Nat) : Nat := 4 * 2 ^ fmt
/-- The bytes of a commit unit's storage in use (R366): filled blocks and the pixel data of held packets. -/
def tileStorage (c : ClusterSt) : Nat :=
  (c.tiles.map (fun t => 64 * pixelBytes (bits t.record512.toNat 131 128) * t.loaded.length +
    (t.held.map packetData).sum)).sum

/-- The open tile that a packet belongs to has this next ticket; 0 when there is none. -/
def nextTicket (c : ClusterSt) (p : TilePacket) : Nat := ((tileFor c p).map (fun t => t.expect)).getD 0
/-- The tile of a packet has been opened by a packet that was applied (R366). -/
def tileOpen (c : ClusterSt) (p : TilePacket) : Bool := ((tileFor c p).map (fun t => t.opened)).getD false

/-- A packet that its unit can apply or hold at once (R224, R366): one whose ticket is the next or late, where its tile is
open or one more may open; else its tile has a free entry, and the storage room. Packets on their way that will be held, or
will open a tile, count. -/
def packetRoom (c : ClusterSt) (p : TilePacket) : Bool :=
  let ahead := c.packets.filter (fun q => decide (nextTicket c q < q.ticket))
  let same := ahead.filter (fun q => q.asid == p.asid && q.record == p.record && q.tile == p.tile)
  let opening := c.packets.filter (fun q => decide (nextTicket c q = q.ticket) && !tileOpen c q)
  if p.ticket ≤ nextTicket c p then
    tileOpen c p || decide ((c.tiles.filter (fun t => t.opened)).length + opening.length < 4096)
  else
    decide ((((tileFor c p).map (fun t => t.held.length)).getD 0) + same.length < 64 ∧
      tileStorage c + (ahead.map packetData).sum + packetData p ≤ 2 ^ 20)

/-- A packet leaves for its tile's commit unit, or its vector unit stalls (R224, R362, R366, R487). -/
def sendPacket (s : State) (v : Vec) (p : TilePacket) (v1 : Vec) : Eff :=
  let home := tileHome s p.slot p.tile
  if s.rdy.getLsbD home && packetRoom (s.cluster home) p then
    .ok (s.onCluster home (fun c => { c with packets := c.packets ++ [p] })) v1 []
  else .wait s v

/-- The barrier word that s[a] of a TRSLV names in the windows of the slot that issues it (R227): none for zero, else its
window key, when it is one. -/
def trslvWord (k : Nat) (va : Word) : Option (Option (Nat × Word)) :=
  if va = 0 then some none
  else if inWindowRegion va then (windowOff k va).map (fun o => some (winKey (clusterOf k) o, va))
  else none

/-- PXCMT, TCLR and TRSLV at the lanes. -/
def commitLane (k : Nat) (sh : Shape) (o : VOp) : LaneSpec :=
  let px := decide (o.fn = 5)
  let key := if o.fn = 7 then o.val 2 else o.val 1
  let b1 := if px then o.val 2 else if o.fn = 7 then o.val 3 else 0
  let bar := if o.fn = 7 then trslvWord (o.val 4).toNat (o.val 1) else some none
  { reads := if px then [(o.a, 4 * sh.g)] else []
    align := if px then [(o.a, sh.g, 4 * sh.g)] else [], masks := decide (px = true ∧ o.m ≠ 0)
    bad := gfxBad sh ++ [(15, decide ((px = true ∧ fieldOf b1 63 17 ≠ 0) ∨ (o.fn = 7 ∧ fieldOf b1 63 2 ≠ 0)) || bar.isNone)]
    effect := fun s v =>
      let x := s.slot k
      let on := maskBit v sh o.m
      let els := if px then upFrom 0 sh.vl else []
      sendPacket s v
        { kind := o.fn - 5, asid := x.asidN, slot := k, ptbase := x.sys.ptbase, record := o.val 0
          tile := fieldOf key 63 32, ticket := fieldOf key 31 0
          last := decide (o.fn = 6) || (px && b1.getLsbD 16), p0 := if px then fieldOf b1 15 0 else 0
          ctl := if o.fn = 7 then fieldOf b1 1 0 else 0
          mask := els.map (fun i => decide (sh.vstart ≤ i) && on i)
          colour := els.map (fun i => (upFrom 0 4).map (fun c => getEl 32 (v.grp sh.w 0 (o.a + c * sh.g) sh.g) i))
          barrier := bar.getD none, task := x.task, user := !x.spv }
        v }

/-! Issue. -/

/-- EDGE. -/
def execEdge (x : VF) (s : State) : Host.Outcome State Fault Refusal :=
  issueVec { reason := reasonEdge x, code := wordVF 0x25 0 x, srcs := [x.va, x.va + 1, x.va + 2, x.vb] } s
/-- BOXT. -/
def execBoxt (x : VF) (s : State) : Host.Outcome State Fault Refusal :=
  issueVec { reason := zeroVFF x, code := wordVF 0x25 1 x, srcs := [x.vb], cvd := some x.vd } s
/-- TRIT. -/
def execTrit (x : VF) (s : State) : Host.Outcome State Fault Refusal :=
  issueVec { reason := zeroVFF x, code := wordVF 0x25 2 x, srcs := [x.vb], cvd := some x.vd } s
/-- PXCMT. -/
def execPxcmt (x : VF) (s : State) : Host.Outcome State Fault Refusal :=
  issueVec { reason := reasonPxcmt x, code := wordVF 0x25 5 x, srcs := [x.vd, x.vb, x.vb + 1] } s
/-- TCLR. -/
def execTclr (x : VF) (s : State) : Host.Outcome State Fault Refusal :=
  issueVec { reason := zeroVFFMVa x, code := wordVF 0x25 6 x, srcs := [x.vd, x.vb] } s
/-- TRSLV. -/
def execTrslv (x : VF) (s : State) : Host.Outcome State Fault Refusal :=
  issueVec { reason := reasonTrslv x, code := wordVF 0x25 7 x, srcs := [x.vd, x.va, x.vb, x.vb + 1], extra := [word s.cur] } s

end Sys2Proof.Machine
end

