-- ==== Sys2Proof/Machine/Texture.lean ====
section
/-! DEFINITION. Machine/Texture.lean: texture descriptors and samplers (R215 to R218), filtered reads (R219 to R221) and
queries (R222). -/

namespace Sys2Proof.Machine

/-! Formats (R215, R218). -/

/-- Block width of a format code. -/
def texBw (f : Nat) : Nat :=
  if f < 0x10 then 1 else if f < 0x20 then 4 else [4, 5, 5, 6, 6, 8, 8, 8, 10, 10, 10, 10, 12, 12].getD (f - 0x20) 4
/-- Block height of a format code. -/
def texBh (f : Nat) : Nat :=
  if f < 0x10 then 1 else if f < 0x20 then 4 else [4, 4, 5, 5, 6, 5, 6, 8, 5, 6, 8, 10, 10, 12].getD (f - 0x20) 4
/-- Block bytes of a format code. -/
def texBytes (f : Nat) : Nat :=
  if f < 8 then [4, 1, 2, 4, 2, 8, 4, 16].getD f 4 else if f < 0x20 then [8, 16, 8, 8, 16].getD (f - 0x10) 8 else 16
/-- The format code is one of the table. -/
def texFmtOk (f : Nat) : Bool := decide (f < 8 ∨ (0x10 ≤ f ∧ f ≤ 0x14) ∨ (0x20 ≤ f ∧ f ≤ 0x2D))
/-- sRGB decode may be set with the format. -/
def texSrgbOk (f : Nat) : Bool := decide (f = 0 ∨ (0x10 ≤ f ∧ f ≤ 0x12) ∨ 0x20 ≤ f)

/-- A descriptor and its sampler, 512 bits each. -/
structure Tex where
  d : Nat
  s : Nat

/-- Base address. -/
def Tex.base (t : Tex) : Nat := bits t.d 63 0
/-- Level-0 width. -/
def Tex.width (t : Tex) : Nat := bits t.d 79 64 + 1
/-- Level-0 height. -/
def Tex.height (t : Tex) : Nat := bits t.d 95 80 + 1
/-- Array layers. -/
def Tex.layers (t : Tex) : Nat := bits t.d 107 96 + 1
/-- Mip levels. -/
def Tex.levels (t : Tex) : Nat := bits t.d 111 108 + 1
/-- Format code. -/
def Tex.fmt (t : Tex) : Nat := bits t.d 118 112
/-- Address mode of a coordinate: 0 for u, 1 for v. -/
def Tex.addr (t : Tex) (c : Nat) : Nat := bits t.s (226 + 3 * c) (224 + 3 * c)
/-- Mip filter. -/
def Tex.mip (t : Tex) : Nat := bits t.s 233 232
/-- Level of detail from derivatives. -/
def Tex.lodm (t : Tex) : Bool := bit t.s 238
/-- Channel `c` of the border colour. -/
def Tex.border (t : Tex) (c : Nat) : Nat := bits t.s (127 + 32 * c) (96 + 32 * c)

/-- A descriptor or sampler that holds a reserved value. -/
def Tex.reserved (t : Tex) : Bool :=
  decide (bits t.d 511 256 ≠ 0 ∨ bits t.d 191 160 ≠ 0 ∨ bits t.d 127 120 ≠ 0 ∨ bits t.s 511 239 ≠ 0 ∨ t.mip = 3 ∨
    3 < t.addr 0 ∨ 3 < t.addr 1) || !texFmtOk t.fmt || (bit t.d 119 && !texSrgbOk t.fmt)

/-! Levels (R216). -/

/-- Width of level `l`. -/
def Tex.w (t : Tex) (l : Nat) : Nat := max 1 (t.width >>> l)
/-- Height of level `l`. -/
def Tex.h (t : Tex) (l : Nat) : Nat := max 1 (t.height >>> l)
/-- Row pitch of level `l`. -/
def Tex.pitch (t : Tex) (l : Nat) : Nat :=
  if l = 0 then bits t.d 159 128 else 64 * ceilDiv (texBytes t.fmt * ceilDiv (t.w l) (texBw t.fmt)) 64
/-- Offset of level `l` in its layer. -/
def Tex.offset (t : Tex) : Nat → Nat
  | 0 => 0
  | l + 1 => 256 * ceilDiv (t.offset l + t.pitch l * ceilDiv (t.h l) (texBh t.fmt)) 256

/-! Texels (R218). -/

/-- An n-bit unsigned normalised value. -/
def unormF (n v : Nat) : Nat := divF .default 0 (ofIntV v) (ofIntV (2 ^ n - 1 : Nat))

/-- The fifth root of a number below 2^(5 n), rounded down. -/
def iroot5 : Nat → Nat → Nat
  | 0, _ => 0
  | n + 1, v =>
    let r := 2 * iroot5 n (v / 32)
    if (r + 1) ^ 5 ≤ v then r + 1 else r

/-- The IEC 61966-2-1 decode of an n-bit value, exact and rounded once to FP32: x / 12.92 below the threshold, else
((x + 0.055) / 1.055)^2.4, whose fifth power is a twelfth power. -/
def srgbF (n v : Nat) : Nat :=
  let d := 2 ^ n - 1
  if 100000 * v ≤ 4045 * d then divF .default 0 (ofIntV (100 * v : Nat)) (ofIntV (1292 * d : Nat))
  else
    let num := (1000 * v + 55 * d) ^ 12 * 2 ^ 640
    let den := (1055 * d) ^ 12
    let r := iroot5 140 (num / den)
    roundF .default 0 false r (-128) (decide (r ^ 5 * den ≠ num))

/-- The width in bits of a channel of an unsigned normalised format. -/
def texUnorm (f c : Nat) : Nat :=
  if f = 3 then (if c = 3 then 2 else 10) else if 0x13 ≤ f ∧ f ≤ 0x14 then 11 else if 0x20 ≤ f then 16 else 8
/-- The channels that a format has. -/
def texChannels (f : Nat) : List Nat :=
  if f = 1 ∨ f = 4 ∨ f = 6 ∨ f = 0x13 then [0]
  else if f = 2 ∨ f = 0x14 then [0, 1]
  else if f = 0x10 then [0, 1, 2]
  else [0, 1, 2, 3]

/-- The channels of a texel of a block format as the outside standards give them (R218); none for an ASTC block that gives
the error colour. -/
def blockTexel (f raw idx : Nat) (srgb : Bool) : Option (List Nat) :=
  let x := idx % texBw f
  let y := idx / texBw f
  if 0x20 ≤ f then astcTexel (texBw f) (texBh f) raw x y srgb else some (etcTexel f raw x y)

/-- The encoding of a channel of a texel of an unblocked format. -/
def texEnc (f raw c : Nat) : Nat :=
  if f = 3 then (raw >>> (10 * c)) % 2 ^ texUnorm f c
  else
    let w := if f < 3 then 8 else if f < 6 then 16 else 32
    (raw >>> (w * c)) % 2 ^ w

/-- A channel's encoding as FP32 (R218); under sRGB the colour of an ASTC texel keeps its sixteen bits (PRESUMED, log 51). -/
def texValue (t : Tex) (c x : Nat) : Nat :=
  let f := t.fmt
  if f = 4 ∨ f = 5 then writeF .default 0 (decodeF 2 x)
  else if f = 6 ∨ f = 7 then writeF .default 0 (decodeF 0 x)
  else if bit t.d 119 ∧ c < 3 then srgbF (texUnorm f c) x
  else unormF (texUnorm f c) x

/-- The four channels of texel `idx` of a block, or of an unblocked texel, as FP32 (R218). -/
def texelValues (t : Tex) (raw idx : Nat) : List Nat :=
  let f := t.fmt
  let has (c : Nat) (x : Nat) : Nat :=
    if c ∈ texChannels f then texValue t c x else if c = 3 then 0x3F800000 else 0
  if f < 0x10 then (upFrom 0 4).map (fun c => has c (texEnc f raw c))
  else match blockTexel f raw idx (bit t.d 119) with
    | some cs => (upFrom 0 4).map (fun c => has c (cs.getD c 0))
    | none => [0x3F800000, 0, 0x3F800000, 0x3F800000]

/-! Reads through the sampler cache (R221). -/

/-- The pieces of an access, one for each line. -/
def linePieces (va : Word) : Nat → Nat → List (Word × Nat)
  | 0, _ => []
  | fuel + 1, n =>
    if n = 0 then [] else
    let k := min n (64 - va.toNat % 64)
    (va, k) :: linePieces (va + word k) fuel (n - k)

/-- Bytes read through the sampler cache of the slot's core, or the first cause. -/
def samplerBytes (s : State) (k i : Nat) : List (Word × Nat) → List Byte → State × (List Byte ⊕ Cause)
  | [], got => (s, .inl got)
  | (va, n) :: rest, got =>
    match resolveFor s k va wantSampler with
    | (s1, .bad c r l) => (s1, .inr ⟨c, va, impInfo r l false i⟩)
    | (s1, .ok loc) =>
      let p := samplerRead s1 (coreOf k) loc n
      samplerBytes (poisoned p.1 (s1.slot k).asidN loc n) k i rest (got ++ p.2)

/-- The descriptor and sampler at an address (R215). -/
def readTex (s : State) (k i : Nat) (va : Word) : State × (Tex ⊕ Cause) :=
  match samplerBytes s k i (linePieces va 129 128) [] with
  | (s1, .inr c) => (s1, .inr c)
  | (s1, .inl bs) => (s1, .inl ⟨ofLe (bs.take 64), ofLe (bs.drop 64)⟩)

/-! Coordinates (R220). A coordinate is a quotient of a value and a number; the texel of an infinite one is left open. -/

/-- floor(v × k / den), for a number v. -/
def floorV (v : FVal) (k den open_ : Nat) : Option Int :=
  match v with
  | .nan => none
  | .inf neg => some (if neg then -(2 ^ 200 + open_ : Nat) else (2 ^ 200 + open_ : Nat))
  | .num neg m e =>
    let n : Int := (if neg then -1 else 1) * (m * k * 2 ^ e.toNat : Nat)
    some (n.fdiv (den * 2 ^ (-e).toNat : Nat))

/-- An index in a level of `n` texels under an address mode; none for the border. -/
def wrapIdx (mode n : Nat) (i : Int) : Option Nat :=
  match mode with
  | 0 => some (i % (n : Int)).toNat
  | 1 => some (max 0 (min ((n : Int) - 1) i)).toNat
  | 2 =>
    let m := (i % (2 * n : Int)).toNat
    some (if m < n then m else 2 * n - 1 - m)
  | _ => if 0 ≤ i ∧ i < (n : Int) then some i.toNat else none
/-- The index of a coordinate's texel, `step` further; a NaN reads texel 0, or the border. -/
def coordIdx (mode n : Nat) (i : Option Int) (step : Int) : Option Nat :=
  match i with
  | some j => wrapIdx mode n (j + step)
  | none => if mode = 3 then none else some 0

/-- The four channels of a texel. -/
def texelAt (s : State) (k i : Nat) (t : Tex) (layer l : Nat) (x y : Option Nat) : State × (List Nat ⊕ Cause) :=
  match x, y with
  | some x, some y =>
    let f := t.fmt
    let va := word (t.base + layer * bits t.d 255 192 + t.offset l + y / texBh f * t.pitch l + x / texBw f * texBytes f)
    match samplerBytes s k i (linePieces va (texBytes f + 1) (texBytes f)) [] with
    | (s1, .inr c) => (s1, .inr c)
    | (s1, .inl bs) =>
      (s1, .inl (texelValues t (ofLe bs) (y % texBh f * texBw f + x % texBw f)))
  | _, _ => (s, .inl ((upFrom 0 4).map t.border))

/-- round32(a + b). -/
def add32 (a b : Nat) : Nat := round32 .default (addV 0 (f32 a) (f32 b))
/-- round32(a × b), b exact. -/
def mul32 (a : Nat) (b : FVal) : Nat := round32 .default (mulV (f32 a) b)
/-- a × (1 - f) + b × f for f in units of 1/256 (R220). -/
def mix32 (f a b : Nat) : Nat :=
  add32 (mul32 a (.num false (256 - f) (-8))) (mul32 b (.num false f (-8)))

/-- Several texels read one after the other. -/
def texelsAt (s : State) (k i : Nat) (t : Tex) (layer l : Nat) : List (Option Nat × Option Nat) → List (List Nat) →
    State × (List (List Nat) ⊕ Cause)
  | [], got => (s, .inl got)
  | (x, y) :: rest, got =>
    match texelAt s k i t layer l x y with
    | (s1, .inr c) => (s1, .inr c)
    | (s1, .inl v) => texelsAt s1 k i t layer l rest (got ++ [v])

/-- The fraction in units of 1/256 of a coordinate v / den. -/
def fracOf (v : FVal) (den open_ : Nat) : Nat :=
  match floorV v 256 den open_ with
  | some n => (n % 256).toNat
  | none => 0

/-- One sample on a level at (u, v) / den (R220). -/
def sampleAt (s : State) (k i : Nat) (t : Tex) (layer l : Nat) (linear : Bool) (u v : FVal) (den : Nat) :
    State × (List Nat ⊕ Cause) :=
  let w := t.w l
  let h := t.h l
  let op := Config.freeNat s.free
  let s := { s with free := s.free + 1 }
  let half : FVal := if linear then negV (.num false den (-1)) else .num false 0 0
  let x := addV 0 (mulV u (ofIntV w)) half
  let y := addV 0 (mulV v (ofIntV h)) half
  let ix := floorV x 1 den op
  let iy := floorV y 1 den op
  let cx := coordIdx (t.addr 0) w ix
  let cy := coordIdx (t.addr 1) h iy
  if linear then
    match texelsAt s k i t layer l [(cx 0, cy 0), (cx 1, cy 0), (cx 0, cy 1), (cx 1, cy 1)] [] with
    | (s1, .inr c) => (s1, .inr c)
    | (s1, .inl ts) =>
      let a := fracOf x den op
      let b := fracOf y den op
      let ch (n c : Nat) : Nat := (ts.getD n []).getD c 0
      (s1, .inl ((upFrom 0 4).map (fun c => mix32 b (mix32 a (ch 0 c) (ch 1 c)) (mix32 a (ch 2 c) (ch 3 c)))))
  else texelAt s k i t layer l (cx 0) (cy 0)

/-- What an element reads: its coordinates, the major axis, the count of samples, the layer. -/
structure Footprint where
  u : FVal
  v : FVal
  du : FVal
  dv : FVal
  n : Nat
  layer : Nat

/-- The N samples of a level, summed in order (R220). -/
def samplesAt (k i : Nat) (t : Tex) (fp : Footprint) (l : Nat) (linear : Bool) : List Nat → State → Option (List Nat) →
    State × (List Nat ⊕ Cause)
  | [], s, got => (s, .inl (got.getD []))
  | j :: rest, s, got =>
    let n := fp.n
    let step : FVal := ofIntV ((2 * j + 1 : Nat) - (n : Nat) : Int)
    let at_ (c d : FVal) : FVal := if n = 1 then c else addV 0 (mulV c (ofIntV (2 * n : Nat))) (mulV d step)
    match sampleAt s k i t fp.layer l linear (at_ fp.u fp.du) (at_ fp.v fp.dv) (if n = 1 then 1 else 2 * n) with
    | (s1, .inr c) => (s1, .inr c)
    | (s1, .inl v) => samplesAt k i t fp l linear rest s1 (some (match got with
        | some g => (g.zip v).map (fun e => add32 e.1 e.2)
        | none => v))

/-- A level's result: the samples' sum times round32(1 / N). -/
def levelAt (s : State) (k i : Nat) (t : Tex) (fp : Footprint) (l : Nat) (linear : Bool) : State × (List Nat ⊕ Cause) :=
  match samplesAt k i t fp l linear (upFrom 0 fp.n) s none with
  | (s1, .inr c) => (s1, .inr c)
  | (s1, .inl v) =>
    (s1, .inl (if fp.n = 1 then v else v.map (fun x => mul32 x (f32 (divF .default 0 (ofIntV 1) (ofIntV fp.n))))))

/-! Level of detail (R219). -/

/-- The squared length of a footprint axis. -/
def rho2 (t : Tex) (du dv : FVal) : FVal :=
  let a := mulV du (ofIntV t.width)
  let b := mulV dv (ofIntV t.height)
  addV 0 (mulV a a) (mulV b b)

/-- The sample count N for squared lengths. -/
def aniso (t : Tex) (big small : FVal) : Nat :=
  let most := bits t.s 237 234 + 1
  if bit t.s 231 = false ∨ most = 1 ∨ isZeroV small = true ∨ unorderedV big small = true then 1
  else ((upFrom 1 most).find? (fun n => leV big (mulV small (ofIntV (n * n : Nat))))).getD most

/-- log2 of the square root of r / n^2: exact for powers of two, and otherwise within the bound of VFLOG2 (R180). -/
def lodLog (s : State) (r : FVal) (n : Nat) : FVal :=
  match r with
  | .num _ m e =>
    if m = 0 then .inf true
    else
      let q := (m <<< 400) / (n * n)
      let whole := decide ((m <<< 400) % (n * n) = 0) && isPow2 q
      let lg := (Nat.log2 q : Int) + e - 400
      if whole ∧ lg % 2 = 0 then ofIntV (lg / 2)
      else
        let y := match logOf q (e - 400) with
          | .num x a b => FVal.num x a (b - 1)
          | z => z
        let near1 := decide (-2 ≤ lg ∧ lg < 2)
        let c := decodeF 0 (Config.freeNat s.free % 2 ^ 32)
        if within c y (if near1 then some (-22) else none) 2 then c else decodeF 0 (round32 .default y)
  | .inf _ => .inf false
  | .nan => .nan

/-- The level of detail in units of 1/256 after the floor, clamped; a NaN gives 0 (R219 step 4). -/
def lodClamp (t : Tex) (lod : FVal) : FVal :=
  match lod with
  | .nan => .num false 0 0
  | _ =>
    let f := match floorV lod 256 1 0, lod with
      | some n, .num _ _ _ => (match ofIntV n with | .num x m e => FVal.num x m (e - 8) | z => z)
      | _, z => z
    let c := minV (maxV f (f32 (bits t.s 63 32))) (f32 (bits t.s 95 64))
    minV (maxV c (.num false 0 0)) (ofIntV (t.levels - 1 : Nat))

/-- The filtered read of one element with coordinates `xs` (R219, R220). -/
def texfElement (s : State) (k i : Nat) (t : Tex) (xs : List Nat) : State × (List Nat ⊕ Cause) :=
  let c (n : Nat) : FVal := f32 (xs.getD n 0)
  let layer := (max 0 (min ((t.layers : Int) - 1) (sextN 64 (toIntF 0 ⟨64, true⟩ (c 2))))).toNat
  let rx := rho2 t (c 3) (c 4)
  let ry := rho2 t (c 5) (c 6)
  let xMajor := leV ry rx
  let n := if t.lodm then aniso t (maxV rx ry) (minV rx ry) else 1
  let bias := f32 (bits t.s 31 0)
  let raw := if t.lodm then
      (if unorderedV rx ry then .nan else addV 0 (lodLog s (maxV rx ry) n) bias)
    else addV 0 (c 3) bias
  let s := { s with free := s.free + 1 }
  let lod := lodClamp t raw
  let linear := bit t.s (if leV lod (.num false 0 0) then 230 else 231)
  let fp : Footprint :=
    { u := c 0, v := c 1, du := if xMajor then c 3 else c 5, dv := if xMajor then c 4 else c 6, n := n, layer := layer }
  let fl := ((floorV lod 1 1 0).getD 0).toNat
  match t.mip with
  | 0 => levelAt s k i t fp 0 linear
  | 1 => levelAt s k i t fp ((floorV (addV 0 lod (.num false 1 (-1))) 1 1 0).getD 0).toNat linear
  | _ =>
    match levelAt s k i t fp fl linear with
    | (s1, .inr c) => (s1, .inr c)
    | (s1, .inl r0) =>
      match levelAt s1 k i t fp (min (fl + 1) (t.levels - 1)) linear with
      | (s2, .inr c) => (s2, .inr c)
      | (s2, .inl r1) => (s2, .inl ((r0.zip r1).map (fun e => mix32 (fracOf lod 1 0) e.1 e.2)))

/-- The result of TEXQ for a level (R222). -/
def texqElement (t : Tex) (l : Nat) : List Nat :=
  if l < t.levels then [t.w l, t.h l, t.layers, t.levels] else [0, 0, 0, 0]

/-- The coordinate fields that a TEXF reads: the sampler's lodm says how many (R219). -/
def texFields (s : State) (k : Nat) (o : VOp) : Nat :=
  if o.fn = 4 then 1 else
  match (readTex s k 0 (o.val 0)).2 with
  | .inl t => if t.lodm then 7 else 4
  | .inr _ => 4

/-- TEXF and TEXQ at the lanes. -/
def texLane (s0 : State) (k : Nat) (sh : Shape) (o : VOp) : LaneSpec :=
  let n := texFields s0 k o
  let base := o.val 0
  { reads := [(o.a, n * sh.g)], writes := [(o.d, 4 * sh.g)]
    align := [(o.a, sh.g, n * sh.g), (o.d, sh.g, 4 * sh.g)], masks := decide (o.m ≠ 0), bad := gfxBad sh
    effect := fun s v => recEffect sh o 4 (fun s v i =>
      if base.toNat % 64 ≠ 0 then .bad s ⟨0x13, base, impInfo 4 0 false i⟩
      else match readTex s k i base with
        | (s1, .inr c) => .bad s1 c
        | (s1, .inl t) =>
          if t.reserved then .reserved s1
          else
            let field (f : Nat) : Nat := getEl 32 (v.grp sh.w 0 (o.a + f * sh.g) sh.g) i
            if o.fn = 4 then .ok s1 (texqElement t (field 0))
            else match texfElement s1 k i t ((upFrom 0 n).map field) with
              | (s2, .inr c) => .bad s2 c
              | (s2, .inl r) => .ok s2 r) s v }

/-- The instructions of major GFX at the lanes. -/
def gfxLane (s : State) (k : Nat) (sh : Shape) (o : VOp) : LaneSpec :=
  match o.fn with
  | 0 => edgeLane sh o
  | 1 => rayLane k sh o
  | 2 => rayLane k sh o
  | 3 => texLane s k sh o
  | 4 => texLane s k sh o
  | _ => commitLane k sh o

/-- TEXF. -/
def execTexf (x : VF) (s : State) : Host.Outcome State Fault Refusal :=
  issueVec { reason := zeroVFF x, code := wordVF 0x25 3 x, srcs := [x.vb], cvd := some x.vd } s
/-- TEXQ. -/
def execTexq (x : VF) (s : State) : Host.Outcome State Fault Refusal :=
  issueVec { reason := zeroVFF x, code := wordVF 0x25 4 x, srcs := [x.vb], cvd := some x.vd } s

end Sys2Proof.Machine
end

