-- ==== Sys2Proof/Machine/Tcu.lean ====
section
/-! DEFINITION. Machine/Tcu.lean: the tile commit units (R223 to R227, R362 to R368, R486 to R491, R500, R501). -/

namespace Sys2Proof.Machine

/-! The commit record (R223). -/

/-- A commit record, 512 bits. -/
structure Rec where
  raw : Nat

/-- Field `[hi:lo]` of a record. -/
def Rec.f (r : Rec) (hi lo : Nat) : Nat := bits r.raw hi lo
/-- Pixel format: 0 RGBA8, 1 RGBA16F, 2 RGBA32F. -/
def Rec.fmt (r : Rec) : Nat := r.f 131 128
/-- Target width. -/
def Rec.w (r : Rec) : Nat := r.f 111 96 + 1
/-- Target height. -/
def Rec.h (r : Rec) : Nat := r.f 127 112 + 1
/-- Tile side. -/
def Rec.side (r : Rec) : Nat := 2 ^ r.f 134 132
/-- Bytes of a pixel. -/
def Rec.bpp (r : Rec) : Nat := pixelBytes r.fmt
/-- Flag surface address. -/
def Rec.flagbase (r : Rec) : Nat := r.f 223 160
/-- The record holds a reserved value. -/
def Rec.reserved (r : Rec) : Bool :=
  decide (r.f 511 448 ≠ 0 ∨ r.f 255 224 ≠ 0 ∨ r.f 159 158 ≠ 0 ∨ 4 < r.f 157 155 ∨ 4 < r.f 154 152 ∨ 2 < r.fmt ∨
    r.f 134 132 < 3 ∨ 6 < r.f 134 132) ||
  (upFrom 0 4).any (fun k => decide (9 < r.f (139 + 4 * k) (136 + 4 * k)))

/-- Address of a pixel. -/
def Rec.pixel (r : Rec) (x y : Nat) : Word := word (r.f 63 0 + y * r.f 95 64 + x * r.bpp)

/-! Blending (R225). -/

/-- A value clamped to [0, 1], NaN giving 0. -/
def clamp01 (v : FVal) : FVal :=
  if v = .nan ∨ leV v (.num false 0 0) = true then .num false 0 0
  else if leV (.num false 1 0) v then .num false 1 0 else v

/-- A channel of the target as a value. -/
def destV (fmt x : Nat) : FVal :=
  match fmt with
  | 0 => f32 (divF .default 0 (ofIntV (x : Nat)) (ofIntV 255))
  | 1 => decodeF 2 x
  | _ => decodeF 0 x

/-- A channel as the target stores it. -/
def storeChan (fmt x : Nat) : Nat :=
  match fmt with
  | 0 => toIntF 0 ⟨8, false⟩ (mulV (clamp01 (f32 x)) (ofIntV 255))
  | 1 => writeF .default 2 (f32 x)
  | _ => x

/-- A blend factor for channel `c` (R223). -/
def factorV (code : Nat) (src dst : List FVal) (c : Nat) : FVal :=
  let one : FVal := .num false 1 0
  let at_ (l : List FVal) (k : Nat) : FVal := l.getD k .nan
  let less (v : FVal) : FVal := addV 0 one (negV v)
  match code with
  | 0 => .num false 0 0
  | 1 => one
  | 2 => at_ src 3
  | 3 => less (at_ src 3)
  | 4 => at_ dst 3
  | 5 => less (at_ dst 3)
  | 6 => at_ src c
  | 7 => less (at_ src c)
  | 8 => at_ dst c
  | _ => less (at_ dst c)

/-- The four channels that a pixel takes (R225). -/
def blendPixel (r : Rec) (src dst : List Nat) : List Nat :=
  let fmt := r.fmt
  let s := src.map (fun x => if fmt = 0 then clamp01 (f32 x) else f32 x)
  let d := dst.map (destV fmt)
  if r.f 135 135 = 0 then src.map (storeChan fmt)
  else (upFrom 0 4).map (fun c =>
    let hi := if c = 3 then 8 else 0
    let x := f32 (round32 .default (mulV (s.getD c .nan) (factorV (r.f (139 + hi) (136 + hi)) s d c)))
    let y := f32 (round32 .default (mulV (d.getD c .nan) (factorV (r.f (143 + hi) (140 + hi)) s d c)))
    let v := match (if c = 3 then r.f 157 155 else r.f 154 152) with
      | 0 => addV 0 x y
      | 1 => addV 0 x (negV y)
      | 2 => addV 0 y (negV x)
      | 3 => minV x y
      | _ => maxV x y
    storeChan fmt (round32 .default v))

/-! Blocks of a tile. -/

/-- Key of the block that holds a pixel. -/
def blockKey (bx by_ : Nat) : Nat := 8192 * by_ + bx
/-- Key of channel 0 of a pixel. -/
def pixelKey (x y : Nat) : Nat := 4 * (65536 * y + x)

/-- The blocks of a tile that meet the target, in row-major order. -/
def tileBlocks (r : Rec) (tile : Nat) : List (Nat × Nat) :=
  let n := r.side / 8
  (upFrom (tile / 65536 * n) n).flatMap (fun by_ => (upFrom (tile % 65536 * n) n).filterMap (fun bx =>
    if 8 * bx < r.w ∧ 8 * by_ < r.h then some (bx, by_) else none))

/-- The rows of a block in the target: row, first pixel, count. -/
def blockRows (r : Rec) (b : Nat × Nat) : List (Nat × Nat × Nat) :=
  (upFrom (8 * b.2) 8).filterMap (fun y => if y < r.h then some (y, 8 * b.1, min 8 (r.w - 8 * b.1)) else none)

/-- The bytes of a pixel's channels. -/
def chanBytes (r : Rec) (cs : List Nat) : List Byte := cs.flatMap (toLe (r.bpp / 4))
/-- The four channels of a pixel in a tile's buffer. -/
def bufPixel (t : Tile) (x y : Nat) : List Nat :=
  (upFrom 0 4).map (fun c => (rd 0 t.pixels (pixelKey x y + c)).toNat)
/-- The clear colour as the target stores it. -/
def clearChans (r : Rec) : List Nat := (upFrom 0 4).map (fun c => storeChan r.fmt (r.f (287 + 32 * c) (256 + 32 * c)))
/-- A pixel of a tile's buffer written. -/
def putPixel (t : Tile) (x y : Nat) (cs : List Nat) : Tile :=
  { t with pixels := wrMany 0 t.pixels (pixelKey x y) (cs.map (BitVec.ofNat 32)) }

/-- Where a unit works: its cluster, the process's tables, and whether in user mode. -/
structure UnitCtx where
  c : Nat
  asid : Nat
  ptbase : Word
  user : Bool

/-- Bytes read by the unit. -/
def UnitCtx.read (u : UnitCtx) (s : State) (va : Word) (n : Nat) : State × (List Byte ⊕ Cause) :=
  unitRead s u.c u.asid u.ptbase va u.user n
/-- Bytes written by the unit. -/
def UnitCtx.write (u : UnitCtx) (s : State) (va : Word) (bs : List Byte) : State × Option Cause :=
  unitWrite s u.c u.asid u.ptbase va u.user bs

/-- A record of a commit unit (R486, R488, R490, R500). -/
def tileRecord (s : State) (u : UnitCtx) (code : Nat) (addr info : Word) (slot tile queue : Nat) : State :=
  logRecord s ⟨addr, info, 0, slot, u.asid, code, 4, tile, queue, 2, u.c⟩

/-- The address of the flag byte of a block and the bit in it (R368). -/
def flagAt (r : Rec) (b : Nat × Nat) : Word × Nat :=
  let k := b.1 + b.2 * ceilDiv r.w 8
  (word (r.flagbase + k / 8), k % 8)

/-- The flag-surface bit of a block. -/
def readFlag (u : UnitCtx) (s : State) (r : Rec) (b : Nat × Nat) : State × (Bool ⊕ Cause) :=
  match u.read s (flagAt r b).1 1 with
  | (s1, .inl bs) => (s1, .inl ((bs.getD 0 0).getLsbD (flagAt r b).2))
  | (s1, .inr c) => (s1, .inr c)

/-- The flag-surface bit of a block written. -/
def writeFlag (u : UnitCtx) (s : State) (r : Rec) (b : Nat × Nat) (v : Bool) : State × Option Cause :=
  match u.read s (flagAt r b).1 1 with
  | (s1, .inr c) => (s1, some c)
  | (s1, .inl bs) =>
    let m : Byte := 1#8 <<< (flagAt r b).2
    let old := bs.getD 0 0
    u.write s1 (flagAt r b).1 [if v then old ||| m else old &&& ~~~m]

/-- A block's flag: the tile's own, or when it is not yet known the surface's bit. -/
def blockFlag (u : UnitCtx) (s : State) (t : Tile) (r : Rec) (b : Nat × Nat) : State × Tile × (Bool ⊕ Cause) :=
  let k := blockKey b.1 b.2
  let set (t : Tile) (v : Bool) : Tile := { t with flags := wr 0 t.flags k (if v then 2 else 1) }
  if rd 0 t.flags k ≠ 0 then (s, t, .inl (decide (rd 0 t.flags k = 2)))
  else if r.flagbase = 0 then (s, set t false, .inl false)
  else match readFlag u s r b with
    | (s1, .inl v) => (s1, set t v, .inl v)
    | (s1, .inr c) => (s1, t, .inr c)

/-- The pixels of some rows read from the target into the buffer. -/
def readRows (u : UnitCtx) (r : Rec) : List (Nat × Nat × Nat) → State → Tile → State × Tile × Option Cause
  | [], s, t => (s, t, none)
  | (y, x0, n) :: rest, s, t =>
    match u.read s (r.pixel x0 y) (n * r.bpp) with
    | (s1, .inr c) => (s1, t, some c)
    | (s1, .inl bs) =>
      let w := r.bpp / 4
      let t1 := (upFrom 0 n).foldl (fun t j => putPixel t (x0 + j) y
        ((upFrom 0 4).map (fun c => ofLe ((bs.drop (j * r.bpp + c * w)).take w)))) t
      readRows u r rest s1 t1

/-- A block fills from the target when it is first touched; a flagged block reads the clear colour (R225). -/
def fillTile (u : UnitCtx) (s : State) (t : Tile) (r : Rec) (b : Nat × Nat) : State × Tile × Option Cause :=
  let k := blockKey b.1 b.2
  let mark (t : Tile) : Tile := { t with loaded := wr false t.loaded k true }
  if rd false t.loaded k then (s, t, none)
  else match blockFlag u s t r b with
    | (s1, t1, .inr c) => (s1, t1, some c)
    | (s1, t1, .inl true) =>
      (s1, mark ((blockRows r b).foldl (fun t e => (upFrom e.2.1 e.2.2).foldl (fun t x =>
        putPixel t x e.1 (clearChans r)) t) t1), none)
    | (s1, t1, .inl false) =>
      match readRows u r (blockRows r b) s1 t1 with
      | (s2, _, some c) => (s2, t1, some c)
      | (s2, t2, none) => (s2, mark t2, none)

/-- A failed block is marked, with its record (R501). -/
def failBlock (u : UnitCtx) (s : State) (t : Tile) (b : Nat × Nat) (c : Cause) : State × Tile :=
  (tileRecord s u c.code c.addr c.info 0xFFFFFFFF t.tile 0, { t with failed := wr false t.failed (blockKey b.1 b.2) true })

/-- A block ready for use, or failed (R501). -/
def readyBlock (u : UnitCtx) (s : State) (t : Tile) (r : Rec) (b : Nat × Nat) : State × Tile × Bool :=
  if rd false t.failed (blockKey b.1 b.2) then (s, t, false)
  else match fillTile u s t r b with
    | (s1, t1, none) => (s1, t1, true)
    | (s1, t1, some c) => let f := failBlock u s1 t1 b c; (f.1, f.2, false)

/-- The translations of a block's writes, lowest address first (R490). -/
def locateBlock (u : UnitCtx) (r : Rec) : List (Nat × Nat × Nat) → State → List (List (Loc × Nat)) →
    State × (List (List (Loc × Nat)) ⊕ Cause)
  | [], s, got => (s, .inl got)
  | (y, x0, n) :: rest, s, got =>
    match unitLocate s u.c u.asid u.ptbase { wantWrite with user := u.user } (pagePieces (r.pixel x0 y) (n * r.bpp + 1) (n * r.bpp)) [] with
    | (s1, .inr c) => (s1, .inr c)
    | (s1, .inl ls) => locateBlock u r rest s1 (got ++ [ls])

/-- A block's pixels written to the target, or the cause that stops it whole (R490). -/
def writeBlock (u : UnitCtx) (s : State) (t : Tile) (r : Rec) (b : Nat × Nat) : State × Option Cause :=
  match locateBlock u r (blockRows r b) s [] with
  | (s1, .inr c) => (s1, some c)
  | (s1, .inl lss) =>
    (((blockRows r b).zip lss).foldl (fun s e =>
      unitPut s e.2 ((upFrom e.1.2.1 e.1.2.2).flatMap (fun x => chanBytes r (bufPixel t x e.1.1)))) s1, none)

/-! Spills (R366). -/

/-- A block leaves the buffer; a written one goes to the target, and fails when that write faults (R366, R501). -/
def spillBlock (u : UnitCtx) (r : Rec) (a : State × Tile) (b : Nat × Nat) : State × Tile :=
  let k := blockKey b.1 b.2
  if rd false a.2.loaded k = false then a
  else
    let gone (t : Tile) : Tile := { t with
      loaded := wr false t.loaded k false, written := wr false t.written k false
      pixels := (blockRows r b).foldl (fun m e => delWhere (fun q =>
        decide (pixelKey e.2.1 e.1 ≤ q ∧ q < pixelKey (e.2.1 + e.2.2) e.1)) m) t.pixels }
    if rd false a.2.written k then
      match writeBlock u a.1 a.2 r b with
      | (s1, none) => (s1, gone a.2)
      | (s1, some c) => let f := failBlock u s1 a.2 b c; (f.1, gone f.2)
    else (a.1, gone a.2)

/-- A tile replaced in its unit, or closed. -/
def putTile (s : State) (c : Nat) (t : Tile) : State :=
  s.onCluster c (fun y => { y with
    tiles := y.tiles.filter (fun q => !(q.asid == t.asid && q.record == t.record && q.tile == t.tile)) ++ [t] })
/-- A tile closed. -/
def dropTile (s : State) (c : Nat) (t : Tile) : State :=
  s.onCluster c (fun y => { y with
    tiles := y.tiles.filter (fun q => !(q.asid == t.asid && q.record == t.record && q.tile == t.tile)) })

/-- The written blocks of the least recently touched tile go to the target while pixel storage is needed. -/
def spillTiles (s : State) (c : Nat) : Nat → State
  | 0 => s
  | n + 1 =>
    if tileStorage (s.cluster c) ≤ 2 ^ 20 then s
    else match (s.cluster c).tiles.find? (fun t => t.loaded ≠ []) with
      | none => s
      | some t =>
        let r : Rec := ⟨t.record512.toNat⟩
        let a := (tileBlocks r t.tile).foldl (spillBlock ⟨c, t.asid, t.ptbase, t.user⟩ r) (s, t)
        spillTiles (a.1.onCluster c (fun y => { y with tiles := y.tiles.map (fun q =>
          if q.asid == t.asid && q.record == t.record && q.tile == t.tile then a.2 else q) })) c n

/-! Applying a packet (R224 to R227, R500). -/

/-- The pixels of a PXCMT (R224, R225). -/
def applyPixels (u : UnitCtx) (r : Rec) (p : TilePacket) (a : State × Tile) : State × Tile :=
  let side := r.side
  ((p.mask.zip p.colour).zip (upFrom p.p0 p.mask.length)).foldl (fun (a : State × Tile) e =>
    let q := e.2
    let x := p.tile % 65536 * side + q % side
    let y := p.tile / 65536 * side + q / side
    if e.1.1 = false ∨ side * side ≤ q ∨ r.w ≤ x ∨ r.h ≤ y then a
    else
      let k := blockKey (x / 8) (y / 8)
      match readyBlock u a.1 a.2 r (x / 8, y / 8) with
      | (s1, t1, false) => (s1, t1)
      | (s1, t1, true) =>
        let t2 := putPixel t1 x y (blendPixel r e.1.2 (bufPixel t1 x y))
        (s1, { t2 with flags := wr 0 t2.flags k 1, written := wr false t2.written k true })) a

/-- TCLR (R226). -/
def applyClear (r : Rec) (t : Tile) : Tile :=
  (tileBlocks r t.tile).foldl (fun t b =>
    let k := blockKey b.1 b.2
    if r.flagbase ≠ 0 then
      { t with flags := wr 0 t.flags k 2, loaded := wr false t.loaded k false, written := wr false t.written k false }
    else
      let t1 := (blockRows r b).foldl (fun t e => (upFrom e.2.1 e.2.2).foldl (fun t x =>
        putPixel t x e.1 (clearChans r)) t) t
      { t1 with loaded := wr false t1.loaded k true, written := wr false t1.written k true }) t

/-- One bit of the CRC-32C of R227, lowest bit first. -/
def crcBit (c : BitVec 32) : BitVec 32 := if c.getLsbD 0 then (c >>> 1) ^^^ 0x82F63B78#32 else c >>> 1
/-- CRC-32C of bytes. -/
def crc32c (bs : List Byte) : BitVec 32 :=
  ~~~ (bs.foldl (fun c b => (List.range 8).foldl (fun c _ => crcBit c) (c ^^^ b.zeroExtend 32)) (BitVec.allOnes 32))

/-- What a resolve has met so far: the first failing cause, the bytes not written. -/
structure Resolve where
  s : State
  t : Tile
  fail : Option Cause
  bad : Bool
  lost : Nat

/-- Bytes of a block in the target. -/
def blockBytes (r : Rec) (b : Nat × Nat) : Nat := ((blockRows r b).map (fun e => e.2.2)).sum * r.bpp

/-- One block of a resolve (R227): a flagged one writes its flag bit, or with expand its pixels and a 0 there; another its
pixels, unless the signature matches. -/
def resolveBlock (u : UnitCtx) (r : Rec) (expand skip : Bool) (a : Resolve) (b : Nat × Nat) : Resolve :=
  let note (a : Resolve) (s : State) (c : Cause) (n : Nat) : Resolve :=
    { a with s := s, fail := some (a.fail.getD c), bad := true, lost := a.lost + n }
  if rd false a.t.failed (blockKey b.1 b.2) then { a with bad := true, lost := a.lost + blockBytes r b }
  else match blockFlag u a.s a.t r b with
  | (s1, _, .inr c) => note a s1 c (blockBytes r b)
  | (s1, t1, .inl flagged) =>
    let a := { a with s := s1, t := t1 }
    if flagged = true ∧ r.flagbase ≠ 0 ∧ expand = false then
      match writeFlag u a.s r b true with
      | (s2, none) => { a with s := s2 }
      | (s2, some c) => note a s2 c 0
    else
      let clear (a : Resolve) : Resolve :=
        if flagged = true ∧ r.flagbase ≠ 0 then match writeFlag u a.s r b false with
          | (s2, none) => { a with s := s2 }
          | (s2, some c) => note a s2 c 0
        else a
      if skip then clear a
      else match readyBlock u a.s a.t r b with
      | (s2, t2, false) => { a with s := s2, t := t2, bad := true, lost := a.lost + blockBytes r b }
      | (s2, t2, true) =>
        match writeBlock u s2 t2 r b with
        | (s3, some c) => note { a with t := t2 } s3 c (blockBytes r b)
        | (s3, none) => clear { a with s := s3, t := t2 }

/-- Every block of the tile in the buffer, for the signature; none when a block fails. -/
def gatherTile (u : UnitCtx) (r : Rec) : List (Nat × Nat) → State → Tile → State × Tile × Bool
  | [], s, t => (s, t, true)
  | b :: bs, s, t =>
    match readyBlock u s t r b with
    | (s1, t1, true) => gatherTile u r bs s1 t1
    | (s1, t1, false) => (s1, t1, false)

/-- The tile's bytes in row-major order. -/
def tileBytes (r : Rec) (t : Tile) : List Byte :=
  let side := r.side
  (upFrom (t.tile / 65536 * side) side).flatMap (fun y => if r.h ≤ y then [] else
    (upFrom (t.tile % 65536 * side) side).flatMap (fun x => if r.w ≤ x then [] else chanBytes r (bufPixel t x y)))

/-- The signature check of a resolve (R227, R368): the tile's CRC, whether it equals the table's entry, and the entry's
address. -/
def signature (u : UnitCtx) (r : Rec) (p : TilePacket) (s : State) (t : Tile) :
    State × Tile × Option (BitVec 32 × Bool × Word) :=
  let sigbase := r.f 447 384
  if p.ctl / 2 % 2 = 0 ∨ sigbase = 0 ∨ fieldOf s.modctl 1 0 = 0 then (s, t, none)
  else match gatherTile u r (tileBlocks r t.tile) s t with
  | (s1, t1, false) => (s1, t1, none)
  | (s1, t1, true) =>
    let crc := crc32c (tileBytes r t1)
    let va := word (sigbase + 4 * (t.tile / 65536 * ceilDiv r.w r.side + t.tile % 65536))
    match u.read s1 va 4 with
    | (s2, .inl bs) => (s2, t1, some (crc, decide (ofLe bs = crc.toNat), va))
    | (s2, .inr _) => (s2, t1, some (crc, false, va))

/-- The arrival of a TRSLV is due (R227). -/
def oweCredit (s : State) (u : UnitCtx) (p : TilePacket) (bytes : Nat) : State :=
  match p.barrier with
  | none => s
  | some (key, va) => { s with credits := s.credits ++ [⟨key, va, bytes, u.asid, u.c⟩] }

/-- TRSLV (R227, R490). -/
def applyResolve (u : UnitCtx) (r : Rec) (p : TilePacket) (s : State) (t : Tile) : State :=
  let sg := signature u r p s t
  let skip := match sg.2.2 with | some (_, eq, _) => eq | none => false
  let a := (tileBlocks r p.tile).foldl (resolveBlock u r (decide (p.ctl % 2 = 1)) skip) ⟨sg.1, sg.2.1, none, false, 0⟩
  let w := match sg.2.2 with
    | some (crc, false, va) => if a.bad then (a.s, none) else u.write a.s va (toLe 4 crc.toNat)
    | _ => (a.s, none)
  let s2 := match a.fail <|> w.2 with
    | some c => tileRecord w.1 u c.code c.addr c.info 0xFFFFFFFF p.tile 0
    | none => w.1
  oweCredit s2 u p (r.side * r.side * r.bpp - a.lost)

/-- A late packet (R486). -/
def latePacket (s : State) (u : UnitCtx) (p : TilePacket) : State :=
  tileRecord s u 0x12 p.record (einfoOf 28 0 false p.ticket) p.slot p.tile 0

/-- A packet whose ticket is the next one, applied to its tile; none for the tile when it closes. -/
def applyPacket (c : Nat) (p : TilePacket) (s : State) (t : Tile) : State × Option Tile :=
  let u : UnitCtx := ⟨c, p.asid, p.ptbase, p.user⟩
  let note (s : State) (code : Nat) (info : Word) : State :=
    tileRecord s u code p.record ((info &&& 0xFFFFFFFF) ||| (word p.ticket <<< 32)) 0xFFFFFFFF p.tile 0
  let bump (s : State) (t : Tile) : State × Option Tile :=
    (s, some (if p.last then { t with expect := t.expect + 1, changed := s.cycle, reported := false } else t))
  let bare (s : State) : State × Option Tile :=
    if p.kind = 2 then (oweCredit s u p 0, none) else bump s t
  match u.read s p.record 64 with
  | (s1, .inr c) => bare (note s1 c.code c.info)
  | (s1, .inl bs) =>
    let r : Rec := ⟨ofLe bs⟩
    if r.reserved then bare (note s1 0x12 15)
    else
      let t := { t with record512 := BitVec.ofNat 512 r.raw, ptbase := p.ptbase, user := p.user }
      match p.kind with
      | 0 => let a := applyPixels u r p (s1, t); bump a.1 a.2
      | 1 => bump s1 (applyClear r t)
      | _ => (applyResolve u r p s1 t, none)

/-- A tile that holds no packet yet; it is open when one has been applied (R366). -/
def openTile (s : State) (p : TilePacket) : Tile :=
  ⟨p.asid, p.record, p.tile, 0, [], [], [], [], [], [], 0, p.ptbase, p.user, s.cycle, false, false⟩

/-- Packets applied in order while they carry the tile's next ticket; a part behind its last part is late (R224, R365);
packets that stay held when their tile closes wait for its next pass. The fuel is the number of packets. -/
def applyHeld (c : Nat) : Nat → State → Tile → State
  | 0, s, t => putTile s c t
  | n + 1, s, t =>
    match t.held.find? (fun p => decide (p.ticket ≤ t.expect)) with
    | none => putTile s c t
    | some p =>
      let t1 := { t with held := t.held.erase p, opened := t.opened || decide (p.ticket = t.expect) }
      if p.ticket < t.expect then applyHeld c n (latePacket s ⟨c, p.asid, p.ptbase, p.user⟩ p) t1
      else match applyPacket c p s t1 with
        | (s1, some t2) => applyHeld c n s1 t2
        | (s1, none) =>
          if t1.held = [] then dropTile s1 c t1
          else applyHeld c n s1 { openTile s1 p with held := t1.held }

/-- A packet that reached its unit: discarded, applied with what it sets free, or held (R224). -/
def deliverPacket (s : State) (c : Nat) (p : TilePacket) : State :=
  let t := (tileFor (s.cluster c) p).getD (openTile s p)
  if p.ticket < t.expect then latePacket s ⟨c, p.asid, p.ptbase, p.user⟩ p
  else
    let s1 := applyHeld c (t.held.length + 1) s { t with held := t.held ++ [p] }
    spillTiles s1 c 4096

end Sys2Proof.Machine
end

