-- ==== Sys2Proof/Machine/Lanes.lean ====
section
/-! DEFINITION. Machine/Lanes.lean: the vector unit of a slot: the next entry of its queue at the lanes (R44, R96, R175, R205),
the grants it makes (R55 to R57, R145, R153), results on their way to the scalar side (R45), and imprecise faults (R253,
R422, R436, R448). -/

namespace Sys2Proof.Machine

/-- An instruction of the lanes, but for the pair passes and the repeat frame. -/
def laneSpec (s : State) (k : Nat) (sh : Shape) (o : VOp) (code : BitVec 32) : LaneSpec :=
  match o.op with
  | 0x19 => memLane k sh o
  | 0x1A => memLane k sh o
  | 0x1B => amoLane k sh o (code.extractLsb' 25 3).toNat
  | 0x1C => intLane sh o
  | 0x1D => int2Lane sh o
  | 0x1E => fpLane sh o
  | 0x1F => fp2Lane sh o
  | 0x20 => cmpLane sh o
  | 0x21 => maskLane sh o
  | 0x22 => permLane sh o
  | 0x23 => redLane sh o
  | 0x24 => matLane k (s.slot k).vec sh o
  | _ => gfxLane s k sh o

/-- A word of an entry with its captured values at the lanes. -/
def runWord (s : State) (k : Nat) (code : BitVec 32) (vals : List Word) (fmt pc : Word) (e : QEntry) : LaneR :=
  let v := (s.slot k).vec
  let sh := shapeOf v e.cap
  let o := VOp.of code vals fmt pc
  if o.op = 0x24 ∧ (o.fn = 4 ∨ o.fn = 5) then runPair s k v sh o e.bound
  else runLane s k sh pc e.bound (laneSpec s k sh o code)

/-- One performed instruction of a repeat frame (R95, R96): the frame keeps its place until the last one. -/
def runFrame (s : State) (k : Nat) (code : BitVec 32) (e : QEntry) : LaneR :=
  let all := performedWords (fieldsPF code) e.frame
  match all[e.done]? with
  | none => .done s [] []
  | some (j, w) =>
    match runWord s k w [e.vals.getD (2 * e.done + 1) 0] (e.vals.getD (2 * e.done) 0) (e.pc + word (4 + 4 * j)) e with
    | .done s1 _ more =>
      .done s1 [] (more ++ (if e.done + 1 < all.length then [{ e with done := e.done + 1, bound := [] }] else []))
    | .fault s1 c b => .fault s1 c b
    | .blocked s1 b => .blocked s1 b

/-- Commands of a vector port, delivered one by one in element order while the engine has room (R236); a malformed one
stops the entry at its first element (R438). -/
def deliverCommands (k : Nat) (p : Port) : Nat → State → List Word → Nat → LaneR
  | 0, s, _, _ => .blocked s []
  | fuel + 1, s, dws, i =>
    match dws with
    | lo :: hi :: rest =>
      if accessesOut s k then .blocked s [] else
      match cmdFault (cmdFields lo hi) p.opt with
      | some r => .fault (s.onSlot k (fun x => { x with
          vec := { x.vec with vstart := word i }
          vq := match x.vq with
            | e :: es => { e with work := .commands p dws i } :: es
            | [] => [] })) ⟨0x20, 0, impInfo r 0 false i⟩ []
      | none =>
        let eng := s.engine p.base
        if eng.cmds.length + eng.resv < 64 then deliverCommands k p fuel (giveCommand s k p.base lo hi p) rest (i + 2)
        else .blocked (s.onSlot k (fun x => { x with vq := match x.vq with
          | e :: es => { e with work := .commands p dws i } :: es
          | [] => [] })) []
    | _ => .done (s.onSlot k (fun x => { x with vec := { x.vec with vstart := 0 } })) [] []

/-- The count of a BARARR behind the slot's element stores (R250, R440); a failure after the thread's EXIT leaves a
record. -/
def countArrival (s : State) (k : Nat) (va bytes : Word) : LaneR :=
  if accessesOut s k then .blocked s []
  else match windowOff k va with
  | none => .done s [] []
  | some o =>
    let key := winKey (clusterOf k) o
    let w := barArrive bytes.toNat (barRead s key)
    match (if (barRead s key).bad then some 2 else barFault w) with
    | some r =>
      if (s.slot k).wait = .exited then
        .done (eventRecord s (s.slot k).asidN 0x1F r va 4 0 k (s.slot k).task) [] []
      else .fault s ⟨0x1F, va, impInfo r 0 false 0⟩ []
    | none =>
      if heldByProtected s k key 32 then .blocked s [] else .done (barWrite s (clusterOf k) key w) [] []

/-- vl, and vtype with it, at the vector unit (R145, R153): the held entries behind take them. A new vtype sets vstart to
zero (R152); SMLOOP leaves it (R144). -/
def setLengthAt (s : State) (k : Nat) (vl : Word) (vt : Option Word) (live : Option Nat) : State :=
  s.onSlot k (fun x => { (recapture x vl vt) with
    vec := { x.vec with
      vl := vl, vtype := vt.getD x.vec.vtype, live := live.getD x.vec.live
      vstart := if vt.isSome then 0 else x.vec.vstart }.dirtyVec })

/-- An entry of the vector instruction queue at the lanes. -/
def runEntry (s : State) (k : Nat) (e : QEntry) : LaneR :=
  match e.work with
  | .vector code =>
    if majorOf code = 0x26 then runFrame s k code e else runWord s k code e.vals e.fmt e.pc e
  | .commands p dws i => deliverCommands k p (dws.length + 1) s dws i
  | .setVl vl vt live => .done (setLengthAt s k vl (some vt) (some live)) [] []
  | .setVlOnly vl live => .done (setLengthAt s k vl none live) [] []
  | .grant _ _ _ _ => .blocked s []
  | .arrive va n _ => countArrival s k va n
  | .release r => if accessesOut s k || awaitsQueue s r then .blocked s [] else .done (performRelease s k r) [] []

/-- The entry has finished: its results leave for the scalar side, and instructions of the core that waited for the unit
go on. -/
def finishEntry (s : State) (k : Nat) (e : QEntry) (res : List Word) (more : List QEntry) : State :=
  let s1 := (retireHead s k more).onSlot k (fun x => { x with arrivals := x.arrivals ++ e.dst.zip res })
  wakeDrain s1 (coreOf k)

/-- The entry first in the vector instruction queue keeps the values of its bound registers (R165, R173). -/
def keepBound (s : State) (k : Nat) (b : List (Nat × Nat)) : State :=
  s.onSlot k (fun x => { x with vq := match x.vq with
    | e :: es => { e with bound := b } :: es
    | [] => [] })

/-- A thread that has executed EXIT ends. A supervisor that ends a thread which no placement could restore, without
enqueueing its resume task again, fails its launch (R471). -/
def exitThread (s : State) (k : Nat) : State :=
  let x := s.slot k
  endThread (match x.spv, x.task.stuck with
    | true, some (r, a) => failLaunch s x.task.launch 0x1A r a 0 0
    | _, _ => s) k

/-- The vector unit of a slot takes its next step: nothing while a fault waits to be taken; a thread that has executed EXIT
ends when nothing is left (R243). -/
def dispatchEntry (s : State) (k : Nat) : State :=
  let x := s.slot k
  if x.res = .empty ∨ x.res = .segment ∨ x.vfault.isSome = true then s
  else match x.vq with
  | [] => if x.wait = .exited ∧ x.arrivals = [] ∧ x.chunk.count = 0 then exitThread s k else s
  | e :: _ =>
    match runEntry s k e with
    | .done s1 res more => fenceRegs (finishEntry s1 k e res more) k
    | .fault s1 c b => wakeDrain ((keepBound (if c.code = 0x18 then s1.count k 16 else s1) k b).onSlot k (fun y => { y with
        vfault := some ⟨c.code, c.addr, c.info, true⟩, pairSince := none })) (coreOf k)
    | .blocked s1 b => keepBound s1 k b

/-- VECTOR_UNIT_DISPATCH. -/
def execVectorUnitDispatch (slot : Nat) (s : State) : Host.Outcome State Fault Refusal := .next (dispatchEntry s slot)

/-! Grants of the vector unit (R55, R57, R145, R153). -/

/-- The most segments, up to `n`, that slot `k` can have beside segment 0. -/
def reachSegments (s : State) (k : Nat) : Nat → Nat
  | 0 => 0
  | n + 1 =>
    if n + 1 ≤ (s.slot k).vec.segs.length then n + 1
    else if (attachSegments s k (n + 1 - (s.slot k).vec.segs.length)).isSome then n + 1
    else reachSegments s k n

/-- The segments beyond `n` are withdrawn, and what they held is discarded (R57). -/
def withdrawSegments (s : State) (k n : Nat) : State :=
  let segs := (s.slot k).vec.segs
  let s1 := (segs.drop n).foldl clearSlot s
  s1.onSlot k (fun x => { x with vec := { x.vec with
    segs := segs.take n
    v := delWhere (fun r => decide (32 * (n + 1) ≤ r)) x.vec.v
    m := delWhere (fun r => decide (8 * (n + 1) ≤ r)) x.vec.m } })

/-- Slot `k` with `n` segments beside segment 0. -/
def fitSegments (s : State) (k n : Nat) : State :=
  let have_ := (s.slot k).vec.segs.length
  if n < have_ then withdrawSegments s k n else (attachSegments s k (n - have_)).getD s

/-- The grant at the head of the queue: it waits until smin + 1 segments are there, and attaches between that and what was
asked; where more than one number fits, the choice is open (R55). -/
def grantSpan (s : State) (k : Nat) : State :=
  let x := s.slot k
  match x.vq with
  | [] => s
  | e :: _ => match e.work with
    | .grant request vt want loop =>
      if x.vfault.isSome then s else
      let lo := x.vec.smin
      let hi := reachSegments s k (want - 1)
      if hi < lo then s else
      let n := if lo < hi then lo + Config.freeNat s.free % (hi - lo + 1) else lo
      let s1 := fitSegments (if lo < hi then { s with free := s.free + 1 } else s) k n
      let live := spanLive s1 k
      let vl := word (min request.toNat (vlmaxSeg vt (vlenEff x.vec.vlen live) * (n + 1)))
      let s2 := setLengthAt s1 k vl (if loop then none else some vt) (some live)
      finishEntry (s2.onSlot k (fun y => reportVl y vl)) k e [vl] []
    | _ => s

/-- SPAN_GRANT. -/
def execSpanGrant (slot : Nat) (s : State) : Host.Outcome State Fault Refusal := .next (grantSpan s slot)

/-! Results and loaded data that arrive (R43, R45, R66). -/

/-- A port entry of a slot changed, in the chunk's checkpoint as well. -/
def onPort (s : State) (k p : Nat) (f : Port → Port) : State :=
  s.onSlot k (fun x => { (x.putPort p ((x.port p).map f)) with
    chunk := { x.chunk with
      ckptPorts := if x.chunk.count = 0 then x.chunk.ckptPorts
        else wr none x.chunk.ckptPorts p ((rd none x.chunk.ckptPorts p).map f) } })

/-- A result pushed as a dword of a command (R236, R438): the first half waits at its port; a malformed command is
discarded with a record. -/
def pushHalf (s : State) (k e p : Nat) (v : Word) : State :=
  let drop (s : State) : State := s.onEngine e (fun y => { y with resv := y.resv - 1 })
  match (s.slot k).port p with
  | none => drop s
  | some q => match q.low with
    | none => onPort s k p (fun q => { q with low := some v })
    | some lo =>
      let s1 := onPort s k p (fun q => { q with low := none })
      match cmdFault (cmdFields lo v) q.opt with
      | some r => eventRecord (drop s1) (s.slot k).asidN 0x20 r 0 4 0 0 (s.slot k).task
      | none => drop (giveCommand s1 k e lo v q)

/-- One result arrives: in its register, the one a checkpoint holds included, or as its reserved push. -/
def landResult (k : Nat) (s : State) (a : Dst × Word) : State :=
  match a.1 with
  | .reg r => s.onSlot k (fun x => { x with
      regs := x.regs.land r a.2
      chunk := { x.chunk with ckpt := x.chunk.ckpt.map (fun c => c.land r a.2) } })
  | .push _ (.command e p _) => pushHalf s k e p a.2
  | .push _ q => performRelease s k (.push q a.2)
  | .gone _ h q => performRelease s k (.gone h q)

/-- The result goes to a register. -/
def toRegister (a : Dst × Word) : Bool := match a.1 with | .reg _ => true | _ => false

/-- The results that are on their way arrive, and the slot that waited for one goes on. A push is a release: it waits for
the slot's reductions and packets (R298). -/
def landResults (s : State) (k : Nat) : State :=
  let all := (s.slot k).arrivals
  let l := if accessesOut s k then all.takeWhile toRegister else all
  let s1 := (s.onSlot k (fun x => { x with arrivals := x.arrivals.drop l.length }))
  let s2 := wakeDrain (l.foldl (landResult k) s1) (coreOf k)
  s2.onSlot k (fun x => { x with wait := match x.wait with
    | .pending r => if l.any (fun a => a.1.name == r) then .none else .pending r
    | w => w })

/-- PENDING_RESULT_ARRIVAL. -/
def execPendingResultArrival (slot : Nat) (s : State) : Host.Outcome State Fault Refusal := .next (landResults s slot)

/-- LOAD_DATA_ARRIVAL: the data of an outstanding load or atomic (R43). -/
def execLoadDataArrival (slot : Nat) (s : State) : Host.Outcome State Fault Refusal :=
  .next (s.onSlot slot landData)

/-! Imprecise faults (R253, R422, R448). -/

/-- The trap of a vector fault: the open chunk commits first; epc is the next instruction of the slot; held says that an
instruction besides the faulting one stays undispatched. A slot that has left the rotation with HALT or SLEEP takes it when
it is back (R243, R254, R256); one that waits for something else has its next issue turn still to come (DESIGN CHOICE, log
178). -/
def takeImprecise (s : State) (k : Nat) : State :=
  let x := s.slot k
  let out := match x.wait with | .halt => true | .sleep _ _ => true | _ => false
  match x.vfault with
  | none => s
  | some f =>
    if out then s
    else if x.chunk.count ≠ 0 then s.onSlot k Slot.close
    else if x.answered then s
    else
      let held := b2n (decide (b2n f.queued < (x.held ++ x.vq).length))
      takeTrap (s.onSlot k (fun y => { y with vfault := none })) k ⟨f.cause, f.addr, f.einfo ||| word (held * 0x2000)⟩
        x.regs.pc false

/-- IMPRECISE_FAULT_TRAP. -/
def execImpreciseFaultTrap (slot : Nat) (s : State) : Host.Outcome State Fault Refusal := .next (takeImprecise s slot)

/-- ICACHE_FILL. -/
def execIcacheFill (core : Nat) (s : State) : Host.Outcome State Fault Refusal := .next (performFill s core)

end Sys2Proof.Machine
end

