-- ==== Sys2Proof/Machine/Peer.lean ====
section
/-! DEFINITION. Machine/Peer.lean: glevel-5 units that go to peer devices of the Birfel domain, and those that come from
them (R39, R327). What a peer does, and when, is free. -/

namespace Sys2Proof.Machine

/-- Some peer whose bit of pjoin is set is reached by a trained link (R327, R389). -/
def peersJoined (s : State) : Bool :=
  s.links.any (fun e => match e.2 with
    | some p => (s.dreg 0xF00000000018).getLsbD p
    | none => false)

/-- The queues whose leading unit a peer may take: a launch at glevel 5. -/
def peerCandidates (s : State) : List Nat :=
  s.queues.filterMap (fun e => match e.2 with
    | some q => match leadOf q with
      | some t => if q.kind = 0 ∧ dLaunch t.desc = true ∧ dGlevel t.desc = 5 then some e.1 else none
      | none => none
    | none => none)

/-- A peer takes the leading unit of a queue: it is dispatched there, outside the launch's die set here. -/
def peerTakes (s : State) (key : Nat) : State :=
  match s.queue key with
  | none => s
  | some q => match leadOf q with
    | none => s
    | some t => match s.launch t.launch with
      | none => s
      | some l =>
        (unitStarted s (3 * q.home) key q t l.dies).onLaunch t.launch (fun l => { l with
          peers := l.peers + unitSize t })

/-- The end of a thread on a peer is reported (R35, R327). -/
def peerEnds (s : State) (n : Nat) : State := s.onLaunch n (fun l => { l with left := l.left - 1, peers := l.peers - 1 })

/-- The launches that have threads on peers. -/
def peerLaunches (s : State) : List Nat :=
  s.launches.filterMap (fun e => match e.2 with
    | some l => if l.peers = 0 then none else some e.1
    | none => none)

/-- What the peers may do to this device's launches. -/
def peerMoves (s : State) : List State :=
  (if peersJoined s then (peerCandidates s).map (peerTakes s) else []) ++ (peerLaunches s).map (peerEnds s)

/-- One of those, or none of them, as a free value says. -/
def peerTurn (s : State) : State :=
  match peerMoves s with
  | [] => s
  | l =>
    let s1 := l[Config.freeNat s.free % (l.length + 1)]?.getD s
    { s1 with free := s.free + 1 }

/-- What a peer offers: its number, the number that the launch has there, its queue's handle, the process, the descriptor, and the
place of the unit among the launch's tasks. -/
structure Offer where
  peer : Nat
  launch : Nat
  handle : Nat
  asid : Nat
  desc : BitVec 512
  next : Nat
  deriving DecidableEq, Repr

/-- A launch at glevel 5 that a peer offers: words of the world, one number for each. -/
def peerOffer (free : Nat) : Offer :=
  { peer := Config.freeNat free, launch := Config.freeNat (free + 3), handle := Config.freeNat (free + 2) % 2 ^ 32
    asid := Config.freeNat (free + 1) % 65536, next := Config.freeNat (free + 4)
    desc := BitVec.ofNat 512 (ofLe ((upFrom 5 8).flatMap (fun i => toLe 8 (Config.freeWord (free + i)).toNat))) }

/-- The queue of a peer, as far as the start of a unit needs it: a key of its own, the tables that this device's process
has, and no counter and no completion here, since the launch completes at the peer. -/
def peerQueue (c : Nat) (o : Offer) (p : Proc) : QueueSt :=
  { handle := o.handle, qtbase := p.qtbase, ptbase := p.ptbase, entry := 0, kind := 0, home := c / 3, cls := o.handle % 8
    cap := 0, ctrVa := 0, ctr := 0, doneVa := 0, irq := false, msix := 0, pin := false, resume := false, base := 0
    resident := true, tasks := [], elems := [], last := 0, raised := false, joined := 0, posted := false
    hostMode := false, lost := false
    stamp := 0 }

/-- The key under which a peer's queue stands while a unit of it starts. -/
def peerKey (o : Offer) : Nat := 2 ^ 32 + o.asid * 65536 + o.handle % 65536

/-- What this device keeps of a peer's launch: the number of its record, which is new with the first unit taken (R327). -/
def remoteLaunch (s : State) (c : Nat) (o : Offer) (p : Proc) : State × Nat :=
  match s.launches.find? (fun e => match e.2 with | some l => decide (l.remote = some (o.peer, o.launch)) | none => false) with
  | some e => (s, e.1)
  | none =>
    let n := s.nlaunch + 1
    let l := newLaunch (peerKey o) (peerQueue c o p) o.desc
    ({ s with nlaunch := n, launches := wr none s.launches n (some { l with left := 0, remote := some (o.peer, o.launch) }) }, n)

/-- A cluster starts a unit from a queue of a peer: a task of a launch at glevel 5 of a process that this device has, with its own
place in the launch, placed by R322 and within the launch's die range here. -/
def startOffer (s : State) (c : Nat) (o : Offer) : Option State :=
  match rd none s.procs o.asid with
  | none => none
  | some p =>
    if descOk o.desc = false ∨ dLaunch o.desc = false ∨ dGlevel o.desc ≠ 5 ∨ dsc o.desc 287 256 ≤ o.next ∨
        s.links.any (fun e => e.2 == some o.peer) = false then none
    else
      let (s1, n) := remoteLaunch s c o p
      let t : QTask := ⟨o.desc, 0, n, o.next, 0, s.cycle, 0, some s.cycle, none, none, false, false, 0, s.cycle, none, [], false⟩
      let s2 := s1.putQueue (peerKey o) (some { peerQueue c o p with tasks := [t] })
      if mayStart s2 c (peerKey o) then
        (tryUnit s2 c (peerKey o)).map (fun r => (r.1.putQueue (peerKey o) none).onLaunch n (fun l => { l with left := l.left + 1 }))
      else none

/-- A cluster that finds no candidate on any die takes a unit that a peer offers, when a trained link reaches one. -/
def stealPeer (s : State) (c : Nat) : Option State :=
  if s.links.all (fun e => e.2.isNone) then none
  else (startOffer s c (peerOffer s.free)).map (fun t => { t with free := s.free + 13 })

end Sys2Proof.Machine
end

