-- ==== Sys2Proof/Machine/EvSched.lean ====
section
/-! DEFINITION. Machine/EvSched.lean: the steps of the scheduler (R315 to R333, R330 completion, R53 migration). An event whose
occasion is not there leaves the state as it is. -/

namespace Sys2Proof.Machine

/-! Completion (R35, R330). -/

/-- The done counter of a launch's queue plus one, or the record of the cause that prevents it. -/
def addDone (s : State) (l : Launch) : State :=
  let asid := keyAsid l.key
  let note (s : State) (c r lv : Nat) : State :=
    logRecord s ⟨l.doneVa, einfoOf r lv (wrOf c r true) 0, 0, 0xFFFFFFFF, asid, c, 4, l.first, l.handle, 4, l.home⟩
  if l.doneVa = 0 then s
  else match resolve s (l.home * 9216) asid l.ptbase l.doneVa { wantBoth with user := false, unit := true } with
  | (s1, .bad c r lv) => note s1 c r lv
  | (s1, .ok loc) =>
    if loc.tracked = false then note s1 0x16 7 0
    else
      let v := ofLe (agentRead s1 loc.key loc.kind 8 loc.disc)
      agentWrite s1 loc.key loc.kind (toLe 8 (v + 1))

/-- Non-returning reductions of a launch are still to perform or be logged. -/
def redsOf (s : State) (n : Nat) : Bool := s.reds.any (fun r => r.task.launch == n) || s.replays.any (fun r => r.red.task.launch == n)

/-- The ends of threads that ran here for a launch of a peer are reported to it, behind the launch's reductions; what this device
keeps of the launch stays, for the set of dies that it has chosen (R39, R327). -/
def reportEnds (s : State) (n : Nat) (l : Launch) : State :=
  match l.remote with
  | none => s
  | some r =>
    if redsOf s n = true then s
    else { s.onLaunch n (fun l => { l with ended := 0 }) with
      output := s.output ++ (List.replicate l.ended (.peerThread r.1 r.2 true)) }

/-- A launch is complete when all its threads have ended and its reductions have performed (R35); a failed one is only
forgotten (R430). -/
def completeLaunch (s : State) (n : Nat) : State :=
  match s.launch n with
  | none => s
  | some l =>
    if l.remote.isSome then reportEnds s n l
    else if l.left ≠ 0 ∨ redsOf s n = true then s
    else
      let s1 := { s with launches := wr none s.launches n none }
      if l.failed then s1
      else if l.started = false then s
      else
        let s2 := addDone s1 l
        if l.irq then raiseMsix s2 (portOfProc s2 (keyAsid l.key)) l.msix else s2

/-- LAUNCH_COMPLETION. -/
def execLaunchCompletion (launch : Nat) (s : State) : Host.Outcome State Fault Refusal := .next (completeLaunch s launch)

/-! Dispatch (R323, R326). -/

/-- A unit chosen among candidates is started. -/
def startChosen (s : State) (cluster : Nat) (cs : List Cand) : Option State :=
  match choose s cluster cs with
  | none => none
  | some (s1, e) => (tryUnit s1 cluster e.key).map Prod.fst

/-- The dispatch unit of a cluster may take a turn: it works, and the last turn is two cycles ago (R323). -/
def turnDue (s : State) (c : Nat) : Bool :=
  clusterReadyBit s c && !(s.cluster c).stopped &&
    (match (s.cluster c).turnAt with | some n => decide (n + 2 ≤ s.cycle) | none => true)

/-- The unit that a cluster's reservation is for, placed there, when it fits (R329). -/
def startReserved (s : State) (c : Nat) : Option State :=
  match reserved s c with
  | none => none
  | some r => match tryUnit s c r.1 with
    | some (s1, t) => if t.seq = r.2.1 then some s1 else none
    | none => none

/-- The turns in a row, four at the most, at which a cluster has had free slots and no candidate of its own die, when its next
one has these candidates (R326). -/
def quietTurns (s : State) (c : Nat) (own : List Cand) : Nat :=
  if hasFreeSlot s c = true ∧ own = [] then min 4 ((s.cluster c).idle + 1) else 0

/-- A turn of a cluster's dispatch unit (R323): the unit of its reservation, which is placed at once when it fits (R329), then a
packet of a run queue, or a unit of its own die's queues. A turn that starts nothing and leaves the count of turns towards stealing
(R326) where it is leaves no trace. -/
def dispatchTurn (s : State) (c : Nat) : State :=
  if turnDue s c = false then s
  else
    let s0 := clearDeficits s c
    let own := candidates s0 c (c / 3)
    let n := quietTurns s0 c own
    let mark (s : State) : State := s.onCluster c (fun y => { y with idle := n, turnAt := some s.cycle })
    match startReserved s0 c with
    | some s1 => mark s1
    | none => match packetCore s0 c with
      | some (_, k, p) => mark (startPacket s0 k p)
      | none => match startChosen s0 c own with
        | some s1 => mark s1
        | none => if n = (s.cluster c).idle then s0 else mark s0

/-- DISPATCH. -/
def execDispatch (cluster : Nat) (s : State) : Host.Outcome State Fault Refusal := .next (dispatchTurn s cluster)

/-- The first die after a cluster's own that yields a candidate. -/
def stealFrom (s : State) (c : Nat) : List Nat → Option State
  | [] => none
  | d :: ds => match startChosen s c (candidates s c d) with
    | some s1 => some s1
    | none => stealFrom s c ds

/-- A steal after four turns without a candidate of the own die (R326), when no packet goes first (R323): from the other
dies, and then from peer devices (R327); its idle turns stay counted. -/
def stealTurn (s : State) (c : Nat) : State :=
  if turnDue s c = false ∨ (s.cluster c).idle < 4 ∨ hasFreeSlot s c = false ∨
      (packetCore s c).isSome = true ∨ (startReserved s c).isSome = true ∨ candidates s c (c / 3) ≠ [] then s
  else
    let mark (s : State) : State := s.onCluster c (fun y => { y with turnAt := some s.cycle })
    match stealFrom s c ((upFrom 1 7).map (fun i => (c / 3 + i) % 8)) with
    | some s1 => mark s1
    | none => match stealPeer s c with
      | some s1 => mark s1
      | none => s

/-- CLUSTER_STEAL. -/
def execClusterSteal (cluster : Nat) (s : State) : Host.Outcome State Fault Refusal := .next (stealTurn s cluster)

/-- The aging limit of a class at a die, in scalar cycles; 0 means none (R315, R324). -/
def ageLimit (s : State) (die cls : Nat) : Nat :=
  if cls = 0 then 0
  else fieldOf (s.dreg (0xF00000010000 + die * 0x1000)) (8 * cls - 1) (8 * cls - 8) * 100 * usCycles

/-- One class less for a task that has waited the limit of its effective class (R324). -/
def ageTask (s : State) (key seq : Nat) : State :=
  match s.queue key with
  | none => s
  | some q => match q.tasks.find? (fun t => t.seq == seq && t.tiles == 0) with
    | none => s
    | some t =>
      let lim := ageLimit s q.home (q.cls - t.aged)
      if lim ≠ 0 ∧ t.readyAt + lim ≤ s.cycle then
        onTask s key seq (fun u => { u with aged := u.aged + 1, readyAt := u.readyAt + lim })
      else s

/-- AGING_STEP. -/
def execAgingStep (queue seq : Nat) (s : State) : Host.Outcome State Fault Refusal := .next (ageTask s queue seq)

/-- Free contexts of a split for a process on a core. -/
def freeContexts (s : State) (asid split core : Nat) : Nat :=
  if offers s core asid split then
    min (2 ^ split - (contextsOf s core).length)
      ((slotsOf core).filter (fun k => decide ((s.slot k).res = .empty))).length
  else 0

/-- The most free of some units, ties to the lowest (R329). -/
def mostFree (f : Nat → Nat) (l : List Nat) : Option Nat :=
  leastBy (fun a b => decide (f b < f a ∨ (f a = f b ∧ a ≤ b))) l

/-- A gang unit that has led its queue for 100 µs reserves the cluster, or the core, with the most free contexts (R329): it
waits its turn behind the reservations that the cluster has. -/
def startReservation (s : State) (key : Nat) : State :=
  match s.queue key with
  | none => s
  | some q => match leadOf q with
    | none => s
    | some t =>
      let mine := s.clusters.any (fun c => c.2.reserve.any (fun r => r.1 == key && r.2.1 == t.seq))
      if isGang t = false ∨ mine = true ∨ (match t.led with | some c => decide (s.cycle < c + 100 * usCycles) | none => true) = true then s
      else
        let free := freeContexts s (keyAsid key) (dSplit t.desc)
        let dies := match s.launch t.launch with
          | some l => (upFrom 0 8).filter (fun d => (joinDies s key q t l d).isSome || l.dies = [])
          | none => []
        let cs := (upFrom 0 24).filter (fun c => clusterReadyBit s c &&
          dies.contains (c / 3) && decide (partOf s c = partOf s (3 * q.home)))
        if dGlevel t.desc = 2 then
          match mostFree (fun c => ((upFrom (192 * c) 192).map free).sum) cs with
          | some c => s.onCluster c (fun y => { y with reserve := y.reserve ++ [(key, t.seq, none)] })
          | none => s
        else match mostFree free (cs.flatMap (fun c => upFrom (192 * c) 192)) with
          | some core => s.onCluster (core / 192) (fun y => { y with reserve := y.reserve ++ [(key, t.seq, some core)] })
          | none => s

/-- GANG_RESERVATION_START. -/
def execGangReservationStart (queue : Nat) (s : State) : Host.Outcome State Fault Refusal :=
  .next (startReservation s queue)

/-- The leading task of a queue has led it for some microseconds. -/
def ledFor (s : State) (t : QTask) (us : Nat) : Bool :=
  match t.led with
  | some c => decide (c + us * usCycles ≤ s.cycle)
  | none => false

/-- A moment was some microseconds ago. -/
def goneFor (s : State) (c : Option Nat) (us : Nat) : Bool :=
  match c with
  | some c => decide (c + us * usCycles ≤ s.cycle)
  | none => false

/-- CLOSED_CLUSTER_FALLBACK: after 20 µs as a candidate the leading unit may go to a closed cluster (R328). -/
def execClosedClusterFallback (queue : Nat) (s : State) : Host.Outcome State Fault Refusal :=
  .next (match (s.queue queue).bind leadOf with
    | some t => if goneFor s t.cand 20 then onTask s queue t.seq (fun u => { u with fallback := true }) else s
    | none => s)

/-- RESUME_WAIT_TIMEOUT: a resume task that has waited 10 ms starts on any core of its split (R333, R471). -/
def execResumeWaitTimeout (queue : Nat) (s : State) : Host.Outcome State Fault Refusal :=
  .next (match s.queue queue with
    | some q =>
      if q.resume then match leadOf q with
        | some t => if t.enq + 10000 * usCycles ≤ s.cycle then onTask s queue t.seq (fun u => { u with overdue := true }) else s
        | none => s
      else s
    | none => s)

/-! Pre-emption for a waiting unit (R331, R334). -/

/-- The unit is a candidate at no cluster. -/
def nowhereNow (s : State) (key : Nat) : Bool := (upFrom 0 24).all (fun c => (tryUnit s c key).isNone)

/-- Since when each leading unit has been a candidate, or a candidate nowhere: noted at every cycle (R328, R331). -/
def markLeads (s : State) : State :=
  s.queues.foldl (fun t e => match e.2.bind leadOf with
    | none => t
    | some u => onTask t e.1 u.seq (fun u =>
        if nowhereNow s e.1 then { u with nowhere := some (u.nowhere.getD s.cycle), cand := none }
        else { u with nowhere := none, cand := some (u.cand.getD s.cycle) })) s

/-- The time slice of a die, in scalar cycles (R315). -/
def sliceOfDie (s : State) (d : Nat) : Nat := fieldOf (s.dreg (0xF00000010008 + d * 0x1000)) 15 8 * 100 * usCycles

/-- The slots of a cluster that a waiting unit may pre-empt: of a higher class, not graphics threads, not asked already; for a unit
that no deadline raises, with their slice behind them (R331, R334). -/
def victims (s : State) (cluster : Nat) (q : QueueSt) (t : QTask) : List (Nat × Slot) :=
  s.slots.filter (fun e => clusterOf e.1 == cluster && decide (e.2.res = .full ∨ e.2.res = .light) && !e.2.gfx &&
    e.2.preempt.isNone && !t.victims.contains (e.1, e.2.task.since) && decide (effClass q t < e.2.task.cls) && (q.raised ||
      decide (sliceOfDie s q.home ≠ 0 ∧ e.2.task.since + sliceOfDie s q.home ≤ s.cycle)))

/-- The victim: highest class; then the longest run, or for a raised unit the latest dispatch. -/
def victimOf (q : QueueSt) (l : List (Nat × Slot)) : Option (Nat × Slot) :=
  leastBy (fun a b => decide (b.2.task.cls < a.2.task.cls ∨ (a.2.task.cls = b.2.task.cls ∧
    (if q.raised then b.2.task.since ≤ a.2.task.since else a.2.task.since ≤ b.2.task.since)))) l

/-- A pre-emption requested for a unit is outstanding until the slot is free, or its thread runs on in user mode (R331). -/
def outstanding (s : State) (v : Nat × Nat) : Bool :=
  let x := s.slot v.1
  decide (x.res ≠ .empty ∧ x.task.since = v.2) && (x.preempt.isSome || x.spv)

/-- A unit may ask for one more pre-emption: a raised one until enough threads for it leave, another after 10 µs as a
candidate nowhere and one at a time (R331, R334). -/
def mayAsk (s : State) (q : QueueSt) (t : QTask) : Bool :=
  if q.raised then decide ((t.victims.filter (outstanding s)).length < unitSize t)
  else goneFor s t.nowhere 10 && !t.victims.any (outstanding s)

/-- Two clusters are grid neighbours (R17): they differ by one in row or in column, but not in both. -/
def gridNeighbours (a b : Nat) : Bool :=
  decide ((a / 6 = b / 6 ∧ (a % 6 + 1 = b % 6 ∨ b % 6 + 1 = a % 6)) ∨
    (a % 6 = b % 6 ∧ (a / 6 + 1 = b / 6 ∨ b / 6 + 1 = a / 6)))

/-- The clusters whose threads a raised unit pre-empts (R334): the home cluster of its tile, which its key names (R361), and
then that cluster's neighbours in the partition, lowest first (DESIGN CHOICE, log 84: the spec gives no order among them). -/
def raisedClusters (s : State) (q : QueueSt) (t : QTask) : List Nat :=
  let home := tileHome s (q.home * 9216) (dsc t.desc 191 128 / 2 ^ 32)
  home :: (upFrom 0 24).filter (fun c => gridNeighbours home c && decide (partOf s c = partOf s home))

/-- The cluster is the one at which the unit pre-empts: one of its queue's die, or for a raised unit the first of its
clusters with a victim. -/
def asksAt (s : State) (cluster : Nat) (q : QueueSt) (t : QTask) : Bool :=
  if q.raised then decide ((raisedClusters s q t).find? (fun c => victims s c q t != []) = some cluster)
  else decide (q.home = cluster / 3)

/-- A pre-emption is requested in a cluster for the first waiting unit that may ask there (R331); for a raised unit with
einfo 1 (R334). -/
def requestPreemption (s : State) (cluster : Nat) : State :=
  let due := s.queues.filterMap (fun e => match e.2 with
    | some q => match leadOf q with
      | some t => if asksAt s cluster q t = true ∧ mayAsk s q t = true ∧ nowhereNow s e.1 = true then
          (victimOf q (victims s cluster q t)).map (fun v => (e.1, q, t, v)) else none
      | none => none
    | none => none)
  match due with
  | [] => s
  | (key, q, t, v) :: _ =>
    onTask (askPreempt s v.1 (b2n q.raised)) key t.seq (fun u => { u with
      victims := u.victims.filter (outstanding s) ++ [(v.1, v.2.task.since)] })

/-- PREEMPTION_REQUEST. -/
def execPreemptionRequest (cluster : Nat) (s : State) : Host.Outcome State Fault Refusal :=
  .next (requestPreemption s cluster)

/-! Queue misses (R317, R318, R469). -/

/-- The slot waits for the queue through a binding: a push or a pop, which does not trap (R251). -/
def throughPort (x : Slot) (key : Nat) : Bool :=
  x.ports.any (fun p => match p.2 with | some q => q.kind == 1 && q.base == key | none => false)

/-- The slots that wait for a queue which they name by its handle take ecause 0x07 (R251, R317, R318). -/
def missTraps (s : State) (key handle : Nat) : State :=
  s.slots.foldl (fun s e =>
    if e.2.wait.misses key = true ∧ throughPort e.2 key = false then takeTrap s e.1 ⟨0x07, 0, word handle⟩ e.2.regs.pc true else s) s

/-- A miss served by the host: the slots that wait at a handle trap, and an event is posted, once, for each held window
write and for releases that wait (R318). -/
def hostMiss (s : State) (key : Nat) (q : QueueSt) : State :=
  let s1 := missTraps s key q.handle
  let s2 := (s1.heldWrites.filter (fun h => h.key == key && !h.posted)).foldl (fun s _ => postMiss s key) s1
  let s3 := { s2 with heldWrites := s2.heldWrites.map (fun h => if h.key = key then { h with posted := true } else h) }
  if awaitedRelease s key && !q.posted then
    (postMiss s3 key).onQueue key (fun q => { q with posted := true })
  else s3

/-- A queue that an access waits for becomes known to its home; an access whose entry no longer stands runs again, and traps
there. -/
def meetMissed (s : State) (key : Nat) : State :=
  match s.queue key, s.slots.find? (fun e => e.2.wait.misses key) with
  | none, some (k, x) =>
    match readEntry s k x.asidN x.sys.ptbase x.sys.qtbase (key % 65536) false with
    | (s1, .inl e) => meetQueue s1 key x.sys.qtbase x.sys.ptbase (e.f 191 176 * 65536 + key % 65536) e
    | (s1, .inr _) => wakeWhere s1 (fun _ y => y.wait.misses key)
  | _, _ => s

/-- An access that the part itself serves waits for a queue: one whose service began in hardware mode (R285, R317). A release's
service begins when it is served. -/
def hardwareMiss (s : State) (key die : Nat) : Bool :=
  s.slots.any (fun e => e.2.wait == .queueMiss key false) || s.heldWrites.any (fun h => h.key == key && !h.posted) ||
    (awaitedRelease s key && !assisted s (die * 3) 1)

/-- A queue that an access waits for is swapped in, or its miss goes the host-assisted way; always that of a queue whose die was lost
(R480). -/
def serveMiss (s0 : State) (key : Nat) : State :=
  let s := meetMissed s0 key
  match s.queue key with
  | none => s
  | some q =>
    let waits := s.slots.any (fun e => e.2.wait.misses key) || s.heldWrites.any (fun h => h.key == key) ||
      awaitedRelease s key
    if q.resident = true ∨ waits = false then s
    else if q.lost = true ∨ hardwareMiss s key q.home = false then hostMiss s key q
    else match makeRoom s q.home with
      | some s1 => bringIn s1 key
      | none => hostMiss s key q

/-- A pending queue has waited 50 µs (R317, R469). -/
def pendingLate (s : State) (key : Nat) : Bool :=
  match s.queue key with
  | some q => decide (q.joined + 50 * usCycles ≤ s.cycle)
  | none => false

/-- Every pending queue that is still not resident after 50 µs posts its event once, and stays on the list (R469). -/
def postPending (s : State) (die : Nat) : State :=
  (s.die die).pending.foldl (fun s key =>
    if pendingLate s key && !(match s.queue key with | some q => q.posted || q.resident | none => true) then
      (postMiss s key).onQueue key (fun q => { q with posted := true })
    else s) s

/-- A queue of the pending list that the part brings back: it is known, joined in hardware mode, and was not lost with its die
(R285, R317, R480). -/
def partPending (s : State) (key : Nat) : Bool :=
  match s.queue key with
  | some q => !q.hostMode && !q.lost
  | none => false

/-- The oldest pending queue of a die that the part serves comes back: into a free place at once, or after 50 µs by an eviction
(R317); those that still wait post their events (R469). -/
def servePending (s0 : State) (die : Nat) : State :=
  let s := if (s0.die die).pending.all (fun k => (s0.queue k).isSome) then s0
    else s0.onDie die (fun d => { d with pending := d.pending.filter (fun k => (s0.queue k).isSome) })
  match (s.die die).pending.find? (partPending s) with
  | none => postPending s die
  | some key =>
    if residentCount s die < queueLimit s die then bringIn s key
    else if pendingLate s key then match makeRoom s die with
      | some s1 => bringIn s1 key
      | none => postPending s die
    else s

/-- PENDING_QUEUE_SWAP_IN. -/
def execPendingQueueSwapIn (die : Nat) (s : State) : Host.Outcome State Fault Refusal := .next (servePending s die)

/-! qctl and sctl (R315). -/

/-- qctl after an operation: it is not busy, and fail says whether it was refused. -/
def qctlDone (s : State) (die asid handle : Nat) (fail : Bool) : State :=
  s.onDie die (fun d => { d with qctl := word (b2n fail * 2 ^ 60 + asid % 65536 * 2 ^ 32 + handle % 2 ^ 32) })

/-- The entry that a handle of a process names, under the tables of the process. -/
def qctlEntry (s : State) (die asid handle : Nat) : State × Option (QEnt × Proc) :=
  let p := (rd none s.procs asid).getD ⟨0, 0, 0⟩
  match readEntry s (die * 9216) asid p.ptbase p.qtbase handle true with
  | (s1, .inl e) => (s1, some (e, p))
  | (s1, .inr _) => (s1, none)

/-- Make resident: into a free place only; refused for a bad handle, a queue of another die, or with no place free (R469). -/
def qctlIn (s : State) (die asid handle : Nat) : State :=
  match qctlEntry s die asid handle with
  | (s1, none) => qctlDone s1 die asid handle true
  | (s1, some (e, p)) =>
    let key := queueKey asid handle
    if 2 ≤ e.kind ∨ e.f 159 156 ≠ die then qctlDone s1 die asid handle true
    else if residentQ s1 key then qctlDone s1 die asid handle false
    else if residentCount s1 die < queueLimit s1 die then
      let s2 := bringIn (meetQueue s1 key p.qtbase p.ptbase handle e) key
      qctlDone s2 die asid handle (!residentQ s2 key)
    else qctlDone s1 die asid handle true

/-- QCTL_MAKE_RESIDENT. -/
def execQctlMakeResident (die asid handle : Nat) (s : State) : Host.Outcome State Fault Refusal :=
  .next (qctlIn s die asid handle)

/-- Evict: refused for a queue that is not resident on the die. -/
def qctlOut (s : State) (die asid handle : Nat) : State :=
  match s.queue (queueKey asid handle) with
  | some q =>
    if q.resident = true ∧ q.home = die ∧ q.handle = handle then
      qctlDone (evict s (queueKey asid handle)) die asid handle false
    else qctlDone s die asid handle true
  | none => qctlDone s die asid handle true

/-- QCTL_EVICT. -/
def execQctlEvict (die asid handle : Nat) (s : State) : Host.Outcome State Fault Refusal :=
  .next (qctlOut s die asid handle)

/-- Retire (R315, R466, R467): a handle whose queue holds nothing loses its entry and its bindings. -/
def qctlRetire (s : State) (die asid handle : Nat) : State :=
  match qctlEntry s die asid handle with
  | (s1, none) => qctlDone s1 die asid handle true
  | (s1, some (_, p)) =>
    let key := queueKey asid handle
    match s1.queue key with
    | some _ => qctlDone (retireQueue s1 key 5) die asid handle false
    | none =>
      let s2 := stalePorts (regenerate s1 p.ptbase p.qtbase handle) key handle
      qctlDone (rouseRetired s2 key handle (2 ^ 60) p.qtbase) die asid handle false

/-- QCTL_RETIRE. -/
def execQctlRetire (die asid handle : Nat) (s : State) : Host.Outcome State Fault Refusal :=
  .next (qctlRetire s die asid handle)

/-- Resident queues leave, the least recently used first, until the limit holds (R315). -/
def trimResidents (s : State) (die : Nat) : Nat → State
  | 0 => s
  | n + 1 =>
    if residentCount s die ≤ queueLimit s die then s
    else match leastBy (fun a b => decide (a.2.last < b.2.last ∨ (a.2.last = b.2.last ∧ a.1 ≤ b.1)))
        (residents s die (fun _ _ => true)) with
      | some e => trimResidents (evict s e.1) die n
      | none => s

/-- SCTL_WRITE: a reserved qpin changes nothing; a lowered one evicts. -/
def execSctlWrite (die : Nat) (value : Word) (s : State) : Host.Outcome State Fault Refusal :=
  .next (if 8 < fieldOf value 3 0 then s
    else
      let s1 := s.putDreg (0xF00000010008 + die * 0x1000) (value &&& 0xFF0F)
      trimResidents s1 die (residentCount s1 die))

/-! Migration (R50 to R54). -/

/-- The core takes a migrating thread: its cluster is ready, it has a live lane, and its run queue has room (R29, R53). -/
def takesPacket (s : State) (core : Nat) : Bool :=
  runRoom s core && clusterReadyBit s (core / 192) && decide (liveOf (s.core core) ≠ 0)

/-- The MIGR that a slot waits at retires (R242). -/
def retireMigr (s : State) (k : Nat) : State :=
  let s1 := { s.wake k with cur := k }
  { finish true 1 s1 (.ok () (advance s1 4)) with cur := s.cur }

/-- A light thread that waits to migrate leaves when the target takes it (R52, R53); a departure is a release, and what the
slot has queued performs first (R54). -/
def tryDepart (s : State) (k : Nat) : State :=
  match (s.slot k).wait with
  | .migrate core _ access =>
    if takesPacket s core = true ∧ storesQueued s k = false then depart (if access then s else retireMigr s k) k core else s
  | _ => s

/-- MIGRATION_ARRIVAL. -/
def execMigrationArrival (slot : Nat) (s : State) : Host.Outcome State Fault Refusal := .next (tryDepart s slot)

/-- A thread refused for 2 µs goes on where it is, and performs its access remotely, or goes on behind its MIGR (R53). -/
def fallback (s : State) (k : Nat) : State :=
  match (s.slot k).wait with
  | .migrate core since access =>
    if takesPacket s core = false ∧ since + 2 * usCycles ≤ s.cycle then
      (if access then s.onSlot k (fun x => { x with wait := .none, remote := true }) else retireMigr s k).count k 19
    else s
  | _ => s

/-- RUN_QUEUE_FALLBACK. -/
def execRunQueueFallback (slot : Nat) (s : State) : Host.Outcome State Fault Refusal := .next (fallback s slot)

end Sys2Proof.Machine
end

