-- ==== Sys2Proof/Machine/EvCounter.lean ====
section
/-! DEFINITION. Machine/EvCounter.lean: what the homes of split counters do (R336 to R345, R473, R502). -/

namespace Sys2Proof.Machine

/-- The answer of a home reaches its slot, whose instruction runs on (R339, R341, R344). -/
def answerSlot (s : State) (k : Nat) (a : Answer) : State :=
  s.onSlot k (fun x => { x with answer := some a, wait := match x.wait with | .counter _ => .none | w => w })

/-- A unit of capacity granted to the slot of a blocking push or enqueue (R231, R502). -/
def grantUnit (s : State) (k ctr : Nat) : State :=
  s.onSlot k (fun x => { x with granted := some ctr, wait := match x.wait with | .counter _ => .none | w => w })

/-- What a request comes to when `v` units answer it. -/
def serveWith (s : State) (ctr : Nat) (r : CtrReq) (v : Nat) : State :=
  if r.kind = 6 then grantUnit s r.slot ctr
  else answerSlot s r.slot ⟨word v, 0, ctr, if r.kind ≤ 1 then v else 0, decide (r.kind = 2 ∨ r.kind = 4 ∨ r.kind = 5)⟩

/-- The largest total of a counter. -/
def totalMax : Nat := 2 ^ 63 - 1

/-- The counter's object and its home, for records. -/
def saturated (s : State) (ctr asid : Nat) : State :=
  eventRecord s asid 0x12 26 (word ctr) 4 4 (homeOf ctr) .none

/-- The oldest parked take is granted one unit when the home holds one and no round runs (R502). -/
def grantParked (s : State) (ctr : Nat) : State :=
  match s.ctr ctr with
  | none => s
  | some c => match c.parked with
    | [] => s
    | r :: rest =>
      if c.recalling = false ∧ 1 ≤ c.rem then
        grantUnit (s.onCtr ctr (fun c => { c with parked := rest, rem := c.rem - 1 })) r.slot ctr
      else s

/-- Parked takes are granted in their order as soon as the home holds units (R502). -/
def settleParked (s : State) (ctr : Nat) : State :=
  match s.ctr ctr with
  | none => s
  | some c => c.parked.foldl (fun s _ => grantParked s ctr) s

/-- The rest of a request that neither the allowance nor the home's units cover: a round when another cluster holds an
allowance; otherwise a refusal, or a parked capacity take, for which the asker's own allowance is recalled too (R339, R502). -/
def refuse (s : State) (ctr : Nat) (c : Ctr) (r : CtrReq) (a : Nat) : State :=
  if c.holders.any (fun h => h != r.cluster) then
    s.onCtr ctr (fun c => { (startRound s.cycle c) with fifo := c.fifo ++ [r] })
  else if r.kind = 6 then
    let parked (c : Ctr) : Ctr := { c with parked := c.parked ++ [r] }
    s.onCtr ctr (fun c => if c.holders = [] then parked c else parked (startRound s.cycle c))
  else if r.kind = 1 then
    let s1 := s.onCtr ctr (fun c => { c with rem := 0 })
    let s2 := match allowOf s1 r.cluster ctr with
      | some (_, g) => putAllow s1 r.cluster ctr 0 g
      | none => s1
    serveWith s2 ctr r (a + c.rem)
  else serveWith s ctr r 0

/-- A take at the home outside a round (R339, R345). -/
def homeTake (s : State) (ctr : Nat) (c : Ctr) (r : CtrReq) : State :=
  let b := r.value
  let a := ((allowOf s r.cluster ctr).map Prod.fst).getD 0
  if noLending s ctr c then
    if b ≤ c.rem then serveWith (s.onCtr ctr (fun c => { c with rem := c.rem - b })) ctr r b
    else if c.holders ≠ [] then s.onCtr ctr (fun c => { (startRound s.cycle c) with fifo := c.fifo ++ [r] })
    else if r.kind = 6 then s.onCtr ctr (fun c => { c with parked := c.parked ++ [r] })
    else if r.kind = 1 then
      serveWith (s.onCtr ctr (fun c => { c with rem := c.rem - min b c.rem })) ctr r (min b c.rem)
    else serveWith s ctr r 0
  else
    let hs := addOnce c.holders r.cluster
    let gr := min c.rem (max b (ceilDiv c.rem (2 * hs.length)))
    if b ≤ a + gr then
      let g := ((allowOf s r.cluster ctr).map Prod.snd).getD 0
      let s1 := s.onCtr ctr (fun c => { c with rem := c.rem - gr, holders := hs })
      serveWith (putAllow s1 r.cluster ctr (a + gr - b) (g + gr)) ctr r b
    else refuse s ctr c r a

/-- The units that clusters may still return (R340): Σ g over the holders, and what returns in flight carry. -/
def lentSum (s : State) (ctr : Nat) (c : Ctr) : Nat :=
  (c.holders.map (fun h => ((allowOf s h ctr).map Prod.snd).getD 0)).sum + (c.away.map (fun a => a.2.getD 0)).sum

/-- A give at its home (R340): into the fifo of a round, or to rem, or a round starts when it could lift the total too
far. -/
def homeGive (s : State) (ctr : Nat) (r : CtrReq) : State :=
  match s.ctr ctr with
  | none => s
  | some c =>
    if c.recalling then s.onCtr ctr (fun c => { c with fifo := c.fifo ++ [r] })
    else if totalMax < c.rem + lentSum s ctr c + r.value then
      s.onCtr ctr (fun c => { (startRound s.cycle c) with fifo := c.fifo ++ [r] })
    else
      let s1 := s.onCtr ctr (fun c => { c with rem := c.rem + r.value })
      settleParked (if r.kind = 2 then serveWith s1 ctr r 0 else s1) ctr

/-- Units of the cluster are on their way to the home, which its later requests do not overtake (R342). -/
def behindUnits (c : Ctr) (cluster : Nat) : Bool :=
  c.gives.any (fun g => g.1 == cluster) || c.away.any (fun a => a.1 == cluster && a.2.isSome)

/-- The oldest request on its way to the home arrives there (R339, R341). -/
def takeRequest (s : State) (ctr : Nat) : State :=
  match s.ctr ctr with
  | none => s
  | some c => match c.asked with
    | [] => s
    | r :: rest =>
      if behindUnits c r.cluster then s else
      let c1 := { c with asked := rest }
      let s1 := s.onCtr ctr (fun _ => c1)
      if c.recalling then s1.onCtr ctr (fun c => { c with fifo := c.fifo ++ [r] })
      else if r.kind = 2 then homeGive s1 ctr r
      else if r.kind = 3 ∨ r.kind = 4 ∨ r.kind = 5 then
        s1.onCtr ctr (fun c => { (startRound s.cycle c) with fifo := c.fifo ++ [r] })
      else homeTake s1 ctr c1 r

/-- HOME_TAKE_REQUEST. -/
def execHomeTakeRequest (ctr : Nat) (s : State) : Host.Outcome State Fault Refusal := .next (takeRequest s ctr)

/-- The oldest units on their way reach the home, or else an evicted entry's return, which is applied as a give (R337,
R340); its cluster is a holder no longer, unless it has an entry again or a further return is on its way. -/
def giveArrives (s : State) (ctr : Nat) : State :=
  match s.ctr ctr with
  | none => s
  | some c => match c.gives with
    | (cl, n) :: rest => homeGive (s.onCtr ctr (fun c => { c with gives := rest })) ctr ⟨0, 7, n, cl, 0⟩
    | [] => match c.away.find? (fun e => e.2.isSome) with
      | some (cl, some n) =>
        let again := (allowOf s cl ctr).isSome
        let left := c.away.erase (cl, some n)
        let s1 := s.onCtr ctr (fun c => { c with
          away := left ++ (if again && c.recalling then [(cl, none)] else [])
          holders := if again || left.any (fun e => e.1 == cl) then c.holders else c.holders.filter (· != cl) })
        homeGive s1 ctr ⟨0, 7, n, cl, 0⟩
      | _ => s

/-- HOME_GIVE. -/
def execHomeGive (ctr : Nat) (s : State) : Host.Outcome State Fault Refusal := .next (giveArrives s ctr)

/-- A cluster's entry for a counter deleted. -/
def dropAllow (s : State) (cluster ctr : Nat) : State :=
  s.onCluster cluster (fun y => { y with allow := y.allow.filter (fun e => !(e.1 == ctr)) })

/-- A recalled cluster returns its allowance and deletes its entry (R341 step 2). -/
def recallReturn (s : State) (ctr cluster : Nat) : State :=
  match s.ctr ctr with
  | none => s
  | some c =>
    if c.recalling = true ∧ c.away.contains (cluster, none) = true then
      let a := ((allowOf s cluster ctr).map Prod.fst).getD 0
      (dropAllow s cluster ctr).onCtr ctr (fun c => { c with
        rem := c.rem + a
        away := c.away.erase (cluster, none)
        holders := c.holders.filter (· != cluster) })
    else s

/-- RECALL_MESSAGE. -/
def execRecallMessage (ctr cluster : Nat) (s : State) : Host.Outcome State Fault Refusal :=
  .next (recallReturn s ctr cluster)

/-- One request of the fifo served from rem (R341 step 4). -/
def serveRound (ctr : Nat) (s : State) (r : CtrReq) : State :=
  match s.ctr ctr with
  | none => if r.kind = 7 then s else answerSlot s r.slot ⟨0, 3, ctr, 0, false⟩
  | some c =>
    let setRem (s : State) (n : Nat) : State := s.onCtr ctr (fun c => { c with rem := n })
    match r.kind with
    | 0 => if r.value ≤ c.rem then serveWith (setRem s (c.rem - r.value)) ctr r r.value else serveWith s ctr r 0
    | 1 => serveWith (setRem s (c.rem - min r.value c.rem)) ctr r (min r.value c.rem)
    | 2 => settleParked (serveWith (setRem (if totalMax < c.rem + r.value then saturated s ctr c.asid else s)
        (min totalMax (c.rem + r.value))) ctr r 0) ctr
    | 7 => settleParked (setRem (if totalMax < c.rem + r.value then saturated s ctr c.asid else s)
        (min totalMax (c.rem + r.value))) ctr
    | 3 => serveWith s ctr r c.rem
    | 4 => settleParked (serveWith (setRem s r.value) ctr r c.rem) ctr
    | 5 =>
      let s1 := outsideWrite s ctr (toLe 8 c.rem)
      let s2 := { s1 with ctrs := wr none s1.ctrs ctr none }
      let s3 := (c.asked ++ c.parked).foldl (fun s q => answerSlot s q.slot ⟨0, 3, ctr, 0, false⟩) s2
      serveWith s3 ctr r c.rem
    | _ =>
      if 1 ≤ c.rem ∧ c.parked = [] then serveWith (setRem s (c.rem - 1)) ctr r 1
      else s.onCtr ctr (fun c => { c with parked := c.parked ++ [r] })

/-- A round would disarm a counter whose object a protected chunk of the asker's cluster has read: the write is held back until that
chunk has committed (R296). -/
def disarmHeld (s : State) (ctr : Nat) (c : Ctr) : Bool :=
  c.fifo.any (fun r => r.kind == 5 && heldByProtected s r.slot ctr 8)

/-- The exact point of a round: every return has arrived, and the fifo is served in order (R341 steps 3 to 5), behind the
takes that were parked before (R502). -/
def exactPoint (s : State) (ctr : Nat) : State :=
  match s.ctr ctr with
  | none => s
  | some c =>
    if c.recalling = true ∧ c.away = [] ∧ disarmHeld s ctr c = false then
      c.fifo.foldl (serveRound ctr)
        (settleParked (s.onCtr ctr (fun c => { c with fifo := [], recalling := false, holders := [] })) ctr)
    else s

/-- RECALL_EXACT_POINT. -/
def execRecallExactPoint (ctr : Nat) (s : State) : Host.Outcome State Fault Refusal := .next (exactPoint s ctr)

/-- PARKED_TAKE_GRANT. -/
def execParkedTakeGrant (ctr : Nat) (s : State) : Host.Outcome State Fault Refusal := .next (grantParked s ctr)

end Sys2Proof.Machine
end

