-- ==== Sys2Proof/Machine/EvEngine.lean ====
section
/-! DEFINITION. Machine/EvEngine.lean: the hod engines (R237, R238, R348, R351 to R360, R468, R477, R478). An engine moves at
most 4 KiB of one command at a step, within one 4 KiB page of the destination; which of the commands in flight moves next is
open (R352). An event whose occasion is not there leaves the state as it is. -/

namespace Sys2Proof.Machine

/-! Where a command moves bytes. -/

/-- One side of a move: a virtual address, or an offset in the window of a cluster. -/
structure Side where
  win : Option Nat
  a : Int
  deriving DecidableEq, Repr

/-- A side `o` bytes further: addresses wrap modulo 2^64 (R356). -/
def Side.plus (x : Side) (o : Int) : Side := { x with a := x.a + o }
/-- The address or offset as a number. -/
def Side.num (x : Side) : Nat := if x.win.isSome then x.a.toNat else truncI 64 x.a
/-- The virtual address by which a fault names a side. -/
def Side.va (x : Side) : Word := word (if x.win.isSome then 0xF000000 * 2 ^ 28 + x.num else x.num)

/-- The fields of a command in flight. -/
def Cmd.fields (c : Cmd) : CmdFields := cmdFields c.lo c.hi
/-- The command code of a command; a tile is a copy from memory to a window (R358). -/
def Cmd.code (c : Cmd) : Nat := if c.tile.isSome then 0 else c.fields.cmd
/-- The memory side of a command word: bit 56 of the address extends (R267). -/
def Cmd.memSide (c : Cmd) : Side := ⟨none, sextN 57 c.fields.mva⟩
/-- The window side of a command word. -/
def Cmd.winSide (c : Cmd) : Side := ⟨some c.fields.cluster, c.fields.off⟩
/-- Field `[hi:lo]` of the record of a command. -/
def Cmd.f (c : Cmd) (hi lo : Nat) : Nat := bits c.rec512 hi lo
/-- A side that a record gives (R353). -/
def recSide (win : Bool) (v : Nat) : Side :=
  if win then ⟨some (bits v 30 26), bits v 25 0⟩ else ⟨none, v⟩

/-- Strides and counts of an HCPYT (R354): the signed stride of dimension `d` from 0 on, and its count. -/
def Cmd.stride (c : Cmd) (base d : Nat) : Int := sextN 32 (c.rec512 >>> (base + 32 * d))
/-- The count of dimension `d`. -/
def Cmd.dim (c : Cmd) (d : Nat) : Nat := bits c.rec512 (175 + 16 * d) (160 + 16 * d) + 1
/-- The offset of row (k1, k2, k3) of an HCPYT (R355). -/
def rowOffset (c : Cmd) (base r : Nat) : Int :=
  let k1 := r % c.dim 0
  let k2 := r / c.dim 0 % c.dim 1
  let k3 := r / (c.dim 0 * c.dim 1)
  (k1 : Int) * c.stride base 0 + (k2 : Int) * c.stride base 1 + (k3 : Int) * c.stride base 2

/-- Element bytes of an HRED (R357). -/
def Cmd.redSize (c : Cmd) : Nat := if c.f 152 152 = 1 then 2 else 4
/-- Element bytes of an HGTH or HSCT (R356). -/
def Cmd.elemSize (c : Cmd) : Nat := c.f 231 216 + 1
/-- Index bytes of an HGTH or HSCT. -/
def Cmd.indexSize (c : Cmd) : Nat := if c.f 232 232 = 1 then 8 else 4

/-- Bytes that a command writes when nothing stops it. -/
def Cmd.total (c : Cmd) : Nat :=
  if c.tile.isSome then c.hi.toNat % 2 ^ 32 else
  match c.code with
  | 0 => c.fields.len
  | 1 => c.f 151 128 * c.dim 0 * c.dim 1 * c.dim 2
  | 2 => c.f 215 192 * c.elemSize
  | 3 => c.f 215 192 * c.elemSize
  | 4 => c.fields.len
  | 5 => c.f 151 128 * c.redSize
  | _ => 0

/-- The window ranges of a command: cluster, first offset, offset behind, and whether it is written (R352). -/
def Cmd.spans (c : Cmd) : List (Side × Int × Int × Bool) :=
  if c.tile.isSome then [(⟨some (c.hi.toNat / 2 ^ 58), c.hi.toNat / 2 ^ 32 % 2 ^ 26⟩, 0, c.total, true)] else
  let src := recSide (c.f 152 152 = 1) (c.f 63 0)
  match c.code with
  | 0 => [(c.winSide, 0, c.total, !c.fields.dir)]
  | 4 => [(c.winSide, 0, if c.fields.dir then 4 else c.total, !c.fields.dir)]
  | 6 => [(c.winSide, 0, 32, true)]
  | 1 =>
    let reach (base : Nat) (f : Int → Int) : Int :=
      ((List.range 3).map (fun d => f (((c.dim d : Int) - 1) * c.stride base d))).foldl (· + ·) 0
    let span (base : Nat) (x : Side) (w : Bool) : Side × Int × Int × Bool :=
      (x, reach base (fun v => min 0 v), reach base (fun v => max 0 v) + c.f 151 128, w)
    [span 208 src false, span 304 (recSide (c.f 153 153 = 1) (c.f 127 64)) true]
  | 5 => [(recSide (c.f 153 153 = 1) (c.f 63 0), 0, c.total, false),
      (recSide (c.f 154 154 = 1) (c.f 127 64), 0, c.total, true)]
  | _ => [(recSide (c.f 233 233 = 1) (c.f 127 64), 0, c.f 215 192 * c.indexSize, false),
      (recSide (c.f 234 234 = 1) (c.f 191 128), 0, c.total, c.code == 2)]

/-- The window bytes of a command as ranges (R352): row by row for an HCPYT, and otherwise its spans. -/
def Cmd.ranges (c : Cmd) : List (Side × Int × Int × Bool) :=
  if c.tile.isNone && c.code == 1 then
    let rows (base : Nat) (x : Side) (w : Bool) : List (Side × Int × Int × Bool) :=
      (upFrom 0 (c.dim 0 * c.dim 1 * c.dim 2)).map (fun r => (x, rowOffset c base r, rowOffset c base r + c.f 151 128, w))
    rows 208 (recSide (c.f 152 152 = 1) (c.f 63 0)) false ++ rows 304 (recSide (c.f 153 153 = 1) (c.f 127 64)) true
  else c.spans

/-- Some of the ranges are in one window and have bytes in common, one of them written. -/
def rangesMeet (l m : List (Side × Int × Int × Bool)) : Bool :=
  l.any (fun p => m.any (fun q =>
    p.1.win.isSome && p.1.win == q.1.win && (p.2.2.2 || q.2.2.2) &&
      decide (p.2.1 < p.2.2.1 ∧ q.2.1 < q.2.2.1) &&
      decide (p.1.a + p.2.1 < q.1.a + q.2.2.1 ∧ q.1.a + q.2.1 < p.1.a + p.2.2.1)))

/-- Two commands have window ranges that meet, one of them written (R352). -/
def cmdsMeet (x y : Cmd) : Bool := rangesMeet x.spans y.spans && rangesMeet x.ranges y.ranges

/-- Two commands came through one binding. -/
def sameBinding (x y : Cmd) : Bool :=
  x.tile.isNone && y.tile.isNone && x.slot == y.slot && x.handle == y.handle && x.asid == y.asid

/-- The lowest reason for which a record is malformed as it was read (R353, R354, R356, R357, R477). -/
def recFault (c : Cmd) : Option Nat :=
  let wide (win v : Nat) : Bool := decide (win = 1 ∧ v / 2 ^ 31 ≠ 0)
  let zero := match c.code with
    | 1 => decide (c.f 511 400 ≠ 0 ∨ c.f 159 154 ≠ 0) || wide (c.f 152 152) (c.f 63 0) || wide (c.f 153 153) (c.f 127 64)
    | 5 => decide (c.f 511 155 ≠ 0) || wide (c.f 153 153) (c.f 63 0) || wide (c.f 154 154) (c.f 127 64)
    | _ => decide (c.f 511 235 ≠ 0) || wide (c.f 233 233) (c.f 127 64) || wide (c.f 234 234) (c.f 191 128)
  let crooked := match c.code with
    | 1 => false
    | 5 => decide (c.f 63 0 % c.redSize ≠ 0 ∨ c.f 127 64 % c.redSize ≠ 0)
    | _ => decide (c.f 127 64 % c.indexSize ≠ 0)
  let count := if c.code = 1 ∨ c.code = 5 then c.f 151 128 else c.f 215 192
  if zero then some 6
  else if crooked then some 7
  else if c.spans.any (fun p => match p.1.win with
      | some cl => decide (23 < cl ∨ p.1.a + p.2.1 < 0 ∨ (0x3000000 : Int) < p.1.a + p.2.2.1)
      | none => false) then some 8
  else if count = 0 ∨ 16777215 < c.total then some 9
  else none

/-! Accesses. -/

/-- The compute die's first cluster, at which an engine's translations run. -/
def engineCluster (e : Nat) : Nat := 3 * (e / 4)

/-- What an access of a command is for: each use holds the translation of the page that it is in (R351). -/
inductive Role where
  | start
  | index
  | source
  | sum
  | dest
  deriving DecidableEq, Repr

/-- Uses numbered as an engine holds their translations. -/
def Role.num : Role → Nat
  | .start => 0
  | .index => 1
  | .source => 2
  | .sum => 3
  | .dest => 4

/-- The access that a use makes. -/
def Role.want : Role → Want
  | .dest => wantWrite
  | _ => wantRead

/-- The translation that a command holds for a use and an address. -/
def heldPage (s : State) (e : Nat) (c : Cmd) (r : Role) (va : Word) : Option HeldPage :=
  (s.engine e).pages.find? (fun p => p.cmd == c.seq && p.role == r.num && p.page == va.toNat / 4096)

/-- A command holds the translation of the page that it entered in place of its last one for that use (R351): it serves the rest of
the page, and a discarded page has none. -/
def holdPage (s : State) (e : Nat) (c : Cmd) (r : Role) (va : Word) (l : Loc) : State :=
  s.onEngine e (fun y =>
    let rest := y.pages.filter (fun p => !(p.cmd == c.seq && p.role == r.num))
    { y with pages := if l.disc then rest else
        rest ++ [⟨c.seq, r.num, va.toNat / 4096, l.key - l.key % 4096, if l.kind = 5 then 0 else l.kind, l.tracked⟩] })

/-- An access under a held translation: it waits for a recall of its frame (R454), and meets a lost home (R479, R482, R483). -/
def heldLoc (s : State) (asid : Nat) (p : HeldPage) (va : Word) : State × Loc :=
  let key := p.base + va.toNat % 4096
  let s1 := awaitRecall s key
  if lostPlace s1 key then (faultOf s1 asid key, ⟨key, 5, false, p.tracked⟩) else (s1, ⟨key, p.kind, false, p.tracked⟩)

/-- A side located for an access of a command, or its cause (R278, R351): an access of the mode that its slot pushed it in (R273),
translated when the command enters the page. -/
def sideLoc (s : State) (e : Nat) (c : Cmd) (x : Side) (r : Role) : State × (Loc ⊕ Cause) :=
  match x.win with
  | some cl =>
    if (s.core (windowCore cl x.num)).owner = some c.asid then (s, .inl ⟨winKey cl x.num, 1, false, true⟩)
    else (s, .inr ⟨0x16, x.va, einfoOf 5 0 false 0⟩)
  | none => match heldPage s e c r x.va with
    | some p => let h := heldLoc s c.asid p x.va; (h.1, .inl h.2)
    | none => match resolve s (engineCluster e * 3072) c.asid c.ptbase x.va { r.want with user := c.user, unit := true } with
      | (s1, .ok l) => (if inWindowRegion x.va then s1 else holdPage s1 e c r x.va l, .inl l)
      | (s1, .bad code reason lv) => (s1, .inr ⟨code, x.va, einfoOf reason lv (wrOf code reason r.want.write) 0⟩)

/-- The cause of an engine's access that is not performed: no route leads to its home, or an error stands in its way; the device
fault of the process follows (R428, R477, R479, R482, R483). -/
def lostCause (s : State) (l : Loc) (va : Word) : Cause :=
  if routeLost s l.key then ⟨0x21, va, einfoOf (if inTier3 l.key then 2 else 3) 0 false 0⟩
  else ⟨0x1C, va, einfoOf 1 0 false 0⟩

/-- `n` bytes of a side that lie in one page, or the cause; poisoned bytes are a device fault as well (R428, R477). -/
def sideRead (s : State) (e : Nat) (c : Cmd) (x : Side) (r : Role) (n : Nat) : State × (List Byte ⊕ Cause) :=
  match sideLoc s e c x r with
  | (s1, .inr f) => (s1, .inr f)
  | (s1, .inl l) =>
    if l.kind = 5 then (s1, .inr (lostCause s1 l x.va)) else
    match badMark s1 l.key n with
    | some b => (faultOf s1 c.asid b, .inr ⟨0x1C, x.va + word (b - l.key), einfoOf 1 0 false 0⟩)
    | none => (s1, .inl (agentRead s1 l.key l.kind n l.disc))

/-- Bytes written at a side that lie in one page, or the cause. -/
def sideWrite (s : State) (e : Nat) (c : Cmd) (x : Side) (bs : List Byte) : State × Option Cause :=
  match sideLoc s e c x .dest with
  | (s1, .inr f) => (s1, some f)
  | (s1, .inl l) => if l.kind = 5 then (s1, some (lostCause s1 l x.va)) else (agentWrite s1 l.key l.kind bs, none)

/-! Moving bytes. -/

/-- Where the next byte of a command comes from: a side, or the pattern of a fill from a byte on. -/
inductive Source where
  | side (x : Side)
  | pattern
  deriving DecidableEq, Repr

/-- A gather or scatter reads the index of an element when it begins the element, once (R356). -/
def withIndex (s : State) (e : Nat) (c : Cmd) : State × (Cmd ⊕ Cause) :=
  if c.tile.isSome ∨ (c.code ≠ 2 ∧ c.code ≠ 3) ∨ c.elem.isSome then (s, .inl c)
  else match sideRead s e c ((recSide (c.f 233 233 = 1) (c.f 127 64)).plus (c.pos / c.elemSize * c.indexSize : Nat)) .index
      c.indexSize with
    | (s1, .inr f) => (s1, .inr f)
    | (s1, .inl bs) => (s1, .inl { c with elem := some (ofLe bs) })

/-- A command after `n` more bytes: it lies in the page of the last of them, and an element that it ends gives its index up. -/
def Cmd.moved (c : Cmd) (dst : Side) (n : Nat) : Cmd :=
  { c with pos := c.pos + n, page := (dst.num + n - 1) / 4096, elem := if (c.pos + n) % c.elemSize = 0 then none else c.elem }

/-- The next byte of a command opens another 4 KiB page of the destination, behind bytes that it has moved (R468). -/
def Cmd.crosses (c : Cmd) (dst : Side) : Bool := c.tile.isNone && decide (c.pos ≠ 0 ∧ dst.num / 4096 ≠ c.page)

/-- The next bytes of a command: source, destination, and bytes left in the run (a row, an element, a copy). -/
def nextRun (c : Cmd) : Source × Side × Nat :=
  if c.tile.isSome then
    (.side ⟨none, c.lo.toNat + c.pos⟩,
      ⟨some (c.hi.toNat / 2 ^ 58), (c.hi.toNat / 2 ^ 32 % 2 ^ 26 : Nat) + c.pos⟩, c.total - c.pos)
  else
  let o : Int := c.pos
  match c.code with
  | 0 =>
    let m := c.memSide.plus o
    let w := c.winSide.plus o
    if c.fields.dir then (.side w, m, c.total - c.pos) else (.side m, w, c.total - c.pos)
  | 4 => (.pattern, (if c.fields.dir then c.memSide else c.winSide).plus o, c.total - c.pos)
  | 1 =>
    let e0 := c.f 151 128
    let r := c.pos / e0
    let i : Int := (c.pos % e0 : Nat)
    (.side ((recSide (c.f 152 152 = 1) (c.f 63 0)).plus (rowOffset c 208 r + i)),
      (recSide (c.f 153 153 = 1) (c.f 127 64)).plus (rowOffset c 304 r + i), e0 - c.pos % e0)
  | 5 => (.side ((recSide (c.f 153 153 = 1) (c.f 63 0)).plus o),
      (recSide (c.f 154 154 = 1) (c.f 127 64)).plus o, c.redSize)
  | _ =>
    let n := c.elemSize
    let t : Side := ⟨none, (c.f 63 0 + c.elem.getD 0 * n + c.pos % n : Nat)⟩
    let d := (recSide (c.f 234 234 = 1) (c.f 191 128)).plus o
    if c.code = 2 then (.side t, d, n - c.pos % n) else (.side d, t, n - c.pos % n)

/-- The sum of two elements of an HRED (R357): nearest even, subnormals kept, a NaN canonical. -/
def redSum (c : Cmd) (a b : Nat) : Nat :=
  let f := if c.f 152 152 = 1 then 1 else 0
  writeF .default f (addV 0 (decodeF f a) (decodeF f b))

/-- The bytes that a run brings to its destination. -/
def runBytes (s : State) (e : Nat) (c : Cmd) (src : Source) (dst : Side) (n : Nat) : State × (List Byte ⊕ Cause) :=
  match src with
  | .pattern => (s, .inl ((upFrom c.pos n).map (fun i => (toLe 4 c.rec512).getD (i % 4) 0)))
  | .side x =>
    match sideRead s e c x .source n with
    | (s1, .inr f) => (s1, .inr f)
    | (s1, .inl bs) =>
      if c.code = 5 ∧ c.tile = none then
        match sideRead s1 e c dst .sum n with
        | (s2, .inr f) => (s2, .inr f)
        | (s2, .inl old) => (s2, .inl (toLe n (redSum c (ofLe old) (ofLe bs))))
      else (s1, .inl bs)

/-- The generation of a handle of a kind still stands in its table entry (R468). -/
def handleLive (s : State) (e : Nat) (c : Cmd) (handle kind : Nat) : Option QEnt :=
  match readEntry s (engineCluster e * 3072) c.asid c.ptbase c.qtbase handle true with
  | (_, .inl q) => if q.kind = kind then some q else none
  | _ => none

/-- How a piece of a command ends: with room or bytes used up or a page of the destination behind it, at a boundary where the handle of
the command has become stale, or at a cause. -/
inductive PieceEnd where
  | more
  | stale
  | fault (f : Cause)
  deriving DecidableEq, Repr

/-- Up to `room` bytes of a command moved within one 4 KiB page of the destination (R348). `first` says that nothing has moved in this
piece yet: the piece then opens a page, and the handle is compared at that boundary (R468). -/
def moveBytes (e : Nat) : Nat → State → Cmd → Nat → Bool → State × Cmd × PieceEnd
  | 0, s, c, _, _ => (s, c, .more)
  | fuel + 1, s, c, room, first =>
    if room = 0 ∨ c.total ≤ c.pos then (s, c, .more) else
    match withIndex s e c with
    | (s1, .inr f) => (s1, c, .fault f)
    | (s1, .inl c) =>
      let (src, dst, left) := nextRun c
      if c.crosses dst && !first then (s1, c, .more)
      else if c.crosses dst && (handleLive s1 e c c.handle 4).isNone then (s1, c, .stale) else
      let page (x : Side) : Nat := 4096 - x.num % 4096
      let n := min (min left room) (min (page dst) (match src with | .side x => page x | .pattern => 4096))
      if n < left ∧ c.code = 5 ∧ c.tile = none then (s1, c, .more) else
      match runBytes s1 e c src dst n with
      | (s2, .inr f) => (s2, c, .fault f)
      | (s2, .inl bs) => match sideWrite s2 e c dst bs with
        | (s3, some f) => (s3, c, .fault f)
        | (s3, none) => moveBytes e fuel s3 (c.moved dst n) (if (dst.num + n) % 4096 = 0 then 0 else room - n) false

/-! Starting and finishing. -/

/-- A command has begun: its record has been read, or it has none. -/
def Cmd.begun (c : Cmd) : Bool := decide (c.rec512 / 2 ^ 512 = 1)

/-- Commands of a binding whose record is held start no more (R351). -/
def bindingHeld (y : EngineSt) (c : Cmd) : Bool := y.stuck.any (fun r => sameBinding r.cmd c)

/-- The first waiting command that may start, with what stays. -/
def takeFirst (y : EngineSt) : List Cmd → Option (Cmd × List Cmd)
  | [] => none
  | c :: cs =>
    if bindingHeld y c then (takeFirst y cs).map (fun r => (r.1, c :: r.2)) else some (c, cs)

/-- Free places are taken by tiles first and then by commands in their order (R351, R358). -/
def startCommands (y : EngineSt) : Nat → EngineSt
  | 0 => y
  | n + 1 =>
    if 8 ≤ y.fly.length then y
    else match y.tiles with
    | t :: ts => startCommands { y with tiles := ts, fly := y.fly ++ [t] } n
    | [] => match takeFirst y y.cmds with
      | some (c, cs) => startCommands { y with cmds := cs, fly := y.fly ++ [c] } n
      | none => y

/-- A command back in the queue at its place in the order in which the engine received it. -/
def requeue (c : Cmd) : List Cmd → List Cmd
  | [] => [c]
  | d :: ds => if c.seq < d.seq then c :: d :: ds else d :: requeue c ds

/-- Commands that have not begun when a record of their binding is held are passed over: they give their places up and start, behind
those that started meanwhile, once the record is placed (R351, R352). -/
def passOver (y : EngineSt) : EngineSt :=
  let waits (c : Cmd) : Bool := c.tile.isNone && !c.begun && bindingHeld y c
  { y with fly := y.fly.filter (fun c => !waits c), cmds := (y.fly.filter waits).foldl (fun l c => requeue c l) y.cmds }

/-- An engine with its free places taken. -/
def startAll (s : State) (e : Nat) : State := s.onEngine e (fun y => startCommands (passOver y) 8)

/-- An earlier command lets a command's window accesses, or an HSIG, go on (R237, R352). Both have begun, so that both window ranges
are known. -/
def letsPass (x c : Cmd) : Bool := !cmdsMeet x c && !(c.code == 6 && sameBinding x c)

/-- The commands in flight that may go on, with their places. They begin in their order; a begun one waits for those that began before
it and whose window ranges meet its own, and an HSIG for the earlier ones of its binding (R237, R352). -/
def ready (e : EngineSt) : List (Nat × Cmd) :=
  ((upFrom 0 e.fly.length).zip e.fly).filter (fun p =>
    let before := e.fly.take p.1
    if p.2.begun then before.all (fun x => letsPass x p.2) else before.all (fun x => x.begun))

/-- A command leaves flight, with the translations that it held. -/
def land (s : State) (e i : Nat) : State :=
  s.onEngine e (fun y => { y with
    fly := y.fly.eraseIdx i
    pages := y.pages.filter (fun p => !((y.fly[i]?).any (fun c => c.seq == p.cmd))) })

/-- The task of a card's tile (R359, R360): ready with its last tile, or failed. -/
def tileLanded (s : State) (key seq : Nat) : State :=
  let s1 := onTask s key seq (fun t => { t with tiles := t.tiles - 1, readyAt := s.cycle })
  settle s1 key

/-- The task of a tile that faulted leaves its queue, and its launch fails (R360). -/
def tileFailed (s : State) (e key seq : Nat) (f : Cause) : State :=
  match s.queue key with
  | none => s
  | some q => match q.tasks.find? (fun t => t.seq == seq) with
    | none => s
    | some t =>
      let s1 := onEntries s key (fun q => { q with tasks := q.tasks.filter (fun u => !(u.seq == seq)) })
      let s2 := unitBack s1 (engineCluster e) key q t
      settle (launchEnds (failLaunch s2 t.launch f.code (f.info.toNat % 256) f.addr 1 e) t.launch) key

/-- A command completes with a status (R238, R351): its record goes to the completed ones. -/
def complete (s : State) (e i : Nat) (c : Cmd) (status : Nat) (faddr : Word) : State :=
  let lo := word (c.pos * 65536 + c.fields.tag * 256 + status * 16 + c.fields.cmd)
  (land s e i).onEngine e (fun y => { y with done := y.done ++ [⟨lo, faddr, c⟩] })

/-- The fault record of an engine command (R477). -/
def engineRecord (s : State) (e : Nat) (c : Cmd) (f : Cause) : State :=
  logRecord s ⟨f.addr, f.info, 0, c.slot, c.asid, f.code, 4, if c.tile.isSome then c.task.index else c.fields.tag,
    c.handle, 1, e⟩

/-- A command that fails (R353, R360, R477). -/
def failCommand (s : State) (e i : Nat) (c : Cmd) (f : Cause) : State :=
  let s1 := engineRecord s e c f
  match c.tile with
  | some (key, seq) => tileFailed (land s1 e i) e key seq f
  | none => complete s1 e i c 3 f.addr

/-- Bytes that landed are credited to the binding's barrier word (R348); a word that is none is a misuse (R440). -/
def creditMoved (s : State) (e : Nat) (c : Cmd) (n : Nat) : State :=
  if c.tile.isSome ∨ n = 0 ∨ c.fields.sig = false then s else
  let cl := fieldOf c.opt 30 26
  let off := fieldOf c.opt 25 0
  let va := word (0xF000000 * 2 ^ 28 + off)
  if 23 < cl ∨ 0x3000000 ≤ off ∨ off % 32 ≠ 0 then eventRecord s c.asid 0x1F 1 va 4 1 e .none
  else barCredit s (winKey cl off) 0 n va c.asid 1 e

/-- The record that a command reads at its start (R353, R478): it is 64-byte aligned, so one access. -/
def startRead (s : State) (e : Nat) (c : Cmd) : State × (Nat ⊕ Cause) :=
  if c.tile.isSome ∨ c.code = 0 ∨ c.code = 6 then (s, .inl 0)
  else if c.code = 4 then (s, .inl (c.fields.mva % 2 ^ 32))
  else match sideRead s e c c.memSide .start 64 with
    | (s1, .inl bs) => (s1, .inl (ofLe bs))
    | (s1, .inr f) => (s1, .inr f)

/-- A fill of memory reads its pattern from the window as its first access there, in its turn among the window accesses (R237, R352). -/
def withPattern (s : State) (e : Nat) (c : Cmd) : State × (Cmd ⊕ Cause) :=
  if c.tile.isSome ∨ c.code ≠ 4 ∨ c.fields.dir = false ∨ c.pos ≠ 0 then (s, .inl c)
  else match sideRead s e c c.winSide .source 4 with
    | (s1, .inl bs) => (s1, .inl { c with rec512 := ofLe bs + 2 ^ 512 })
    | (s1, .inr f) => (s1, .inr f)

/-- The start of a command: its handle is compared, and its record read and judged (R353, R468, R477). -/
def beginCommand (s : State) (e i : Nat) (c : Cmd) : State :=
  if c.tile.isNone && (handleLive s e c c.handle 4).isNone then complete s e i c 1 0 else
  match startRead s e c with
  | (s1, .inr f) => failCommand s1 e i c f
  | (s1, .inl raw) =>
    let c1 := { c with rec512 := raw + 2 ^ 512 }
    match (if c.tile.isNone ∧ (c.code = 1 ∨ c.code = 2 ∨ c.code = 3 ∨ c.code = 5) then recFault c1 else none) with
    | some r => failCommand s1 e i c ⟨0x20, c.memSide.va, einfoOf r 0 false 0⟩
    | none => s1.onEngine e (fun y => { y with fly := y.fly.set i c1 })

/-- A command goes on by a piece; it stops at a boundary where its handle has become stale, and ends with its last byte
(R348, R468). -/
def advanceCommand (s : State) (e i : Nat) (c : Cmd) : State :=
  match withPattern s e c with
  | (s0, .inr f) => failCommand s0 e i c f
  | (s0, .inl c0) =>
    let r := moveBytes e 4097 s0 c0 4096 true
    let c1 := r.2.1
    let s1 := creditMoved r.1 e c0 (c1.pos - c0.pos)
    match r.2.2 with
    | .fault f => failCommand s1 e i c1 f
    | .stale => complete s1 e i c1 2 0
    | .more =>
      if c1.total ≤ c1.pos then
        match c.tile with
        | some (key, seq) => tileLanded (land s1 e i) key seq
        | none => complete s1 e i c1 0 0
      else s1.onEngine e (fun y => { y with fly := y.fly.set i c1 })

/-- HSIG: the word takes its bytes, and one arrival with dir (R237, R348). -/
def signal (s : State) (e i : Nat) (c : Cmd) : State :=
  let f := c.fields
  complete (barCredit s (winKey f.cluster f.off) (b2n f.dir) f.len (word (0xF000000 * 2 ^ 28 + f.off)) c.asid 1 e)
    e i c 0 0

/-- One step of a command in flight. -/
def stepCommand (s : State) (e i : Nat) (c : Cmd) : State :=
  if c.begun = false then beginCommand s e i c
  else if c.code = 6 ∧ c.tile = none then signal s e i c
  else advanceCommand s e i c

/-- The command that moves next among those that `f` admits: any that may go on. -/
def pickCommand (s : State) (e : Nat) (f : Cmd → Bool) : Option (Nat × Cmd) :=
  let l := (ready (s.engine e)).filter (fun p => f p.2)
  match l with
  | [p] => some p
  | _ => l[Config.freeNat s.free % l.length]?

/-- An engine moves a command that `f` admits. -/
def runEngine (s : State) (e : Nat) (f : Cmd → Bool) : Host.Outcome State Fault Refusal :=
  let s1 := startAll s e
  match pickCommand s1 e f with
  | some (i, c) => .next ((stepCommand { s1 with free := s1.free + 1 } e i c).onEngine e (fun y => { y with since := s.cycle }))
  | none => .next s

/-- A command of a code that came through a port. -/
def isCommand (code : Nat) (c : Cmd) : Bool := c.tile.isNone && c.code == code

/-- HCPY. -/
def execHcpy (engine : Nat) (s : State) : Host.Outcome State Fault Refusal := runEngine s engine (isCommand 0)
/-- HCPYT. -/
def execHcpyt (engine : Nat) (s : State) : Host.Outcome State Fault Refusal := runEngine s engine (isCommand 1)
/-- HGTH. -/
def execHgth (engine : Nat) (s : State) : Host.Outcome State Fault Refusal := runEngine s engine (isCommand 2)
/-- HSCT. -/
def execHsct (engine : Nat) (s : State) : Host.Outcome State Fault Refusal := runEngine s engine (isCommand 3)
/-- HFIL. -/
def execHfil (engine : Nat) (s : State) : Host.Outcome State Fault Refusal := runEngine s engine (isCommand 4)
/-- HRED. -/
def execHred (engine : Nat) (s : State) : Host.Outcome State Fault Refusal := runEngine s engine (isCommand 5)
/-- HSIG. -/
def execHsig (engine : Nat) (s : State) : Host.Outcome State Fault Refusal := runEngine s engine (isCommand 6)
/-- JOB_CARD_TILE. -/
def execJobCardTile (engine : Nat) (s : State) : Host.Outcome State Fault Refusal :=
  runEngine s engine (fun c => c.tile.isSome)

/-! Result records (R238, R351, R468). -/

/-- A completed record to its result queue: none when the binding names no queue, a fault record when that queue is
stale, and none yet (held) when it is full. -/
def placeRecord (s : State) (e : Nat) (r : ResultRec) : Option State :=
  let h := fieldOf r.cmd.opt 63 32
  if h = 0 then some s
  else match handleLive s e r.cmd h 5 with
  | none => some (engineRecord s e r.cmd ⟨0x19, r.cmd.qtbase + word (64 * (h % 65536)), einfoOf 3 0 false h⟩)
  | some _ =>
    let key := resultKey r.cmd.asid h
    if (s.resultsOf key).length < 64 then some (s.putResults key (s.resultsOf key ++ [(r.lo, r.hi)]))
    else none

/-- ENGINE_COMMAND_COMPLETE: the oldest completed record is placed, or held: also behind a held one of its binding. -/
def execEngineCommandComplete (engine : Nat) (s : State) : Host.Outcome State Fault Refusal :=
  .next (match (s.engine engine).done with
    | [] => s
    | r :: rest =>
      let s1 := s.onEngine engine (fun y => { y with done := rest })
      (if bindingHeld (s.engine engine) r.cmd then none else placeRecord s1 engine r).getD (s1.onEngine engine (fun y => { y with stuck := y.stuck ++ [r] })))

/-- The first held record that can be placed now; those of one binding keep their order. -/
def placeHeld (s : State) (e : Nat) : List ResultRec → List Cmd → Option State
  | [], _ => none
  | r :: rest, before =>
    match (if before.any (sameBinding r.cmd) then none else placeRecord s e r) with
    | some s1 => some (s1.onEngine e (fun y => { y with stuck := y.stuck.erase r }))
    | none => placeHeld s e rest (before ++ [r.cmd])

/-- RESULT_RECORD_PLACE. -/
def execResultRecordPlace (engine : Nat) (s : State) : Host.Outcome State Fault Refusal :=
  .next ((placeHeld s engine (s.engine engine).stuck []).getD s)

/-- The event that an engine's next step is, if it has one. -/
def engineDue (s : State) (e : Nat) : Option Instr :=
  match (s.engine e).done with
  | _ :: _ => some (.engineCommandComplete e)
  | [] =>
    if (placeHeld s e (s.engine e).stuck []).isSome then some (.resultRecordPlace e)
    else (pickCommand (startAll s e) e (fun _ => true)).map (fun p =>
      if p.2.tile.isSome then .jobCardTile e
      else match p.2.code with
        | 0 => .hcpy e
        | 1 => .hcpyt e
        | 2 => .hgth e
        | 3 => .hsct e
        | 4 => .hfil e
        | 5 => .hred e
        | _ => .hsig e)

end Sys2Proof.Machine
end

