-- ==== Sys2Proof/Machine/Fence.lean ====
section
/-! DEFINITION. Machine/Fence.lean: fences, cache maintenance and prefetches (R261 to R266). -/

namespace Sys2Proof.Machine

/-- A vector instruction that accesses memory or sends a commit packet: VLOAD, VSTORE, VAMO, TLDB, and GFX but for EDGE. -/
def vecAccess (code : BitVec 32) : Bool :=
  let op := majorOf code
  let fn := (code.extractLsb' 27 5).toNat
  decide (op = 0x19 ∨ op = 0x1A ∨ op = 0x1B ∨ (op = 0x24 ∧ fn = 1) ∨ (op = 0x25 ∧ 1 ≤ fn))

/-- The slot has queued element accesses, reductions, packets or releases that have not performed (R261, R365). -/
def accessQueued (s : State) (k : Nat) : Bool :=
  storesQueued s k || (s.slot k).vq.any (fun e => match e.work with
    | .vector code => vecAccess code
    | _ => false)

/-- FENCE: the open chunk has committed; with v it waits for the vector accesses (R261). -/
def execFence (x : QF) (s : State) : Host.Outcome State Fault Refusal :=
  run { reason := reasonFence x, irrev := true } s (fun _ s =>
    if x.d.getLsbD 1 && accessQueued s s.cur then .wait .drain none else .ok () (advance s 4))

/-- The cores that a scope of slot `k` covers: its own, its cluster's, its die's, or all. -/
def inScope (k sc core : Nat) : Bool :=
  match sc with
  | 1 => core == coreOf k
  | 2 => core / 192 == clusterOf k
  | 3 => core / 576 == dieOf k
  | _ => true

/-- Every core that a scope covers, changed. -/
def onScope (s : State) (sc : Nat) (f : CoreSt → CoreSt) : State :=
  { s with cores := s.cores.foldl (fun m c => if inScope s.cur sc c.1 then wr .reset m c.1 (f c.2) else m) s.cores }

/-- FSMP: a FENCE of both kinds, then the sampler caches of the scope are empty (R262). -/
def execFsmp (x : QF) (s : State) : Host.Outcome State Fault Refusal :=
  run { reason := zeroQFBADFrom1Scope2 x, irrev := true } s (fun _ s =>
    if accessQueued s s.cur then .wait .drain none
    else .ok () (advance (onScope s x.sc.toNat (fun c => { c with sampler := [], sampled := [] })) 4))

/-- CHUNK (R263): the close and commit that precede every irrevocable instruction are all it does. -/
def execChunk (x : QF) (s : State) : Host.Outcome State Fault Refusal :=
  run { reason := zeroQFScBAD x, irrev := true } s (fun _ s => .ok () (advance s 4))

/-! DCWB and DCINV (R264). -/

/-- The pages that a range meets, each with the first byte of the range in it. -/
def rangePages (va : Word) (n : Nat) : List Word :=
  if n = 0 then []
  else va :: (upFrom 1 ((va.toNat % 4096 + n - 1) / 4096)).map (fun i => (va &&& ~~~0xFFF) + word (4096 * i))

/-- The leaf that maps an address of the slot's process, when one does. -/
def leafOf (s : State) (va : Word) : Option Leaf :=
  if canonical va = false ∨ inWindowRegion va = true then none
  else match walk s va.toNat (bits s.me.sys.ptbase.toNat 51 12) 4 [] with
  | .ok l => some l
  | .bad _ _ _ => none

/-- The range meets the window region. -/
def meetsWindow (va : Word) (n : Nat) : Bool :=
  inWindowRegion va || decide (n ≠ 0 ∧ va.toNat < 0xF0000000000000 ∧ 0xF0000000000000 < va.toNat + n)

/-- The permission that DCINV lacks on a page (R264, R445). -/
def dcinvFault (s : State) (va : Word) : Option Cause :=
  match leafOf s va with
  | none => none
  | some l =>
    if s.me.spv = false ∧ (bit l.pte 4 = false ∨ inDevice l.pa = true) then some (accessCause va 0x16 1 0 true)
    else if bit l.pte 2 = false then some (accessCause va 0x16 6 0 true)
    else none

/-- The sectors of untracked pages that meet a range. -/
def untrackedSectors (s : State) (va : Word) (n : Nat) : List Nat :=
  (rangePages va n).flatMap (fun p =>
    match leafOf s p with
    | none => []
    | some l =>
      if bit l.pte 5 = true ∨ bit l.pte 6 = true ∨ inDevice l.pa = true then []
      else
        let used := (p - va).toNat
        sectorsOf l.pa (min (n - used) (4096 - p.toNat % 4096)))

/-- Dirty bytes of the sectors go from the cluster's L1 to the home die cache, and at system scope on to DRAM. -/
def writeBack (s : State) (cluster sc : Nat) (secs : List Nat) : State :=
  secs.foldl (fun s sec =>
    let s1 := writeBackL1 s cluster sec
    if sc = 5 then writeBackHome s1 sec else s1) s

/-- Copies of the sectors leave the cluster's L1, and at system scope the home die cache. -/
def dropCopies (s : State) (cluster sc : Nat) (secs : List Nat) : State :=
  secs.foldl (fun s sec =>
    let s1 := dropL1 s cluster sec
    if sc = 5 then dropHome s1 sec else s1) s

/-- DCWB and DCINV: a release at the scope, which covers no vector access (R298), then the maintenance. -/
def dataCache (x : QF) (inv : Bool) (s : State) : Host.Outcome State Fault Refusal :=
  run { reason := zeroQFDFrom2Scope5 x, srcs := [x.a, x.b], irrev := true } s (fun got s =>
    let va := srcVal s got x.a
    let n := (srcVal s got x.b).toNat
    if 2 ^ 32 < n then .trap (ownCause s.me 0x12 23) .none
    else if meetsWindow va n then .trap (ownCause s.me 0x12 23) .none
    else match (if inv then (rangePages va n).findSome? (dcinvFault s) else none) with
    | some c => .trap c .none
    | none =>
      let secs := untrackedSectors s va n
      let s1 := writeBack s (clusterOf s.cur) x.sc.toNat secs
      .ok () (advance (if inv then dropCopies s1 (clusterOf s.cur) x.sc.toNat secs else s1) 4))

/-- DCWB. -/
def execDcwb (x : QF) (s : State) : Host.Outcome State Fault Refusal := dataCache x false s
/-- DCINV. -/
def execDcinv (x : QF) (s : State) : Host.Outcome State Fault Refusal := dataCache x true s

/-- The physical lines that a range meets, one list for each page. -/
def rangeLines (s : State) (va : Word) (n : Nat) : List (Nat × Nat) :=
  (rangePages va n).filterMap (fun p => (leafOf s p).map (fun l =>
    (l.pa / 64, (l.pa + min (n - (p - va).toNat) (4096 - p.toNat % 4096) - 1) / 64)))

/-- The virtual base of entry `i` of a table whose own base is `base`, its entries `span` bytes each: addresses are canonical
(R267). -/
def entryBase (base i span : Nat) : Nat :=
  if base + i * span < 2 ^ 56 then base + i * span else base + i * span + (2 ^ 64 - 2 ^ 57)

/-- The physical lines that the range [lo, hi) meets under the leaves of a tree of page tables: what `rangeLines` gives, found
by the tables where the range has many pages. The window region, which no leaf maps (R277), is left out. -/
def treeLines (s : State) (lo hi : Nat) : Nat → Nat → Nat → List (Nat × Nat)
  | fuel, table, base => (upFrom 0 512).flatMap (fun i =>
      let pte := s.le (table * 4096 + 8 * i) 8
      let span := 2 ^ (12 + 9 * fuel)
      let a := max lo (entryBase base i span)
      let b := min hi (entryBase base i span + span)
      if bit pte 0 = false ∨ b ≤ a then []
      else if bits pte 3 1 = 0 then (match fuel with
        | 0 => []
        | f + 1 => treeLines s lo hi f (bits pte 55 16) (base + i * span))
      else
        let a := if inWindowRegion (word a) then max a 0xF0000010000000 else a
        match (if b ≤ a then none else leafOf s (word a)) with
        | some l => [(l.pa / 64, (l.pa + (b - a) - 1) / 64)]
        | none => [])
termination_by structural fuel => fuel

/-- The physical lines that a range which may wrap meets. -/
def linesOf (s : State) (va : Word) (n : Nat) : List (Nat × Nat) :=
  if n < 2 ^ 21 then rangeLines s va n
  else
    let root := bits s.me.sys.ptbase.toNat 51 12
    treeLines s va.toNat (min (va.toNat + n) (2 ^ 64)) 4 root 0 ++ treeLines s 0 (va.toNat + n - 2 ^ 64) 4 root 0

/-- ICINV (R265). -/
def execIcinv (x : QF) (s : State) : Host.Outcome State Fault Refusal :=
  run { reason := zeroQFDFrom1Scope4 x, srcs := [x.a, x.b], irrev := true } s (fun got s =>
    let va := srcVal s got x.a
    let n := (srcVal s got x.b).toNat
    let lines := linesOf s va n
    .ok () (advance (onScope s x.sc.toNat (fun c => { c with icache := c.icache.filter (fun d =>
        !(decide (n = 0) || lines.any (fun r => decide (r.1 ≤ d.line ∧ d.line ≤ r.2)))) })) 4))

/-! Prefetches (R266): no wait, no register, no mark; dropped whenever R266 says so. -/

/-- The leaf of a prefetch. -/
def prefetchLeaf (s : State) (va : Word) (w : Want) : Option Leaf :=
  if canonical va = false ∨ inWindowRegion va = true then none
  else match translate s s.me.sys.ptbase va (assisted s (clusterOf s.cur) 0) { w with user := !s.me.spv } with
  | .ok l => some l
  | .bad _ _ _ => none

/-- The translation of a prefetch that is not dropped: it sets a (R274) and may miss. -/
def prefetchNote (s : State) (va : Word) (l : Leaf) : State :=
  noteTranslation (markLeaf s s.cur (clusterOf s.cur) l false) s.cur (coreOf s.cur) s.me.asidN va l

/-- IPF: of a line that is there or on its way it has no effect (R464). A discarded page, the device register range and memory
that the device does not cache have no line to fetch (R272, R281, R286). -/
def execIpf (x : QF) (s : State) : Host.Outcome State Fault Refusal :=
  run { reason := zeroQFScBD x, srcs := [x.a] } s (fun got s =>
    let va := srcVal s got x.a
    let set := (va.toNat / 64) % 128
    .ok () (advance (match prefetchLeaf s va wantFetch with
      | some l =>
        if lineKnown (s.core (coreOf s.cur)) set (l.pa / 64) then s
        else if bit l.pte 6 = true ∨ 3 ≤ kindOf s l then prefetchNote s va l
        else askFill (prefetchNote s va l) (coreOf s.cur) set (l.pa / 64)
      | none => s) 4))

/-- DPF: nothing enters the L1 of a discarded page, nor against the mode of its frame (R283, R286). -/
def execDpf (x : QF) (s : State) : Host.Outcome State Fault Refusal :=
  run { reason := zeroQFScBD x, srcs := [x.a] } s (fun got s =>
    let va := srcVal s got x.a
    .ok () (advance (match prefetchLeaf s va wantRead with
      | some l =>
        let t := prefetchNote s va l
        let loc : Loc := ⟨l.pa, kindOf t l, bit l.pte 6, bit l.pte 5⟩
        if (aliasFault t loc).isSome then t else touchLoc t s.cur (clusterOf s.cur) loc 1
      | none => s) 4))

end Sys2Proof.Machine
end

