-- ==== Sys2Proof/Machine/EvMem.lean ====
section
/-! DEFINITION. Machine/EvMem.lean: the steps of the homes: reductions after their commit (R245, R456 to R459), page moves
and settles (R287, R288, R455), the directory (R281, R282), free frames (R392) and frame recalls (R453, R454). An event whose
occasion is not there leaves the state as it is. -/

namespace Sys2Proof.Machine

/-! Reductions (R245). -/

/-- The location lies in the scope that an atomic names (R302); a wider one is counted. -/
def redScope (s : State) (r : Red) (l : Loc) : State := if contains r.slot r.sc l then s else s.count r.slot 17

/-- Bytes that a reduction changes. -/
def Red.size (r : Red) : Nat := if r.narrow then 4 else 8

/-- What a reduction makes of an old value (R246, R458). -/
def Red.result (r : Red) (old : Nat) : Nat := amoEl r.op (8 * r.size) old r.value.toNat 0

/-- The reduction performed at its home: atomically, to every observer at once. -/
def performRed (s : State) (r : Red) (l : Loc) : State :=
  let s1 := redScope (poisoned s r.asid l r.size) r l
  if l.kind = 4 then devStores s1 [(l.key, toLe r.size (r.result (ofLe (devRead s1 l.key r.size))))]
  else agentWrite s1 l.key l.kind (toLe r.size (r.result (ofLe (agentRead s1 l.key l.kind r.size l.disc))))

/-- The slot that still runs the thread of a reduction (R456): not vacated by EXIT or by a switch-out. -/
def redOwner (s : State) (r : Red) : Option Nat :=
  (s.slots.find? (fun e => decide ((e.2.res = .full ∨ e.2.res = .light) ∧ e.2.wait ≠ .exited ∧ e.2.asidN = r.asid) &&
    sameThread e.2.task r.task)).map Prod.fst

/-- The thread of a reduction is on its way to a core. -/
def redTravels (s : State) (r : Red) : Bool :=
  s.cores.any (fun c => c.2.runq.any (fun p => sameThread p.task r.task))

/-- Slots that wait for accesses of `k` to perform go on. -/
def wakePerformed (s : State) (k : Nat) : State := wakeWhere s (fun j x => decide (j = k ∧ x.wait = .drain))

/-- Address of orctl of a process; orent follows (R457). -/
def orctlA (asid : Nat) : Nat := 0xF00000200000 + 16 * asid

/-- The descriptor of a replay task (R458). -/
def replayDesc (s : State) (p : Replay) : BitVec 512 :=
  let r := p.red
  let first := p.code * 256 + r.sc * 32 + 16 * b2n r.narrow + r.op
  let d0 : BitVec 512 := BitVec.ofNat 512 ((s.dreg (orctlA r.asid + 8)).toNat / 2 * 2)
  let d1 := dSet (dSet (dSet d0 127 64 r.value.toNat) 191 128 r.va.toNat) 223 200 1
  dSet (dSet d1 225 225 1) 319 288 first

/-- A round of a counter run through: every allowance comes back, the returns on their way join the fifo as gives, and the fifo is
served (R340, R341). -/
def wholeRound (s : State) (ctr : Nat) : State :=
  let s1 := s.onCtr ctr (fun c => if c.recalling then c else startRound s.cycle c)
  match s1.ctr ctr with
  | none => s1
  | some c => exactPoint (c.away.foldl (fun s e => match e.2 with
      | none => recallReturn s ctr e.1
      | some n => s.onCtr ctr (fun c => { c with fifo := c.fifo ++ [⟨0, 7, n, e.1, 0⟩], away := c.away.erase e })) s1) ctr

/-- A unit that the home has in hand. -/
def unitInHand (s : State) (ctr : Nat) : Bool :=
  match s.ctr ctr with
  | some c => decide (1 ≤ c.rem ∧ c.parked = []) && !c.recalling
  | none => false

/-- One unit of a capacity counter taken by its home without waiting for capacity, exact by a round where it must be (R320,
R339, R341): false when no unit is free. -/
def homeUnit (s : State) (ctr : Nat) : State × Bool :=
  let s1 := if unitInHand s ctr then s else wholeRound s ctr
  if unitInHand s1 ctr then (s1.onCtr ctr (fun c => { c with rem := c.rem - 1 }), true) else (s1, false)

/-- The home tries to enqueue a replay task: done, given up, or to be tried again in 100 µs (R458, R459). -/
def tryReplay (s : State) (p : Replay) : State :=
  let r := p.red
  let again (s : State) : State := { s with replays := s.replays ++ [{ p with due := s.cycle + 100 * usCycles }] }
  let h := fieldOf (s.dreg (orctlA r.asid)) 31 0
  let pr := (rd none s.procs r.asid).getD ⟨0, 0, 0⟩
  match readEntry s (dieOf r.slot * 9216) r.asid pr.ptbase pr.qtbase h true with
  | (s1, .inr _) => s1
  | (s1, .inl e) =>
    if e.kind ≠ 0 then s1 else
    let key := queueKey r.asid h
    let s2 := ensureResident (meetQueue s1 key pr.qtbase pr.ptbase h e) key
    match s2.queue key with
    | none => s2
    | some q => if q.resident = false then again s2 else match homeUnit s2 q.ctr with
      | (s3, false) => again s3
      | (s3, true) => enqueueTask s3 key (replayDesc s3 p) q.ctr 0 none (some r.task.launch) true

/-- An orphaned reduction (R456): its record, and a replay task where they are enabled. -/
def orphan (s : State) (r : Red) (code reason level : Nat) : State :=
  let s1 := logRecord s ⟨r.va, einfoOf reason level (wrOf code reason true) 0, 0, r.slot, r.asid, code, 4, r.task.index, r.task.queue, 4,
    dieOf r.slot⟩
  if assisted s1 (clusterOf r.slot) 6 = true ∨ (s1.dreg (orctlA r.asid)).getLsbD 32 = false then s1
  else tryReplay s1 ⟨r, code, s1.cycle⟩

/-- Where a reduction is performed, or the cause that it raises (R245): a register of the device range may refuse its sum
(R385). -/
def redPlace (s : State) (r : Red) : State × Found Loc :=
  match resolve s r.slot r.asid r.ptbase r.va { wantWrite with user := r.user } with
  | (s1, .ok l) =>
    if l.kind = 4 ∧ storeRefused s1 [] l.key (toLe r.size (r.result (ofLe (devRead s1 l.key r.size)))) = true then
      (s1, .bad 0x12 5 0)
    else (s1, .ok l)
  | (s1, .bad c rs lv) => (s1, .bad c rs lv)

/-- The oldest reduction that is not held performs, or faults: in its slot as an imprecise fault (R443, R448), or as an
orphan. -/
def nextRed (s : State) : State :=
  match s.reds.find? (fun r => !r.held) with
  | none => s
  | some r =>
    let s0 := { s with reds := s.reds.erase r }
    match redPlace s0 r with
    | (s1, .ok l) => wakePerformed (performRed s1 r l) r.slot
    | (s1, .bad c rs lv) => match redOwner s1 r with
      | some k =>
        let s2 := { s1 with reds := s1.reds ++ [{ r with slot := k, held := true }] }
        let s3 := if c = 0x18 then s2.count k 16 else s2
        s3.onSlot k (fun x => if x.vfault.isSome then x
          else { x with vfault := some ⟨c, r.va, impInfo rs lv (wrOf c rs true) 0, false⟩ })
      | none => if redTravels s1 r then { s1 with reds := s1.reds ++ [r] } else orphan s1 r c rs lv

/-- REDADD_PERFORM. -/
def execRedaddPerform (s : State) : Host.Outcome State Fault Refusal := .next (nextRed s)

/-- REPLAY_ENQUEUE_RETRY: the first replay task whose 100 µs have passed is tried again. -/
def execReplayEnqueueRetry (s : State) : Host.Outcome State Fault Refusal :=
  .next (match s.replays.find? (fun p => decide (p.due ≤ s.cycle)) with
    | some p => tryReplay { s with replays := s.replays.erase p } p
    | none => s)

/-! The directory (R281, R282). -/

/-- Memory that the host and the peers reach: tier 0 and tier 1 (R23, R268, R386). -/
def sharedRange (sector : Nat) : Bool := inTier0 (64 * sector) || inTier1 (64 * sector)

/-- DIRECTORY_READ: a read of the host or of a peer takes the data out of the module, poisoned where it is; one outside tier 0 and
tier 1 is refused (R386, R427). -/
def execDirectoryRead (sector agent : Nat) (s : State) : Host.Outcome State Fault Refusal :=
  .next (if agent < 24 then dirRead s sector agent
    else if sharedRange sector = false then { s with output := s.output ++ [.unsupported agent (64 * sector)] }
    else { (dirRead s sector agent) with
      output := s.output ++ [.data agent sector (rdMany unlistedByte s.mem (64 * sector) 64) (badByte s (64 * sector) 64).isSome] })

/-- What the host or a peer leaves in a sector that it owns: as it was, or all of it new; which, and the bytes, are the world's. No
other agent reads the sector before the owner gives it up (R281), so the model writes it at once. -/
def foreignWrite (s : State) (sector : Nat) : State :=
  let t := { s with free := s.free + 9 }
  if Config.freeNat s.free % 2 = 0 then t
  else t.putBytes (64 * sector) ((upFrom (s.free + 1) 8).flatMap (fun i => toLe 8 (Config.freeWord i).toNat))

/-- DIRECTORY_WRITE_OWNERSHIP: by a cluster; or by the host or a peer, outside tier 0 and tier 1 dropped (R386, R427). -/
def execDirectoryWriteOwnership (sector agent : Nat) (s : State) : Host.Outcome State Fault Refusal :=
  .next (if agent < 24 then dirOwn s sector agent
    else if sharedRange sector = false then s
    else foreignWrite (dropTranslations (dirOwn s sector agent) (64 * sector) 64) sector)

/-- SECTOR_EVICT: an agent's copy leaves; the dirty bytes of an untracked copy go to the home. -/
def execSectorEvict (sector agent : Nat) (s : State) : Host.Outcome State Fault Refusal :=
  .next (dropL1 (writeBackL1 (dirEvict s sector agent) agent sector) agent sector)

/-- The die cache holds data of a line that memory does not have yet. -/
def dirtyLine (s : State) (line : Nat) : Bool :=
  s.dir.any (fun e => decide (e.1 / 4 = line ∧ (e.2.st = .M ∨ e.2.home = some true))) ||
  (s.die (homeOf (line * 256))).dcu.any (fun u => decide (u.sector / 4 = line ∧ u.dirty ≠ 0))

/-- A line that must leave for a fill, and whose data is written back, counts in the slot whose miss that was (R75). -/
def noteVictim (s : State) (line : Nat) : State :=
  let d := homeOf (line * 256)
  if dirtyLine s line && (dieCrowded s d).contains line then s.count (s.die d).filler 10 else s

/-- DIE_CACHE_LINE_EVICTION: a 256-byte line leaves, with the home's copies of its untracked sectors. -/
def execDieCacheLineEviction (line : Nat) (s0 : State) : Host.Outcome State Fault Refusal :=
  let s := noteVictim s0 line
  .next ((upFrom (4 * line) 4).foldl (fun s sec => dropHome (writeBackHome s sec) sec) (dirDrop s line))

/-! Free frames and frame recalls (R392, R453). -/

/-- FFADD_WRITE. -/
def execFfaddWrite (die tier : Nat) (value : Word) (s : State) : Host.Outcome State Fault Refusal :=
  .next (s.onDie die (fun d => { d with
    ffcnt := wr 0 d.ffcnt tier ((rd 0 d.ffcnt tier + value.toNat) % 2 ^ 64) }))

/-- A frame homed on a compute die (R268): of any tier. -/
def frameOfDie (die frame : Nat) : Bool := !inDevice (frame * 4096) && homeOf (frame * 4096) == die

/-- FRAME_RECALL: a write of frclr starts a recall, or fails while one runs or for a frame of another die. -/
def execFrameRecall (die : Nat) (value : Word) (s : State) : Host.Outcome State Fault Refusal :=
  .next (if value.getLsbD 0 then
      s.onDie die (fun d =>
        if d.recalling.isSome ∨ frameOfDie die (fieldOf value 51 12) = false then { d with recallFail := true }
        else { d with recalling := some (fieldOf value 51 12), recallFail := false })
    else s)

/-- FRAME_RECALL_COMPLETE. -/
def execFrameRecallComplete (die : Nat) (s : State) : Host.Outcome State Fault Refusal :=
  .next (endRecall s die)

/-! Page moves (R287, R288, R455). -/

/-- The tables of a tree of page tables, the root first. -/
def tablesOf (s : State) : Nat → Nat → List Nat
  | 0, table => [table]
  | fuel + 1, table => table :: (upFrom 0 512).flatMap (fun i =>
      let pte := s.le (table * 4096 + 8 * i) 8
      if bit pte 0 = true ∧ bits pte 3 1 = 0 then tablesOf s fuel (bits pte 55 16) else [])

/-- The processes whose tables include a frame. -/
def procsOfTable (s : State) (frame : Nat) : List Nat :=
  s.procs.filterMap (fun e => match e.2 with
    | some p => if (tablesOf s 4 (bits p.ptbase.toNat 51 12)).contains frame then some e.1 else none
    | none => none)

/-- A leaf that may move: valid, mapped, tracked, not discarded, 4 KiB or 64 KiB (R287). The part, which moves a page only if
it will, leaves one with an armed counter where it is. -/
def movable (s : State) (pteA : Nat) : Option (Nat × Nat) :=
  let pte := s.le pteA 8
  let size := bits pte 14 13
  let frame := bits pte 55 16
  let base := if size = 1 then frame - frame % 16 else frame
  if bit pte 0 = true ∧ bits pte 3 1 ≠ 0 ∧ bit pte 5 = true ∧ bit pte 6 = false ∧ size ≤ 1 ∧
      inDevice (frame * 4096) = false ∧
      s.ctrs.any (fun e => decide (base * 4096 ≤ e.1 ∧ e.1 < (base + if size = 1 then 16 else 1) * 4096)) = false then
    some (base, if size = 1 then 16 else 1) else none

/-- The moves of a page within the last 2 ms (R288). -/
def recentMoves (s : State) (m : MoveRec) : List Nat := m.times.filter (fun t => decide (s.cycle ≤ t + 2000 * usCycles))

/-- The move record of a page that moved between devices: the fourth move within 2 ms settles it. -/
def noteMove (s : State) (old new : Nat) : State :=
  let m := (s.moves.find? (fun m => m.frame == old)).getD ⟨old, [], none, []⟩
  let ts := recentMoves s m ++ [s.cycle]
  { s with moves := s.moves.filter (fun x => !(x.frame == old)) ++
      [⟨new, ts, if 4 ≤ ts.length then some s.cycle else none, []⟩] }

/-- An open chunk's accesses to a page that has moved are those of the page where it now is: a store is retried from translation
(R287 step 5), which counts in its slot (R75), and a read goes on standing in the read signature, also where the cluster's copy had
left before. On a page settled on another device a store is not cached (R288). -/
def followMove (old new n : Nat) (settled : Bool) (x : Slot) : Slot :=
  let moved (a : Nat) : Bool := decide (old ≤ a ∧ a < old + n)
  let sector (a : Nat) : Nat := if moved (a * 64) then new / 64 + (a - old / 64) else a
  let x := { x with chunk := { x.chunk with rset := x.chunk.rset.map sector } }
  if x.chunk.stores.any (fun r => moved r.key) then
    countEvent { x with chunk := { x.chunk with
      stores := x.chunk.stores.map (fun r => if moved r.key then
        { r with key := new + (r.key - old), kind := if settled then 3 else r.kind } else r)
      wset := x.chunk.wset.map sector } } 14 1
  else x

/-- Every open chunk's stores follow a page that moved by `n` bytes from one physical address to another. -/
def followMoves (s : State) (old new n : Nat) : State :=
  let settled := inTier3 new && s.moves.any (fun m => m.frame == new / 4096 && m.settledAt.isSome)
  { s with slots := s.slots.foldl (fun m e => wr .empty m e.1 (followMove old new n settled e.2)) s.slots }

/-- The record of a page that moved within a device stands under its new frame (R288). -/
def keepRecord (s : State) (old new : Nat) : State :=
  { s with moves := s.moves.map (fun m => if m.frame = old then { m with frame := new } else m) }

/-- The entries of a page's leaf: sixteen for 64 KiB. -/
def leafEntries (pteA n : Nat) : List (Nat × Nat) :=
  let a0 := if n = 16 then pteA - pteA % 128 else pteA
  (upFrom 0 n).map (fun i => (a0 + 8 * i, i))

/-- A leaf with another frame and tier. -/
def retarget (pte frame tier : Nat) : Nat :=
  pte - bits pte 55 16 * 65536 - bits pte 12 11 * 2048 + frame * 65536 + tier * 2048

/-- A table of a process names one of `n` frames from `frame` on, or is one (R269). -/
def frameUsed (s : State) (frame n : Nat) : Bool :=
  s.procs.any (fun e => match e.2 with
    | some p => (tablesOf s 4 (bits p.ptbase.toNat 51 12)).any (fun t => decide (frame ≤ t ∧ t < frame + n) ||
        (upFrom 0 512).any (fun i =>
          let pte := s.le (t * 4096 + 8 * i) 8
          bit pte 0 && decide (bits pte 55 16 < frame + n ∧ frame < bits pte 55 16 + leafBytes (bits pte 14 13) / 4096)))
    | none => false)

/-- A frame stands on a free-frame stack (R392). -/
def frameStacked (s : State) (frame n : Nat) : Bool :=
  (upFrom 0 8).any (fun d => (upFrom 0 2).any (fun tier => (upFrom 0 (rd 0 (s.die d).ffcnt tier)).any (fun i =>
    let f := s.le ((s.dreg (0xF00000040000 + d * 0x100 + tier * 0x20)).toNat + 8 * i) 8
    decide (frame ≤ f ∧ f < frame + n))))

/-- The move is one of R287: between the tiers 0 and 1 of this device, or between this device's tiers 0 and 1 and a peer that a route
leads to. -/
def moveAllowed (s : State) (old frame tier : Nat) (between : Bool) : Bool :=
  let here (pa : Nat) : Bool := inTier0 pa || inTier1 pa
  inTier tier (frame * 4096) &&
  (if between then
    ((here (old * 4096) && decide (tier = 3) && !routeLost s (frame * 4096)) ||
      (inTier3 (old * 4096) && decide (tier ≤ 1) && !routeLost s (old * 4096))) &&
      !s.moves.any (fun m => m.frame == old && m.settledAt.isSome)
  else here (old * 4096) && decide (tier ≤ 1))

/-- A page moved (R287): its cached copies leave, its bytes are copied, its entries written. The part takes a frame that no table
names and that stands on no free-frame stack (DESIGN CHOICE, log 187); a move without such a frame, one without a route, and one
whose copy reads poison, is abandoned (R455). `peer` says that the move is between devices. In host-assisted migration mode this
step is the host's request. -/
def movePage (s : State) (pteA frame tier peer : Nat) : State :=
  match movable s pteA with
  | none => s
  | some (old, n) =>
    let between := decide (peer ≠ 0)
    let bytes := n * 4096
    if frame % n ≠ 0 ∨ rangeOf (frame * 4096) ≠ rangeOf (frame * 4096 + bytes - 1) ∨
        moveAllowed s old frame tier between = false ∨ frameUsed s frame n = true ∨ frameStacked s frame n = true ∨
        (upFrom old n).any (fun f => procsOfTable s f ≠ []) = true then s
    else match badByte s (old * 4096) bytes with
    | some b => (procsOfTable s (pteA / 4096)).foldl (fun s a => faultOf s a b) s
    | none =>
      let s1 := (upFrom old n).foldl recallFrame s
      let s2 := s1.putBytes (frame * 4096) (rdMany unlistedByte s1.mem (old * 4096) bytes)
      let s3 := (leafEntries pteA n).foldl (fun s e =>
        outsideWrite s e.1 (toLe 8 (retarget (s.le e.1 8) (frame + e.2) tier))) s2
      followMoves (if between then noteMove s3 old frame else keepRecord s3 old frame) (old * 4096) (frame * 4096) bytes

/-- PAGE_MOVE. -/
def execPageMove (pte frame tier peer : Nat) (s : State) : Host.Outcome State Fault Refusal :=
  .next (movePage s pte frame tier peer)

/-- SETTLE_EXPIRY: after 50 ms a settled page may move between devices again. -/
def execSettleExpiry (frame : Nat) (s : State) : Host.Outcome State Fault Refusal :=
  .next { s with moves := s.moves.map (fun m => match m.settledAt with
    | some t => if m.frame = frame ∧ t + 50000 * usCycles ≤ s.cycle then ⟨m.frame, [], none, []⟩ else m
    | none => m) }

end Sys2Proof.Machine
end

