-- ==== Sys2Proof/Machine/EvRas.lean ====
section
/-! DEFINITION. Machine/EvRas.lean: device faults and the discard of work (R427 to R430), storage errors and retirement (R496
to R499), lost routes (R474, R479 to R483) and the links (R393, R394, R481). An event whose occasion is not there leaves
the state as it is. -/

namespace Sys2Proof.Machine

/-! Discarding the work of a context (R428 to R430). -/

/-- The launches with work in flight of a process: threads, packets, engine commands, tiles, reductions. -/
def launchesInFlight (s : State) (asid : Nat) : List Nat :=
  let cmds (y : EngineSt) : List Cmd := y.cmds ++ y.fly ++ y.tiles ++ (y.done ++ y.stuck).map (fun r => r.cmd)
  distinct
    ((s.slots.filter (fun e => decide ((e.2.res = .full ∨ e.2.res = .light) ∧ e.2.asidN = asid))).map (fun e => e.2.task.launch) ++
     s.cores.flatMap (fun c => (c.2.runq.filter (fun p => decide (p.sys.asid.toNat = asid))).map (fun p => p.task.launch)) ++
     s.engines.flatMap (fun e => ((cmds e.2).filter (fun c => c.asid == asid)).map (fun c => c.task.launch)) ++
     (s.reds.filter (fun r => r.asid == asid)).map (fun r => r.task.launch) ++
     (s.replays.filter (fun p => p.red.asid == asid)).map (fun p => p.red.task.launch) ++
     s.clusters.flatMap (fun c => (c.2.packets ++ c.2.tiles.flatMap (fun t => t.held)).filterMap (fun p =>
       if p.asid = asid then some p.task.launch else none)))

/-- A thread stopped without a trap (R429): its slot is vacated, its lease returns, its launch counts it. A pass of it that waits
ends the partner's, and so does its loss the pass of a partner that waits for it (R472). -/
def stopThread (s : State) (k : Nat) : State :=
  let x := s.slot k
  let partner := pairCore x.sys.pairp
  let s1 := if x.pairSince.isSome then abortPartner (s.onSlot k (fun y => { y with pairSince := none })) (coreOf k) partner 4
    else match waitingAt s partner with
      | some j => if pairOn x.sys.pairp && pairCore (s.slot j).sys.pairp == coreOf k then abortWaiting s j 4 else s
      | none => s
  endThread (creditPool s1 k (leaseUnits x.sys.lease)) k

/-- What a packet's set-aside work has reserved goes back. -/
def dropHeld (s : State) (cluster : Nat) (l : List QEntry) : State :=
  l.foldl (fun s e => match e.work with
    | .release r => unrelease cluster s r
    | _ => s) s

/-- The packets of a process leave a run queue. -/
def dropPackets (s : State) (core asid : Nat) : State :=
  let mine (p : Packet) : Bool := decide (p.sys.asid.toNat = asid)
  ((s.core core).runq.filter mine).foldl (fun s p => launchEnds (dropHeld s (core / 192) p.held) p.task.launch)
    (s.onCore core (fun c => { c with runq := c.runq.filter (fun p => !mine p) }))

/-- The commands and tiles of a process leave an engine; a job card's task, which has not been dispatched, stays in its queue
(R429). -/
def dropCommands (s : State) (e asid : Nat) : State :=
  let keep (c : Cmd) : Bool := c.asid != asid
  let keepR (r : ResultRec) : Bool := r.cmd.asid != asid
  s.onEngine e (fun y => { y with
    cmds := y.cmds.filter keep, fly := y.fly.filter keep, tiles := y.tiles.filter keep
    done := y.done.filter keepR, stuck := y.stuck.filter keepR
    pages := y.pages.filter (fun p => !(y.fly.any (fun c => c.seq == p.cmd && !keep c))) })

/-- The commit packets of a process leave a cluster. -/
def dropTilePackets (s : State) (cluster asid : Nat) : State :=
  showStuck (s.onCluster cluster (fun c => { c with
    packets := c.packets.filter (fun p => p.asid != asid)
    tiles := c.tiles.map (fun t => if t.asid = asid then { t with held := [] } else t) })) cluster

/-- A core whose work was discarded is scrubbed: its scratchpad and its matrix state (R398, R429). -/
def scrubAll (s : State) (core : Nat) : State :=
  (scrubCore s core).onCore core (fun c => { c with acc := [], blk := [], blkBad := false, sB := 0, run := none })

/-- The cores whose scratchpad and matrix state belong to discarded threads: those of full threads and of their segments, and those
of light threads and run-queue packets where the process owns the core (R429). -/
def discardedCores (s : State) (asid : Nat) (slots : List Nat) : List Nat :=
  let mine (c : Nat) : Bool := decide ((s.core c).owner = some asid)
  distinct ((slots.filter (fun k => decide ((s.slot k).res = .full))).flatMap (fun k => (k :: (s.slot k).vec.segs).map coreOf) ++
    (slots.map coreOf).filter mine ++
    (keysOf (s.cores.filter (fun c => c.2.runq.any (fun p => decide (p.sys.asid.toNat = asid))))).filter mine)

/-- All work in flight of a process is discarded, and the launches it belongs to fail (R429, R430). -/
def discardContext (s : State) (asid code reason : Nat) (addr : Word) (kind unit : Nat) : State :=
  let slots := (s.slots.filter (fun e =>
    decide ((e.2.res = .full ∨ e.2.res = .light) ∧ e.2.asidN = asid))).map Prod.fst
  let cores := discardedCores s asid slots
  let launches := launchesInFlight s asid
  let s1 := slots.foldl stopThread s
  let s2 := (keysOf s1.cores).foldl (fun s c => dropPackets s c asid) s1
  let s3 := (keysOf s2.engines).foldl (fun s e => dropCommands s e asid) s2
  let s4 := (keysOf s3.clusters).foldl (fun s c => dropTilePackets s c asid) s3
  let s5 := { s4 with
    reds := s4.reds.filter (fun r => r.asid != asid), replays := s4.replays.filter (fun r => r.red.asid != asid) }
  let s6 := cores.foldl scrubAll s5
  launches.foldl (fun s n => failLaunch s n code reason addr kind unit) s6

/-- Replay tasks of a process that wait in a queue leave it: each counts as ended, and its unit of capacity is back (R459). -/
def dropReplayTasks (s : State) (asid key : Nat) : State :=
  match s.queue key with
  | none => s
  | some q =>
    let mine := if keyAsid key = asid then q.tasks.filter (fun t => t.replay) else []
    if mine = [] then s else
    let s1 := s.onQueue key (fun q => { q with tasks := q.tasks.filter (fun t => !t.replay) })
    settle (mine.foldl (fun s t => launchEnds (unitBack s (q.home * 3) key q t) t.launch) s1) key

/-- The ecause of a record whose cause the spec does not name: a free value among those of R423 that are no device fault. -/
def openCause (free : Nat) : Nat :=
  let n := Config.freeNat free % 22
  if n < 7 then n + 1 else if n < 19 then n + 9 else n + 11

/-- The destruction of a process. Its run-queue packets are discarded with a fault record each (R54); its reductions that have
not performed, and the replays that have not started, are discarded as logged (R459), an orphan's record having been written
when its fault was found (R456); its resident threads stop, and their leases return (R380); its translations go (R410). The
spec gives these records no ecause and no reason (free values), and the rest of its work in flight goes as R429 says
(DESIGN CHOICE, log 127). -/
def destroyProcess (s : State) (asid : Nat) : State :=
  let code := openCause s.free
  let reason := Config.freeNat (s.free + 1) % 256
  let record (s : State) (addr : Word) (origin : Nat) (t : TaskInfo) (kind unit : Nat) : State :=
    logRecord s ⟨addr, einfoOf reason 0 false 0, 0, origin, asid, code, 4, t.index, t.queue, kind, unit⟩
  let packets := s.cores.flatMap (fun c => c.2.runq.filter (fun p => decide (p.sys.asid.toNat = asid)))
  let s1 := packets.foldl (fun s p => record s 0 0xFFFFFFFF p.task 6 0) { s with free := s.free + 2 }
  let s2 := (s1.reds.filter (fun r => r.asid == asid)).foldl (fun s r => record s r.va r.slot r.task 4 (dieOf r.slot)) s1
  let s3 := { s2 with
    reds := s2.reds.filter (fun r => r.asid != asid), replays := s2.replays.filter (fun p => p.red.asid != asid) }
  let s4 := discardContext ((keysOf s3.queues).foldl (fun s key => dropReplayTasks s asid key) s3) asid code reason 0 6 0
  { s4 with translations := s4.translations.filter (fun t => t.asid != asid), procs := wr none s4.procs asid none }

/-- The record of a device fault: flag bits 1 and 2 (R424, R479). -/
def faultRecord (s : State) (asid code reason : Nat) (addr : Word) (kind unit : Nat) : State :=
  eventRecord s asid code reason addr 6 kind unit .none

/-- A device fault of one process: its record, and the discard. -/
def faultContext (s : State) (asid code reason : Nat) (addr : Word) (kind unit : Nat) : State :=
  discardContext (faultRecord s asid code reason addr kind unit) asid code reason addr kind unit

/-- A device fault of several processes under one record, which names the first of them (DESIGN CHOICE, log 188). -/
def faultAll (s : State) (asids : List Nat) (code reason : Nat) (kind unit : Nat) : State :=
  asids.foldl (fun s a => discardContext s a code reason 0 kind unit) (faultRecord s (asids.headD 0) code reason 0 kind unit)

/-- Processes with state in a commit unit: packets on their way or held, and tiles (R428). -/
def asidsAtCommit (s : State) (cluster : Nat) : List Nat :=
  let c := s.cluster cluster
  c.packets.map (fun p => p.asid) ++ c.tiles.flatMap (fun t => t.asid :: t.held.map (fun p => p.asid))

/-- Processes with threads, packets, engine commands, commit packets, tiles or counter allowances at clusters that `f` names. -/
def asidsAtClusters (s : State) (f : Nat → Bool) : List Nat :=
  (s.slots.filter (fun e => f (clusterOf e.1) && decide (e.2.res = .full ∨ e.2.res = .light))).map (fun e => e.2.asidN) ++
  (s.cores.filter (fun c => f (c.1 / 192))).flatMap (fun c => c.2.runq.map (fun p => p.sys.asid.toNat)) ++
  s.engines.flatMap (fun e => (e.2.cmds ++ e.2.fly ++ e.2.tiles).filterMap (fun c =>
    if f (clusterOf c.slot) || c.spans.any (fun p => (p.1.win.map f).getD false) then some c.asid else none)) ++
  ((keysOf s.clusters).filter f).flatMap (asidsAtCommit s) ++
  (s.clusters.filter (fun c => f c.1)).flatMap (fun c => c.2.allow.filterMap (fun a => (s.ctr a.1).map (fun c => c.asid)))

/-- The tracked leaves of a process's tables: their first frame and their frames. -/
def trackedLeaves (s : State) (ptbase : Word) : List (Nat × Nat) :=
  (tablesOf s 4 (bits ptbase.toNat 51 12)).flatMap (fun t => (upFrom 0 512).filterMap (fun i =>
    let pte := s.le (t * 4096 + 8 * i) 8
    if bit pte 0 = true ∧ bits pte 3 1 ≠ 0 ∧ bit pte 5 = true then some (bits pte 55 16, leafBytes (bits pte 14 13) / 4096) else none))

/-- Processes with a tracked line cached whose home is a die: those whose tables map its frame. -/
def asidsOfLines (s : State) (die : Nat) : List Nat :=
  let frames := distinct ((s.dir.filter (fun e => homeOf (e.1 * 64) == die)).map (fun e => e.1 / 64))
  if frames = [] then []
  else s.procs.filterMap (fun e => match e.2 with
    | some p => if (trackedLeaves s p.ptbase).any (fun l => frames.any (fun f => decide (l.1 ≤ f ∧ f < l.1 + l.2))) then some e.1 else none
    | none => none)

/-- Processes with stores that open chunks hold for a physical range, outside the windows. -/
def asidsOfStores (s : State) (f : Nat → Bool) : List Nat :=
  s.slots.filterMap (fun e => if e.2.chunk.stores.any (fun r => r.kind != 1 && f r.key) then some e.2.asidN else none)

/-- Processes with queues, counters, engine commands, tracked lines or stores to lines on a compute die. -/
def asidsAtDie (s : State) (die : Nat) : List Nat :=
  (s.queues.filterMap (fun e => e.2.bind (fun q => if q.home = die then some (keyAsid e.1) else none))) ++
  (s.ctrs.filterMap (fun e => e.2.bind (fun c => if homeOf e.1 = die then some c.asid else none))) ++
  (s.engines.filter (fun e => e.1 / 4 == die)).flatMap (fun e => (e.2.cmds ++ e.2.fly ++ e.2.tiles).map (fun c => c.asid)) ++
  asidsOfLines s die ++ asidsOfStores s (fun pa => homeOf pa == die)

/-- Processes with any work in the module. -/
def asidsAll (s : State) : List Nat := distinct (asidsAtClusters s (fun _ => true) ++ (upFrom 0 9).flatMap (asidsAtDie s))

/-! Watchdog and uncorrected errors (R428, R495, R496). -/

/-- Cycles of 100 ms. -/
def watchCycles : Nat := 100000 * usCycles

/-- The vector unit of a slot has an entry that waits for nothing, and has finished none for 100 ms (R428): an entry that waits for a
queue, a span, a partner or a protected chunk does not count. -/
def vectorStuck (s : State) (k : Nat) (x : Slot) : Bool :=
  decide (x.vqSince + watchCycles ≤ s.cycle) && x.vfault.isNone && (match x.vq with
    | [] => false
    | e :: _ => match e.work, runEntry s k e with
      | .grant _ _ _ _, _ => false
      | _, .blocked _ _ => false
      | _, _ => true)

/-- An engine has a command of a process that may go on, and has moved none for 100 ms. -/
def engineStuck (s : State) (asid : Nat) (e : Nat × EngineSt) : Bool :=
  decide (e.2.since + watchCycles ≤ s.cycle) && (ready e.2).any (fun p => p.2.asid == asid)

/-- A commit unit has a packet of a process before it, and has taken none for 100 ms; a packet that it holds for a ticket, and one
that its full buffer keeps a slot from sending, waits for software (R487). -/
def commitStuck (s : State) (asid : Nat) (c : Nat × ClusterSt) : Bool :=
  decide (c.2.commitAt + watchCycles ≤ s.cycle) && c.2.packets.any (fun p => p.asid == asid)

/-- A chunk of a slot has closed and waits for its homes for 100 ms, the slot not issuing meanwhile. -/
def homeStuck (s : State) (x : Slot) : Bool :=
  x.chunk.closed && !x.chunk.back && (match x.last with | some n => decide (n + watchCycles ≤ s.cycle) | none => false)

/-- Some unit that works for a process has made no progress for 100 ms (R428). -/
def watchdogDue (s : State) (asid : Nat) : Bool :=
  s.slots.any (fun e => decide ((e.2.res = .full ∨ e.2.res = .light) ∧ e.2.asidN = asid) && (vectorStuck s e.1 e.2 || homeStuck s e.2)) ||
  s.engines.any (engineStuck s asid) || s.clusters.any (commitStuck s asid)

/-- WATCHDOG_EXPIRY: a unit that works for a process made no progress for 100 ms. -/
def execWatchdogExpiry (asid : Nat) (s : State) : Host.Outcome State Fault Refusal :=
  .next (if watchdogDue s asid then faultContext s asid 0x1D 1 0 6 0 else s)

/-- The 64-bit word that holds a byte is poisoned. -/
def poisonWord (s : State) (a : Nat) : State :=
  { s with poison := (upFrom (a - a % 8) 8).foldl (fun m b => wr false m b true) s.poison }

/-- The commit unit's tiles of a process go with an uncorrectable error in a tile buffer (R491). -/
def dropTiles (s : State) (asid : Nat) : State :=
  (keysOf s.clusters).foldl (fun s c =>
    showStuck (s.onCluster c (fun y => { y with tiles := y.tiles.filter (fun t => t.asid != asid) })) c) s

/-- The slot of a process that met an error in a core: on the core that owns a window byte, where the address is one, and otherwise
the first of the process (DESIGN CHOICE, log 189). -/
def errorSlot (s : State) (asid addr : Nat) : Option Nat :=
  (s.slots.find? (fun e => decide ((e.2.res = .full ∨ e.2.res = .light) ∧ e.2.asidN = asid ∧
    (addr < 2 ^ 52 ∨ coreOf e.1 = windowCore ((addr - 2 ^ 52) / 2 ^ 26) ((addr - 2 ^ 52) % 2 ^ 26))))).map Prod.fst

/-- A device fault of one process that one of its slots met: the record names the slot and its task (R424). -/
def faultSlot (s : State) (asid reason addr : Nat) : State :=
  let a := word addr
  match errorSlot s asid addr with
  | none => faultContext s asid 0x1C reason a 0 0
  | some k =>
    let t := (s.slot k).task
    discardContext (logRecord s ⟨a, einfoOf reason 0 false 0, 0, k, asid, 0x1C, 6, t.index, t.queue, 0, 0⟩) asid 0x1C reason a 0 0

/-- UNCORRECTED_ERROR: reason 1 memory, 2 register files, 3 scratchpad, 4 accumulator or macro, 5 a shared structure of the
home of `addr`, 6 a tile buffer of the commit unit of cluster `addr`, 7 an instruction or sampler cache. An access whose route is
lost has ecause 0x21 instead (R482, R483). -/
def execUncorrectedError (asid reason addr : Nat) (s : State) : Host.Outcome State Fault Refusal :=
  .next (
    let a := word addr
    if reason = 1 ∧ routeLost s addr = true then
      faultContext s asid 0x21 (if inTier3 addr then 2 else 3) a 5
        (if inTier3 addr then (addr - 0x8000000000000) / 0x200000000000 else addr / 2 ^ 48 % 2)
    else match reason with
    | 1 => faultContext (if (s.die (homeOf addr)).reachable then poisonWord s addr else s) asid 0x1C 1 a 4 (homeOf addr)
    | 3 => faultSlot (poisonWord s addr) asid 3 addr
    | 5 =>
      let s1 := faultRecord s asid 0x1C 5 a 4 (homeOf addr)
      (distinct (asid :: asidsAtDie s (homeOf addr))).foldl (fun s p => discardContext s p 0x1C 5 a 4 (homeOf addr)) s1
    | 6 =>
      let l := distinct (asid :: asidsAtCommit s addr)
      l.foldl dropTiles (l.foldl (fun s p => discardContext s p 0x1C 6 0 2 addr) (faultRecord s asid 0x1C 6 0 2 addr))
    | r => faultSlot s asid r addr)

/-! Corrected errors, retirement, scrubbing (R496 to R499). -/

/-- CORRECTED_ERROR: the count saturates, and celast takes what is known of the error (R497). -/
def execCorrectedError (die : Nat) (info : Word) (s : State) : Host.Outcome State Fault Refusal :=
  .next { s with
    cecnt := wr 0 s.cecnt die (min (2 ^ 32 - 1) (rd 0 s.cecnt die + 1))
    celast := wr 0 s.celast die (info &&& 0xF01FFFFFFFFFFFFF) }

/-- One more retired way, lane or core in retcnt of a die: the field from bit `lo` of `w` bits, saturating. -/
def countRetired (s : State) (die lo w : Nat) : State :=
  let r := rd 0 s.retcnt die
  let f := bits r (lo + w - 1) lo
  { s with retcnt := wr 0 s.retcnt die (r - f * 2 ^ lo + (min (2 ^ w - 1) (f + 1)) * 2 ^ lo) }

/-- A core is retired (R498, R499): it takes no new thread, and has no lane once no thread remains. -/
def retireCore (s : State) (core : Nat) : State :=
  if (s.core core).retired then s
  else settleCore (countRetired (s.onCore core (fun c => { c with retired := true })) (core / 576) 24 8) core

/-- A lane is retired at once; the last live lane takes its core with it (R499). -/
def retireLane (s : State) (core lane : Nat) : State :=
  let c := s.core core
  if 32 ≤ lane ∨ c.lanemap.getLsbD lane = false then s
  else if liveOf c = 1 then retireCore s core
  else countRetired (s.onCore core (fun c => { c with lanemap := c.lanemap &&& ~~~(1#32 <<< lane) })) (core / 576) 16 8

/-- A way of a set of an instruction cache is retired: its line leaves. -/
def retireIcacheWay (s : State) (core set : Nat) : State :=
  let s1 := s.onCore core (fun c =>
    let ways := wr 0 c.ways set (min 4 (rd 0 c.ways set + 1))
    let mine := c.icache.filter (fun l => l.set == set)
    let old := mine.take (mine.length - (4 - rd 0 ways set))
    { c with ways := ways, icache := c.icache.filter (fun l => !old.contains l) })
  countRetired s1 (core / 576) 0 16

/-- PERSISTENT_ERROR (R498): kind 0 a lane of the core, 1 a way of the cluster's L1, 2 of the die cache, 3 of the core's
instruction cache, 4 of its sampler cache, 5 the scratchpad, accumulators, macros or scalar registers, 6 a DRAM word. -/
def execPersistentError (core kind unit : Nat) (s : State) : Host.Outcome State Fault Refusal :=
  .next (match kind with
    | 0 => retireLane s core unit
    | 1 => countRetired (s.onCluster (core / 192) (fun c => { c with ways := wr 0 c.ways unit (rd 0 c.ways unit + 1) }))
        (core / 576) 0 16
    | 2 => countRetired (s.onDie (core / 576) (fun d => { d with ways := wr 0 d.ways unit (rd 0 d.ways unit + 1) }))
        (core / 576) 0 16
    | 3 => retireIcacheWay s core unit
    | 4 => countRetired (s.onCore core (fun c => { c with ways := wr 0 c.ways 1000 (rd 0 c.ways 1000 + 1) })) (core / 576) 0 16
    | 5 => retireCore s core
    | _ => s)

/-- Every context of a core has passed a grant point since its lanes fell (R499). -/
def grantsPassed (s : State) (core : Nat) : Bool :=
  (contextsOf s core).all (fun k => decide ((s.slot k).vec.live ≤ liveOf (s.core core)))

/-- LANE_SLICE_FENCE: the slices of retired lanes are fenced once every context has passed a grant point. -/
def execLaneSliceFence (core : Nat) (s : State) : Host.Outcome State Fault Refusal :=
  .next (if grantsPassed s core then
      let s1 := s.onCore core (fun c => { c with fenced := c.lanemap })
      (keysOf s1.slots).foldl (fun s k =>
        if (k :: (s.slot k).vec.segs).any (fun j => coreOf j == core) then fenceRegs s k else s) s1
    else s)

/-- MACRO_SCRUB: a flipped cell is corrected, and counted, or poisons the block. -/
def execMacroScrub (core cell : Nat) (ok : Bool) (s : State) : Host.Outcome State Fault Refusal :=
  if ok then execCorrectedError (core / 576) (word (6 * 2 ^ 60 + core % 576 * 65536 + cell % 65536)) s
  else .next (s.onCore core (fun c => { c with blkBad := true }))

/-! Lost routes (R474, R479 to R483). -/

/-- RECALL_HOLDER_TIMEOUT: a holder that has not returned its allowance 12 µs after the recall is dropped from the total, and its cluster counts as
lost (R428, R474). -/
def execRecallHolderTimeout (ctr cluster : Nat) (s : State) : Host.Outcome State Fault Refusal :=
  .next (match s.ctr ctr with
    | some c =>
      if c.recalling = true ∧ c.away.contains (cluster, none) = true ∧ c.since + 12 * usCycles ≤ s.cycle then
        let s1 := (dropAllow s cluster ctr).onCtr ctr (fun c => { c with
          away := c.away.erase (cluster, none), holders := c.holders.filter (· != cluster) })
        faultAll s1 (distinct (asidsAtClusters s1 (fun c => c == cluster))) 0x21 4 4 cluster
      else s
    | none => s)

/-- Bits of rdy of a die and its clusters (R389). -/
def dieBits (die : Nat) : Word := (1#64 <<< (24 + die)) ||| (7#64 <<< (3 * die))

/-- BOND_LINK_FAILURE: retraining, with the traffic on a second path, changes only time; the failure is the die's last from now on
(R479). -/
def execBondLinkFailure (die : Nat) (s : State) : Host.Outcome State Fault Refusal :=
  .next { s with bondFailed := wr none s.bondFailed die (some s.cycle) }

/-- The last failure of a die's links is 1 ms ago. -/
def bondLost (s : State) (die : Nat) : Bool :=
  match rd none s.bondFailed die with
  | some n => decide (n + 1000 * usCycles ≤ s.cycle)
  | none => false

/-- DIE_UNREACHABLE (R479), 1 ms after its last path failed: the bits go, one record is written, and the contexts with work there are
discarded; its queues are resident again only by a qctl operation (R480). -/
def execDieUnreachable (die : Nat) (s : State) : Host.Outcome State Fault Refusal :=
  .next (if (s.die die).reachable = false ∨ 8 ≤ die ∨ bondLost s die = false then s
    else
      let asids := distinct (asidsAtClusters s (fun c => c / 3 == die) ++ asidsAtDie s die)
      let s1 := { s with rdy := s.rdy &&& ~~~dieBits die }
      let s2 := faultAll s1 asids 0x21 1 5 die
      let s3 := s2.onDie die (fun d => { d with reachable := false, pending := [] })
      { s3 with queues := s3.queues.map (fun e => (e.1, e.2.map (fun q =>
        if q.home = die then { q with resident := false, stamp := 0, lost := true } else q))) })

/-- DIE_RETURN (R480): retrained, checked and scrubbed, the die's memory reads zero, and its bit sets again; those of its
clusters follow as each is checked and scrubbed (CLUSTER_READY, R390). -/
def execDieReturn (die : Nat) (s : State) : Host.Outcome State Fault Refusal :=
  .next (if (s.die die).reachable = true ∨ 8 ≤ die then s
    else
      let mine (a : Nat) : Bool := decide (a < 2 ^ 52) && homeOf a == die && (inTier0 a || inTier1 a)
      let s1 := s.onDie die (fun d => { d with reachable := true, dcu := [] })
      { s1 with
        mem := delWhere mine s1.mem
        poison := delWhere mine s1.poison
        bondFailed := wr none s1.bondFailed die none
        rdy := s1.rdy ||| ((1#64 <<< (24 + die)) &&& ~~~s1.absent) })

/-- The memory sides of a command with their lengths: its record or its range, and behind its record its rows and its table (R353 to
R357). -/
def Cmd.reach (c : Cmd) : List (Side × Nat) :=
  (c.memSide, if c.code = 0 ∨ c.code = 4 ∨ c.tile.isSome then c.total else 64) ::
    (c.spans.map (fun p => (p.1.plus p.2.1, (p.2.2.1 - p.2.1).toNat)) ++
      (if c.tile.isNone ∧ (c.code = 2 ∨ c.code = 3) ∧ c.rec512 / 2 ^ 512 = 1 then [(⟨none, (c.f 63 0 : Nat)⟩, 4096)] else []))

/-- Processes with an access on its way to a physical range: of an engine command, a reduction, a load whose data has not arrived, an
instruction fetch, a store of an open chunk, or a request at a counter. -/
def outstandingTo (s : State) (f : Nat → Bool) : List Nat :=
  let hits (ptbase : Word) (x : Side × Nat) : Bool := x.1.win.isNone &&
    (upFrom 0 (x.2 / 4096 + 2)).any (fun i => match ctrAddr s ptbase (x.1.va + word (4096 * i)) with
      | some pa => f pa && decide (4096 * i ≤ x.2 + 4095)
      | none => false)
  s.engines.flatMap (fun e => (e.2.fly ++ e.2.cmds ++ e.2.tiles).filterMap (fun c =>
    if c.reach.any (hits c.ptbase) then some c.asid else none)) ++
  s.reds.filterMap (fun r => match ctrAddr s r.ptbase r.va with
    | some pa => if f pa then some r.asid else none
    | none => none) ++
  s.slots.filterMap (fun e => match e.2.wait with
    | .loadData _ _ key => if f key then some e.2.asidN else none
    | .ifetch _ line => if f (64 * line) then some e.2.asidN else none
    | _ => none) ++
  asidsOfStores s f ++
  s.ctrs.filterMap (fun e => e.2.bind (fun c =>
    if f e.1 ∧ c.asked ++ c.fifo ++ c.parked ≠ [] then some c.asid else none))

/-- PEER_UNREACHABLE: no trained link has reached the peer for 10 ms (R482). -/
def execPeerUnreachable (peer : Nat) (s : State) : Host.Outcome State Fault Refusal :=
  .next (if s.links.any (fun e => e.2 == some peer) = true ∨ s.cycle < rd 0 s.peerDown peer + 10000 * usCycles then s else
    let range (pa : Nat) : Bool := inTier3 pa && decide ((pa - 0x8000000000000) / 0x200000000000 = peer)
    let s1 := { s with peersLost := wr false s.peersLost peer true }
    faultAll s1 (distinct (outstandingTo s range)) 0x21 2 5 peer)

/-- BIRFEL_LINK_TRAINED: the peer that the link leads to is reachable (R482). -/
def execBirfelLinkTrained (link peer : Nat) (s : State) : Host.Outcome State Fault Refusal :=
  .next (if 12 ≤ link then s
    else { s with links := wr none s.links link (some peer), peersLost := wr false s.peersLost peer false })

/-- BIRFEL_LINK_DROP: the streams move to another link (R481); the peer of the last one is without a link from now on (R482). -/
def execBirfelLinkDrop (link : Nat) (s : State) : Host.Outcome State Fault Refusal :=
  .next (if 12 ≤ link then s
    else
      let s1 := { s with links := wr none s.links link none }
      match rd none s.links link with
      | some p => if s1.links.any (fun e => e.2 == some p) then s1 else { s1 with peerDown := wr 0 s1.peerDown p s1.cycle }
      | none => s1)

/-- BIRFEL_FLIT_REPLAY: a flit sent again changes only time (R393). -/
def execBirfelFlitReplay (_link : Nat) (s : State) : Host.Outcome State Fault Refusal := .next s

/-- PEER_FLAG_MESSAGE (R394): a flag performs once, when its number is above the last one of its stream. A stream's number
here names the sending device beside the slot, so that those of two devices differ; its data writes have been performed when
the message is (Birfel keeps their order, R393). -/
def execPeerFlagMessage (stream seq addr : Nat) (value : Word) (s : State) : Host.Outcome State Fault Refusal :=
  .next (if rd 0 s.streams stream ≤ seq then
      { (outsideWrite s addr (toLe 8 value.toNat)) with streams := wr 0 s.streams stream (seq + 1) }
    else s)

/-- A host port's lines leave the host sharer; those it held modified read as poisoned (R483). -/
def dropHostLines (s : State) : State :=
  let host := s.dir.filter (fun e => e.2.sharers.contains 24)
  host.foldl (fun s e =>
    let s1 := dirEvict s e.1 24
    if e.2.st = .M then { s1 with poison := (upFrom (64 * e.1) 64).foldl (fun m b => wr false m b true) s1.poison } else s1) s

/-- HOST_PORT_LINK_DOWN (R483). -/
def execHostPortLinkDown (port : Nat) (s : State) : Host.Outcome State Fault Refusal :=
  .next (if 2 ≤ port ∨ s.rdy.getLsbD (40 + port) = false then s
    else
      let range (pa : Nat) : Bool := inTier2 pa && decide (pa / 2 ^ 48 % 2 = port)
      let asids := distinct (outstandingTo s range)
      let s1 := { s with rdy := s.rdy &&& ~~~(1#64 <<< (40 + port)) }
      let s2 := if Config.portCxl port then dropHostLines s1 else s1
      asids.foldl (fun s a => faultContext s a 0x21 3 0 5 port) s2)

end Sys2Proof.Machine
end

