-- ==== Sys2Proof/Machine/EvPower.lean ====
section
/-! DEFINITION. Machine/EvPower.lean: the power and thermal loops (R374 to R385, R494, R495). What a measurement makes the
module controller choose within the bounds of the spec is a free value. An event whose occasion is not there leaves the
state as it is. -/

namespace Sys2Proof.Machine

/-- Every cluster changed by `f`. -/
def onClusters (s : State) (f : Nat → ClusterSt → ClusterSt) : State :=
  (upFrom 0 24).foldl (fun s c => s.onCluster c (f c)) s

/-! The slow loop (R379, R382, R383). -/

/-- The lower of two levels in each domain of a pwreq layout. -/
def minLevels (a b : Nat) : Nat :=
  min (bits a 2 0) (bits b 2 0) + 8 * min (bits a 5 3) (bits b 5 3) + 64 * min (bits a 8 6) (bits b 8 6)

/-- The caps of a cluster at a period: what the limits of power and current allow is open; above 105 °C at most level 3; level
0 while it is throttled (R382, R494). -/
def periodCap (s : State) (c : Nat) (y : ClusterSt) (temp : Nat) : Nat :=
  let allowed := Config.freeNat (s.free + c) % 512
  let cap := if assisted s c 5 then minLevels y.cap allowed else allowed
  if y.tooHot then 0 else if 105 < temp then minLevels cap 0xDB else cap

/-- The colour of a cluster (R383). -/
def colourOf (c : Nat) : Bool := decide ((c / 6 + c % 6) % 2 = 1)

/-- Summed headroom of the ready clusters of a colour, in degrees (R383). -/
def colourHeadroom (s : State) (colour : Bool) : Int :=
  ((upFrom 0 24).map (fun c => if clusterReadyBit s c && colourOf c == colour then 105 - ((s.cluster c).temp : Int) else 0)).foldl
    (· + ·) 0

/-- The clusters marked open or closed (R383, R385, R494). -/
def markClusters (s : State) (m : Meas) : State :=
  let hot (t : Nat) : Bool := (upFrom 0 24).any (fun c => decide (t < (s.cluster c).temp))
  let all := decide (m.watts ≤ 1200) && !hot 95
  let h0 := colourHeadroom s false
  let h1 := colourHeadroom s true
  let colour := if all ∨ h0 = h1 then s.colour else decide (h0 < h1)
  onClusters { s with colour := colour } (fun c y =>
    if assisted s c 5 = true then y
    else { y with isOpen := !y.tooHot && (if all then clusterReadyBit s c || y.isOpen
      else colourOf c == colour && decide (y.temp ≤ 100)) })

/-- The boost pool of a partition grows by what the controller chooses, within its bounds (R382, R385). -/
def refillPool (s : State) (m : Meas) (p : Nat) : State :=
  let stop := decide (1520 < m.module ∨ 1330 < m.watts ∨ 1805 < m.amps) ||
    (upFrom 0 24).any (fun c => clusterReadyBit s c && decide (100 < (s.cluster c).temp))
  if stop || (rd 0 s.hmode p).getLsbD 5 then s
  else
    let now := rd 0 s.pool p
    { s with pool := wr 0 s.pool p (now + Config.freeNat s.free % (poolMax - min poolMax now + 1)), free := s.free + 1 }

/-- A lease request that waits is granted at the next period or lapses (R379). -/
def grantLease (s : State) (k : Nat) : State :=
  let y := (s.slot k).sys
  if y.leaseAsked = false then s
  else if assisted s (clusterOf k) 5 = true ∨ leaseTime y.lease ≠ 0 then onSys s k (fun y => { y with leaseAsked := false })
  else
    let lvl := min (pwAsked y.pwreq) (budLvl y.pwbud)
    let time := if lvl < 6 then 0 else min (budTime y.pwbud) (poolCovers s k lvl)
    onSys (drawPool s k (time * leaseWeight lvl)) k (fun y => { y with
      lease := if time = 0 then y.lease else leaseOf lvl time, leaseAsked := false })

/-- A period of the slow loop. -/
def slowLoop (s : State) (m : Meas) : State :=
  let s1 := onClusters { s with railHold := false, power := [m.module, m.watts, m.rail] } (fun c y =>
    let t := m.temps.getD c y.temp
    { y with cap := periodCap s c y t, temp := t, calm := if s.railHold then s.cycle else y.calm })
  let s2 := { s1 with free := s.free + 24 }
  let s3 := refillPool s2 m 0
  let s4 := if s.modctl.getLsbD 2 then refillPool s3 m 1 else s3
  (keysOf s4.slots).foldl grantLease (markClusters s4 m)

/-- The module controller runs: the root has verified its image (R396). -/
def controllerRuns (s : State) : Bool := s.rdy.getLsbD 35

/-- SLOW_LOOP_PERIOD. -/
def execSlowLoopPeriod (m : Meas) (s : State) : Host.Outcome State Fault Refusal :=
  .next (if controllerRuns s then slowLoop s m else s)

/-- LEASE_EXPIRY: a lease in its last microsecond ends (R380). -/
def execLeaseExpiry (slot : Nat) (s : State) : Host.Outcome State Fault Refusal :=
  .next (if leaseTime (s.slot slot).sys.lease ≤ 1 then onSys s slot (fun y => { y with lease := 0 }) else s)

/-! The step of a cluster (R381). -/

/-- DROOP_DETECTED. -/
def execDroopDetected (cluster mv : Nat) (s : State) : Host.Outcome State Fault Refusal :=
  .next (if mv ≤ 30 then s
    else s.onCluster cluster (fun y => { y with step := if 60 < mv then 8 else max 8 (y.step - 8), calm := s.cycle }))

/-- RAIL_MONITOR_HOLD. -/
def execRailMonitorHold (amps : Nat) (s : State) : Host.Outcome State Fault Refusal :=
  .next (if amps ≤ 1900 then s
    else onClusters { s with railHold := true } (fun _ y => { y with step := min y.step 16 }))

/-- Scalar cycles of 1,024 lane cycles at the nominal levels (R374, R381). -/
def riseCycles : Nat := 2048

/-- STEP_RISE. -/
def execStepRise (cluster : Nat) (s : State) : Host.Outcome State Fault Refusal :=
  .next (s.onCluster cluster (fun y =>
    if s.railHold = false ∧ y.tooHot = false ∧ y.step < 32 ∧ y.calm + riseCycles ≤ s.cycle then
      { y with step := y.step + 8, calm := s.cycle }
    else y))

/-! Registers (R384, R385). -/

/-- CCAP_WRITE: open and cap in host-assisted mode; a throttled cluster keeps its own. -/
def execCcapWrite (part cluster : Nat) (value : Word) (s : State) : Host.Outcome State Fault Refusal :=
  .next (match powerCluster s part cluster with
    | none => s
    | some c =>
      if assisted s c 5 = false then s
      else s.onCluster c (fun y => if y.tooHot then y else { y with cap := fieldOf value 8 0, isOpen := value.getLsbD 9 }))

/-! Emergencies (R494, R495). A register reports the temperatures of the last period (R503), which these leave as they are. -/

/-- CLUSTER_OVERTEMP. -/
def execClusterOvertemp (cluster temp : Nat) (s : State) : Host.Outcome State Fault Refusal :=
  .next (if temp ≤ 110 then s
    else s.onCluster cluster (fun y => { y with tooHot := true, step := 8, cap := 0, isOpen := false }))

/-- OVERTEMP_CLEAR: the next period sets the caps and the marking. -/
def execOvertempClear (cluster temp : Nat) (s : State) : Host.Outcome State Fault Refusal :=
  .next (if 100 ≤ temp then s
    else s.onCluster cluster (fun y => if y.tooHot then { y with tooHot := false, calm := s.cycle } else y))

/-- THERMAL_TRIP: the cluster stops, its bit clears, and the contexts with work on it are discarded. -/
def execThermalTrip (cluster temp : Nat) (s : State) : Host.Outcome State Fault Refusal :=
  .next (if temp ≤ 120 ∨ 24 ≤ cluster then s
    else
      let asids := distinct (asidsAtClusters s (fun c => c == cluster))
      let s1 := { s with rdy := s.rdy &&& ~~~(1#64 <<< cluster) }
      faultAll (s1.onCluster cluster (fun y => { y with stopped := true })) asids 0x1D 2 6 cluster)

/-- THERMAL_TRIP_RETURN: the cluster may pass its bring-up again (CLUSTER_READY). -/
def execThermalTripReturn (cluster temp : Nat) (s : State) : Host.Outcome State Fault Refusal :=
  .next (if 95 ≤ temp then s
    else s.onCluster cluster (fun y =>
      if y.stopped then { y with stopped := false, tooHot := false, calm := s.cycle } else y))

/-- RAIL_OVERCURRENT: every step falls to 8 and every cap to 0 until the next period. -/
def execRailOvercurrent (amps : Nat) (s : State) : Host.Outcome State Fault Refusal :=
  .next (if amps ≤ 2100 then s else onClusters s (fun _ y => { y with step := 8, cap := 0, calm := s.cycle }))

/-- POWER_TRIP: every clock stops, every bit of rdy clears, all work goes; the module controller keeps the record. -/
def execPowerTrip (amps watts : Nat) (s : State) : Host.Outcome State Fault Refusal :=
  .next (if amps ≤ 2100 ∧ watts ≤ 2000 then s
    else
      let s1 := (asidsAll s).foldl (fun s a => discardContext s a 0x1D 3 0 6 0) s
      onClusters { s1 with rdy := 0, tripKept := true } (fun _ y => { y with stopped := true }))

end Sys2Proof.Machine
end

