-- ==== Sys2Proof/Machine/EvHost.lean ====
section
/-! DEFINITION. Machine/EvHost.lean: the host ports' windows (R318, R320, R386 to R388, R469), module registers and bring-up (R388
to R391, R484, R485), writes of plain registers (R8), and management messages (R397, R399). An event whose occasion is not
there leaves the state as it is. -/

namespace Sys2Proof.Machine

/-! Enqueue windows (R387). -/

/-- Address of the register set of a function (R388). -/
def fnA (port fn : Nat) : Nat := 0xF00000080000 + port * 0x10000 + fn * 0x20

/-- A dropped window write is logged. -/
def dropWindow (s : State) (port offset asid code : Nat) (info : Word) : State :=
  logRecord s ⟨word offset, info, 0, 0xFFFFFFFF, asid, code, 4, 0, 0, 5, port⟩

/-- The queue that a window write of a table means: that of the process, or one of its own where the function's table is
not the one that the process's threads use (R388). -/
def windowKey (s : State) (asid idx : Nat) (qt : Word) : Nat :=
  match s.queue (queueKey asid idx) with
  | some q => if q.qtbase = qt then queueKey asid idx else queueKey asid idx + 2 ^ 32 * (qt.toNat + 1)
  | none =>
    if qt = ((rd none s.procs asid).getD ⟨0, 0, 0⟩).qtbase then queueKey asid idx else queueKey asid idx + 2 ^ 32 * (qt.toNat + 1)

/-- A descriptor that reached the hub for the queue of an index: enqueued, held for a queue that is not resident, or
dropped. -/
def windowEnqueue (s : State) (port fn asid idx : Nat) (qt pt : Word) (d : BitVec 512) : State :=
  let drop (s : State) (code reason : Nat) : State := dropWindow s port (64 * idx) asid code (word reason)
  match readEntry s 0 asid pt qt idx false with
  | (s1, .inr c) => dropWindow s1 port (64 * idx) asid c.code c.info
  | (s1, .inl e) =>
    if e.kind ≠ 0 then drop s1 0x12 18
    else if e.f 165 165 = 0 then drop s1 0x12 31
    else if descOk d = false then drop s1 0x12 17
    else
      let handle := e.f 191 176 * 65536 + idx
      let key := windowKey s1 asid idx qt
      let s2 := meetQueue s1 key qt pt handle e
      match s2.queue key with
      | none => s2
      | some q =>
        if q.resident = false then
          let ask := assisted s2 (q.home * 3) 1
          let s3 := { s2 with heldWrites := s2.heldWrites ++ [⟨port, fn, idx, d, key, s.cycle, qt, pt, ask⟩] }
          if ask then postMiss s3 key else s3
        else match s2.ctr q.ctr with
        | none => drop s2 0x1E 1
        | some c =>
          if c.asid ≠ asid then drop s2 0x1E 1
          else match homeUnit s2 q.ctr with
            | (s3, false) => drop s3 0x12 30
            | (s3, true) => enqueueTask s3 key d q.ctr 0 none none false

/-- Held writes of a queue that has become resident, or is gone, reach it under the binding they were accepted under, in
their order (R318, R388). -/
def deliverHeld (s : State) (key : Nat) : State :=
  if (s.queue key).isSome = true ∧ residentQ s key = false then s
  else
    let mine := s.heldWrites.filter (fun h => h.key == key)
    mine.foldl (fun s h => windowEnqueue s h.port h.fn (keyAsid key) h.index h.qtbase h.ptbase h.desc)
      { s with heldWrites := s.heldWrites.filter (fun h => !(h.key == key)) }

/-- QUEUE_SWAP_IN: a missed queue comes in (R317), and the host writes that the hub holds for it go on (R318). -/
def execQueueSwapIn (queue : Nat) (s : State) : Host.Outcome State Fault Refusal :=
  .next (deliverHeld (serveMiss s queue) queue)

/-- Whose function tables a window write that comes through a port reads: with modctl.part = 0 port 1 stands by (R389), and
once port 0 has been up and its link is down, port 1 is the active port with those tables unchanged (R483, log 190). -/
def activeFn (s : State) (port : Nat) : Nat :=
  if port = 1 ∧ s.cameUp.getLsbD 40 ∧ s.rdy.getLsbD 40 = false ∧ s.modctl.getLsbD 2 = false then 0 else port

/-- HOST_WINDOW_WRITE: on a port whose link is down it is lost without a record (R483). -/
def execHostWindowWrite (link fn offset nbytes : Nat) (data : BitVec 512) (s : State) :
    Host.Outcome State Fault Refusal :=
  .next (
    let port := activeFn s link
    let b := s.dreg (fnA port fn)
    let asid := fieldOf b 15 0
    if s.rdy.getLsbD (40 + link) = false then s
    else if nbytes ≠ 64 ∨ offset % 64 ≠ 0 ∨ 64 < fn ∨ b.getLsbD 16 = false then dropWindow s port offset asid 0x12 31
    else windowEnqueue s port fn asid (offset / 64) (s.dreg (fnA port fn + 8)) (s.dreg (fnA port fn + 16)) data)

/-- HELD_WINDOW_WRITE_DROP: a write held for 10 ms is dropped and logged, with the handle in einfo (R254, R469). -/
def execHeldWindowWriteDrop (s : State) : Host.Outcome State Fault Refusal :=
  .next (match s.heldWrites.find? (fun h => decide (h.since + 10000 * usCycles ≤ s.cycle)) with
    | some h => dropWindow { s with heldWrites := s.heldWrites.erase h } h.port (64 * h.index) (keyAsid h.key) 7
        (word (match s.queue h.key with | some q => q.handle | none => h.index))
    | none => s)

/-! Bring-up (R389 to R391, R484). -/

/-- The units of the part in rdy (R389). -/
def presentBits : Word := 0x3F9FFFFFFFF

/-- The bit of a unit that has come up sets. -/
def setReady (s : State) (i : Nat) : State :=
  { s with rdy := s.rdy ||| (1#64 <<< i), cameUp := s.cameUp ||| (1#64 <<< i) }

/-- MODULE_RESET: everything is as after reset, but for what is retired for good (R498), the record of a power trip (R495) and
what has left the module. The root is ready once it has verified its firmware and the module controller's (R390 step 1,
R396): an image that fails does not run, no function that it serves becomes ready, and the root logs the failure. -/
def execModuleReset (s : State) : Host.Outcome State Fault Refusal :=
  .next { State.reset with
    rootLog := s.rootLog ++ (upFrom 0 3).filter (fun i => !Config.imageVerified i)
    rdy := if Config.imageVerified 0 && Config.imageVerified 1 then 1#64 <<< 35 else 0
    cores := s.cores.foldl (fun m c => wr .reset m c.1 { CoreSt.reset with
      lanemap := c.2.lanemap, fenced := c.2.lanemap, retired := c.2.retired, ways := c.2.ways }) []
    clusters := s.clusters.foldl (fun m c => wr .reset m c.1 { ClusterSt.reset with ways := c.2.ways }) []
    dies := s.dies.foldl (fun m d => wr .reset m d.1 { DieSt.reset with ways := d.2.ways }) []
    retcnt := s.retcnt
    tripKept := s.tripKept
    output := s.output
    free := s.free }

/-- Every port of the part that is present has come up (R390 step 2). -/
def portsUp (s : State) : Bool := (upFrom 40 2).all (fun i => s.rdy.getLsbD i || s.absent.getLsbD i)

/-- HOST_PORT_ENUMERATED: in bring-up port 0 comes before port 1 (R390); vectors held for want of a port leave (R483). -/
def execHostPortEnumerated (port : Nat) (s : State) : Host.Outcome State Fault Refusal :=
  .next (if s.rdy.getLsbD 35 = false ∨ 2 ≤ port ∨
      (port = 1 ∧ s.rdy.getLsbD 32 = false ∧ s.rdy.getLsbD 40 = false ∧ s.absent.getLsbD 40 = false) then s
    else { (setReady s (40 + port)) with
      output := s.output ++ s.msixHeld.map (fun v => .msix port v.2.1 v.2.2), msixHeld := [] })

/-- BOND_FABRIC_TRAINED: behind the ports (R390). -/
def execBondFabricTrained (s : State) : Host.Outcome State Fault Refusal :=
  .next (if s.rdy.getLsbD 35 = true ∧ portsUp s = true ∧ s.rdy.getLsbD 32 = false then { (setReady s 32) with bondAt := some s.cycle } else s)

/-- DIE_READY: never of a die that has failed its bring-up (R484). -/
def execDieReady (die : Nat) (s : State) : Host.Outcome State Fault Refusal :=
  .next (if 8 ≤ die ∨ s.rdy.getLsbD 32 = false ∨ (s.die die).reachable = false ∨
      s.absent.getLsbD (24 + die) = true then s
    else setReady s (24 + die))

/-- A core as its cluster comes up: checked and scrubbed. -/
def freshCore (s : State) (core : Nat) : State :=
  (scrubAll s core).onCore core (fun c => { CoreSt.reset with
    lanemap := c.lanemap, fenced := c.fenced, retired := c.retired, ways := c.ways, ready := s.cycle })

/-- CLUSTER_READY: never while the die's bit is clear (R390). -/
def execClusterReady (cluster : Nat) (s : State) : Host.Outcome State Fault Refusal :=
  .next (if 24 ≤ cluster ∨ clusterReadyBit s cluster = true ∨ s.rdy.getLsbD (24 + cluster / 3) = false ∨
      (s.cluster cluster).stopped = true ∨ s.absent.getLsbD cluster = true then s
    else setReady ((upFrom (cluster * 192) 192).foldl freshCore s) cluster)

/-- BRINGUP_TIMEOUT: a unit that has not come up 2 s after the bond fabric trained counts as failed, once (R484). -/
def execBringupTimeout (isDie : Bool) (unit : Nat) (s : State) : Host.Outcome State Fault Refusal :=
  .next (
    let i := if isDie then 24 + unit else unit
    let due := match s.bondAt with | some c => decide (c + 2000000 * usCycles ≤ s.cycle) | none => false
    if due = false ∨ s.cameUp.getLsbD i = true ∨ s.absent.getLsbD i = true ∨ (if isDie then 8 else 24) ≤ unit then s
    else faultRecord { s with absent := s.absent ||| (1#64 <<< i) } 0 0x21 5 0 6 unit)

/-- PRESENTATION_HEAD_USABLE. -/
def execPresentationHeadUsable (head : Nat) (s : State) : Host.Outcome State Fault Refusal :=
  .next (if s.rdy.getLsbD 35 = false ∨ 4 ≤ head then s
    else { (setReady s (36 + head)) with
      heads := wr .off s.heads head { (rd .off s.heads head) with usable := true } })

/-- MODE_NORMAL_ENTRY: the first host has read rdy, and every present unit's bit is set; bring-up is complete, and the
record of a power trip reaches the device log (R389, R495). -/
def execModeNormalEntry (s : State) : Host.Outcome State Fault Refusal :=
  .next (
    let want := presentBits &&& ~~~s.absent
    if s.rdy &&& want ≠ want ∨ fieldOf s.modctl 1 0 ≠ 1 then s
    else
      let s1 := { s with modctl := s.modctl &&& ~~~3 }
      if s1.tripKept then faultRecord { s1 with tripKept := false } 0 0x1D 3 0 6 0 else s1)

/-- MODCTL_WRITE: part changes only with no thread and no queue resident (R391, R485). -/
def execModctlWrite (value : Word) (s : State) : Host.Outcome State Fault Refusal :=
  .next (
    let busy := s.slots.any (fun e => decide (e.2.res ≠ .empty)) ||
      s.queues.any (fun e => match e.2 with | some q => q.resident | none => false)
    if value.getLsbD 2 ≠ s.modctl.getLsbD 2 ∧ busy = true then eventRecord s 0 0x12 27 0 4 6 0 .none
    else { s with modctl := value &&& 7 })

/-! Plain registers (R8). -/

/-- The writable bits of a plain device register; none where there is no such register, or it is read-only (R315, R371, R384,
R388, R389, R392, R426, R457). -/
def plainMask (a : Nat) : Option Word :=
  let o := a - 0xF00000000000
  if o = 0x18 then some 0xFFFFFFFFFFFFFFFF
  else if 0x10000 ≤ o ∧ o < 0x18000 ∧ o % 0x1000 = 0 then some 0x00FFFFFFFFFFFFFF
  else if 0x20000 ≤ o ∧ o < 0x20400 then
    (match o % 0x100 with
    | 0x08 => some 0xFFFFFFFFFFFFFFFF
    | 0x10 => some 0xFFFFFFFFFFFFFFFF
    | 0x18 => some 0xFFFFFFFFFFFFFFFF
    | 0x20 => some 0x0000FFFFFFFFFFFF
    | 0x28 => some 0x0000000000FFFFFF
    | 0x38 => some 0x00000000FFFFFFFF
    | 0x40 => some 0xFFFFFFFFFFFFFFFF
    | _ => none)
  else if o = 0x30008 ∨ o = 0x31008 then some 0x07FFFFFF
  else if 0x40000 ≤ o ∧ o < 0x40800 ∧ (o % 0x100 = 0 ∨ o % 0x100 = 0x20) then some 0xFFFFFFFFFFFFFFFF
  else if o = 0x50000 then some 0xFFFFFFFFFFFFFFFF
  else if o = 0x50008 then some 0x00000001FFFFFFFF
  else if 0x80000 ≤ o ∧ o < 0xA0000 ∧ o % 0x10000 < 0x820 then
    (match o % 0x20 with
    | 0x00 => some 0x000000000001FFFF
    | 0x08 => some 0xFFFFFFFFFFFFFFFF
    | 0x10 => some 0x000FFFFFFFFFF000
    | _ => none)
  else if 0x100000 ≤ o ∧ o < 0x200000 then
    (if o % 16 = 0 then some 0xFFFFFFFFFFFFFFFF else if o % 16 = 8 then some 0xFFFF else none)
  else if 0x200000 ≤ o ∧ o < 0x300000 then
    (if o % 16 = 0 then some 0x00000001FFFFFFFF else if o % 16 = 8 then some 0xFFFFFFFFFFFFFFFE else none)
  else none

/-- A process that a function is bound to, and that the supervisor has not set up, gets the function's tables (R388). -/
def adoptProc (s : State) (a : Nat) : State :=
  let base := a - a % 0x20
  let b := s.dreg base
  if 0xF00000080000 ≤ a ∧ a < 0xF000000A0000 ∧ b.getLsbD 16 = true then
    onProc s (fieldOf b 15 0) (fun p => { p with
      qtbase := if p.qtbase = 0 then s.dreg (base + 8) else p.qtbase
      ptbase := if p.ptbase = 0 then s.dreg (base + 16) else p.ptbase })
  else s

/-- A new frame period counts from the deadlines that are still to come: deadline k lies at t0 + k × hperiod (R372). -/
def newPeriod (s : State) (a : Nat) : State :=
  let h := (a - 0xF00000020000) / 0x100
  let p := fieldOf (s.dreg a) 23 0 * usCycles
  if 0xF00000020000 ≤ a ∧ a < 0xF00000020400 ∧ a % 0x100 = 0x28 ∧ p ≠ 0 then
    { s with heads := wr .off s.heads h (let y := rd .off s.heads h; { y with deadline := (s.cycle - y.t0) / p + 1 }) }
  else s

/-- REGISTER_WRITE: the writable fields are stored; a reserved value of the host is dropped and logged (R385), with a reason that
the spec does not name (free value, log 184). A write of qctl without an operation sets its handle, and the power block of
partition 1 is there with two partitions only (R384). -/
def execRegisterWrite (addr : Nat) (value : Word) (s : State) : Host.Outcome State Fault Refusal :=
  .next (
    let o := addr - 0xF00000000000
    if 0x10000 ≤ o ∧ o < 0x18000 ∧ o % 0x1000 = 0x10 then
      s.onDie ((o - 0x10000) / 0x1000) (fun d => { d with
        qctl := (d.qctl &&& 0x1000000000000000) ||| (value &&& 0x0000FFFFFFFFFFFF) })
    else match plainMask addr with
    | none => s
    | some m =>
      if addr = 0xF00000031008 ∧ s.modctl.getLsbD 2 = false then s
      else if devRefused s addr value then
        eventRecord { s with free := s.free + 1 } 0 0x12 (25 + Config.freeNat s.free % 7) (word addr) 4 5 0 .none
      else newPeriod (adoptProc (s.putDreg addr (value &&& m)) addr) addr)

/-! Management (R396, R397, R399). -/

/-- An answer of the root at a port, once it has passed its boot checks, with the algorithms, digests and modctl that it states;
how outside standards lay it out, beside a nonce that it signs, is a free value. -/
def answer (s : State) (request port nonce : Nat) (algorithms : List Algorithm) (digests : List (BitVec 512))
    (modctl : Option Word) : State :=
  if s.rdy.getLsbD 35 then
    { s with
      output := s.output ++ [.spdm request port algorithms digests modctl
        ((List.range (Config.freeNat s.free % 65536)).map (Config.message request nonce))]
      free := s.free + 1 }
  else s

/-- GET_VERSION. -/
def execGetVersion (port : Nat) (s : State) : Host.Outcome State Fault Refusal := .next (answer s 0 port 0 [] [] none)
/-- GET_CAPABILITIES. -/
def execGetCapabilities (port : Nat) (s : State) : Host.Outcome State Fault Refusal := .next (answer s 1 port 0 [] [] none)
/-- NEGOTIATE_ALGORITHMS: RSASSA-4096 and SHA-512 only. -/
def execNegotiateAlgorithms (port : Nat) (s : State) : Host.Outcome State Fault Refusal :=
  .next (answer s 2 port 0 [.rsassa4096, .sha512] [] none)
/-- GET_DIGESTS. -/
def execGetDigests (port : Nat) (s : State) : Host.Outcome State Fault Refusal := .next (answer s 3 port 0 [] [] none)
/-- GET_CERTIFICATE. -/
def execGetCertificate (port : Nat) (s : State) : Host.Outcome State Fault Refusal := .next (answer s 4 port 0 [] [] none)
/-- CHALLENGE: the answer depends on the nonce that it signs. -/
def execChallenge (port nonce : Nat) (s : State) : Host.Outcome State Fault Refusal := .next (answer s 5 port nonce [] [] none)
/-- GET_MEASUREMENTS: the digests of every verified image, and modctl. -/
def execGetMeasurements (port : Nat) (s : State) : Host.Outcome State Fault Refusal :=
  .next (answer s 6 port 0 [] (((upFrom 0 3).filter Config.imageVerified).map Config.imageDigest) (some s.modctl))

/-- The order code NZ7-2048-LQ. -/
def orderCode : List Byte := [0x4E, 0x5A, 0x37, 0x2D, 0x32, 0x30, 0x34, 0x38, 0x2D, 0x4C, 0x51]

/-- MCTP_REPORT: ident, the order code, rdy, the lanes bytes, ccap.temp of every cluster, the powers of the last period, and
the record of a power trip that is kept (R399, R495), one after the other. -/
def execMctpReport (s : State) : Host.Outcome State Fault Refusal :=
  .next (if controllerRuns s = false then s else { s with output := s.output ++ [.message 8 (
    toLe 8 (devReg s 0xF00000000000).toNat ++ orderCode ++ toLe 8 s.rdy.toNat ++ devRead s 0xF00000001000 4608 ++
    (upFrom 0 24).map (fun c => BitVec.ofNat 8 (s.cluster c).temp) ++ s.power.flatMap (toLe 4) ++
    [if s.tripKept then 1 else 0])] })

end Sys2Proof.Machine
end

