-- ==== Sys2Proof/Machine/EvGfx.lean ====
section
/-! DEFINITION. Machine/EvGfx.lean: the tile commit units' steps (R224, R227, R486 to R489) and the presentation heads (R334,
R371 to R373, R492, R493). An event whose occasion is not there leaves the state as it is. -/

namespace Sys2Proof.Machine

/-! Commit units. -/

/-- COMMIT_PACKET: the oldest packet on its way to the commit unit arrives (R224), and the block's stuck tile may change
(R488). -/
def execCommitPacket (cluster : Nat) (s : State) : Host.Outcome State Fault Refusal :=
  .next (match (s.cluster cluster).packets with
    | [] => s
    | p :: rest =>
      wakePerformed (showStuck (deliverPacket (s.onCluster cluster (fun c => { c with packets := rest, commitAt := s.cycle })) cluster p) cluster) p.slot)

/-- RESOLVE_CREDIT: the barrier word of the oldest resolve that has performed takes one arrival and the bytes (R227). -/
def execResolveCredit (s : State) : Host.Outcome State Fault Refusal :=
  .next (match s.credits with
    | [] => s
    | c :: rest => barCredit { s with credits := rest } c.key 1 c.bytes c.addr c.asid 2 c.cluster)

/-- STUCK_TILE: one record for each tile until its e changes, and the block shows the oldest. -/
def execStuckTile (cluster tile : Nat) (s : State) : Host.Outcome State Fault Refusal :=
  .next (match (s.cluster cluster).tiles.find? (fun t => t.tile == tile && isStuck s t && !t.reported) with
    | none => s
    | some t =>
      let s1 := tileRecord s ⟨cluster, t.asid, t.ptbase, t.user⟩ 0x12 t.record (einfoOf 29 0 false t.expect) 0xFFFFFFFF tile 0
      showStuck (s1.onCluster cluster (fun c => { c with tiles := c.tiles.map (fun q =>
        if q = t then { q with reported := true } else q) })) cluster)

/-- A packet of a tile's next ticket with the last-part bit and no active pixel (R489). -/
def skipPacket (t : Tile) : TilePacket :=
  ⟨0, t.asid, 0, t.ptbase, t.record, t.tile, t.expect, true, 0, 0, [], [], none, .none, t.user⟩

/-- TCSKIP_WRITE: the shown stuck tile passes one ticket (R489). -/
def execTcskipWrite (cluster : Nat) (value : Word) (s : State) : Host.Outcome State Fault Refusal :=
  .next (
    let c := s.cluster cluster
    if value.getLsbD 63 = false ∨ c.tcstuck.getLsbD 63 = false ∨ fieldOf value 31 0 ≠ fieldOf c.tcstuck 31 0 then s
    else match c.tiles.find? (fun t => t.tile == fieldOf value 31 0 && decide (t.record = c.tcsrec) && isStuck s t) with
      | none => s
      | some t => showStuck (deliverPacket s cluster (skipPacket t)) cluster)

/-! Presentation heads. -/

/-- Address of a register of a head. -/
def headA (head off : Nat) : Nat := 0xF00000020000 + head * 0x100 + off
/-- A head. -/
def State.head (s : State) (h : Nat) : HeadSt := rd .off s.heads h
/-- The state with a head changed. -/
def State.onHead (s : State) (h : Nat) (f : HeadSt → HeadSt) : State := { s with heads := wr .off s.heads h (f (s.head h)) }
/-- The process and handle of the queue that a head raises. -/
def headQueue (s : State) (h : Nat) : Nat × Nat :=
  let w := s.dreg (headA h 0x20)
  (fieldOf w 47 32, fieldOf w 31 0)

/-- Scalar cycles of a head's frame period. -/
def framePeriod (s : State) (h : Nat) : Nat := fieldOf (s.dreg (headA h 0x28)) 23 0 * usCycles

/-- The queue of a head raised (R334). -/
def setRaise (s : State) (h : Nat) : State :=
  let key := queueKey (headQueue s h).1 (headQueue s h).2
  (s.onHead h (fun y => { y with raised := addOnce y.raised key })).onQueue key (fun q => { q with raised := true })
/-- The raises of a head ended: of the queues that it raised, unless another head raises them. -/
def endRaise (s : State) (h : Nat) : State :=
  let s1 := s.onHead h (fun y => { y with raised := [] })
  (s.head h).raised.foldl (fun s key => s.onQueue key (fun q => { q with raised := isRaised s1 key })) s1

/-- The reason of a refusal that only the log shows: R423 keeps 25 to 31 for such records, and the spec names none for this one
(free value, log 184). -/
def refusedReason (s : State) : Nat := 25 + Config.freeNat s.free % 7

/-- HCTL_WRITE: a head that would drive an output in use is refused, and the refusal logged; setting en starts its frames
(R24, R371, R372). -/
def execHctlWrite (head : Nat) (value : Word) (s : State) : Host.Outcome State Fault Refusal :=
  .next (
    let v := value &&& 0xCD
    let old := s.dreg (headA head 0)
    let taken := (upFrom 0 4).any (fun h =>
      let w := s.dreg (headA h 0)
      h != head && w.getLsbD 0 && !w.getLsbD 3 && w.getLsbD 2 == v.getLsbD 2)
    if 4 ≤ head then s
    else if fieldOf v 7 6 = 3 ∨ (v.getLsbD 0 = true ∧ v.getLsbD 3 = false ∧ taken = true) then
      eventRecord { s with free := s.free + 1 } (headQueue s head).1 0x12 (refusedReason s) (word (headA head 0)) 4 3 head .none
    else
      let s1 := s.putDreg (headA head 0) v
      if v.getLsbD 0 = true ∧ old.getLsbD 0 = false then s1.onHead head (fun y => { y with t0 := s.cycle, deadline := 1 })
      else s1)

/-- The cycle of a head's next deadline; none while it is not enabled or stopped. -/
def nextDeadline (s : State) (h : Nat) : Option Nat :=
  if (s.dreg (headA h 0)).getLsbD 0 = true ∧ framePeriod s h ≠ 0 then
    some ((s.head h).t0 + (s.head h).deadline * framePeriod s h)
  else none

/-- HEAD_RAISE: 2 ms before the deadline, or at once for a shorter period, the queue that hqueue names is raised (R334, R372). -/
def execHeadRaise (head : Nat) (s : State) : Host.Outcome State Fault Refusal :=
  .next (match nextDeadline s head with
    | some t => if (s.head head).raised.contains (queueKey (headQueue s head).1 (headQueue s head).2) = false ∧ (t ≤ s.cycle + 2000 * usCycles ∨ framePeriod s head < 2000 * usCycles) then
        setRaise s head else s
    | none => s)

/-- A record of a head (R492, R493); an uncorrectable error or a lost route is a device fault (R423). -/
def headRecord (s : State) (h code : Nat) (info addr : Word) : State :=
  let q := headQueue s h
  logRecord s ⟨addr, info, 0, 0xFFFFFFFF, q.1, code, if code = 0x1C ∨ code = 0x21 then 6 else 4, 0, q.2, 3, h⟩

/-- The output that a head drives (R371). -/
def headOut (s : State) (h : Nat) : Nat := b2n ((s.dreg (headA h 0)).getLsbD 2)

/-- The counter of a head's frame (R372): read under the tables of the process whose queue it raises, with supervisor
rights. -/
def readFlagOf (s : State) (h : Nat) : State × Found Nat :=
  let a := (headQueue s h).1
  procRead s 0 a ((rd none s.procs a).getD ⟨0, 0, 0⟩).ptbase (s.dreg (headA h 0x10)) 8

/-- A frame delivered to memory (R373): false when the queue has no free entry, or is not resident and is not brought in, which
is posted to the host (DESIGN CHOICE, log 185). -/
def deliverFrame (s : State) (h : Nat) (surf : Word) : State × Bool :=
  let a := (headQueue s h).1
  let handle := fieldOf (s.dreg (headA h 0x38)) 31 0
  let p := (rd none s.procs a).getD ⟨0, 0, 0⟩
  match readEntry s 0 a p.ptbase p.qtbase handle true with
  | (s1, .inr _) => (s1, false)
  | (s1, .inl e) =>
    let key := queueKey a handle
    let s2 := ensureResident (meetQueue s1 key p.qtbase p.ptbase handle e) key
    match e.kind, s2.queue key with
    | 1, some q => if q.resident = false then (postMiss s2 key, false) else match homeUnit s2 q.ctr with
      | (s3, true) => (onEntries s3 key (fun q => { q with elems := q.elems ++ [surf] }), true)
      | (s3, false) => (s3, false)
    | _, _ => (s2, false)

/-- A frame is not taken: the last one is repeated, black before the first, and the miss is logged; the raise stays (R372,
R492). -/
def missFrame (s : State) (h code reason level k : Nat) (surf : Word) : State :=
  let s1 := headRecord s h code (einfoOf reason level false k) surf
  let mem := (s.dreg (headA h 0)).getLsbD 3
  let s2 := s1.onHead h (fun y => { y with repeated := y.repeated + 1, deadline := k + 1 })
  let old := (s.head h).frame.getD (0, 0)
  if mem then s2 else { s2 with output := s2.output ++ [.frame h (headOut s h) (s.head h).fmt old.1 old.2] }

/-- A frame is taken with its size and format, and shown; the raise ends. -/
def takeFrame (s : State) (h k : Nat) (surf : Word) (mem : Bool) : State :=
  let size := s.dreg (headA h 0x40)
  let fmt := fieldOf (s.dreg (headA h 0)) 7 6
  let s1 := (endRaise s h).onHead h (fun y => { y with
    taken := y.taken + 1, deadline := k + 1, frame := some (surf, size), fmt := fmt, target := s.dreg (headA h 0x18) })
  if mem then s1 else { s1 with output := s1.output ++ [.frame h (headOut s h) fmt surf size] }

/-- HEAD_DEADLINE (R372, R373). -/
def execHeadDeadline (head : Nat) (s : State) : Host.Outcome State Fault Refusal :=
  .next (match nextDeadline s head with
    | none => s
    | some t =>
      if s.cycle < t then s
      else
        let k := (s.head head).deadline
        let target := (s.dreg (headA head 0x18)).toNat
        let surf := s.dreg (headA head 0x08)
        let mem := (s.dreg (headA head 0)).getLsbD 3
        match readFlagOf s head with
        | (s1, .bad c r l) => missFrame s1 head c r l k surf
        | (s1, .ok v) =>
          if v < target then missFrame s1 head 3 1 0 k surf
          else if mem then match deliverFrame s1 head surf with
            | (s2, true) => takeFrame s2 head k surf true
            | (s2, false) => missFrame s2 head 3 2 0 k surf
          else takeFrame s1 head k surf false)

/-- A cause that a read of memory may have (R423). -/
def readCause (c : Nat) : Bool := decide (c = 0x14 ∨ c = 0x16 ∨ c = 0x17 ∨ c = 0x18 ∨ c = 0x1C ∨ c = 0x21)

/-- SCANOUT_READ_FAULT: the rest of the frame is black; the frame counts as taken already (R493). An uncorrectable error or a lost
route is a device fault of the process whose frame it is (R428). -/
def execScanoutReadFault (head cause reason addr : Nat) (s : State) : Host.Outcome State Fault Refusal :=
  .next (if (s.dreg (headA head 0)).getLsbD 0 = true ∧ (s.head head).frame.isSome = true ∧ readCause cause = true then
      let s1 := headRecord s head cause (einfoOf (reason % 256) 0 false 0) (word addr)
      if cause = 0x1C ∨ cause = 0x21 then discardContext s1 (headQueue s head).1 cause (reason % 256) (word addr) 3 head else s1
    else s)

end Sys2Proof.Machine
end

