-- ==== Sys2Proof/Machine/EvTranslate.lean ====
section
/-! DEFINITION. Machine/EvTranslate.lean: the portable format and the translator (R400 to R410, R476). The translator's
reading of a container is one step of its thread and its writing of the result another. What the translator kernel leaves
to itself, the code it makes above all, is `Config.translator`. -/

namespace Sys2Proof.Machine

/-! The container (R400 to R402). -/

/-- The `n` bytes at an offset of a container, as a number. -/
def cf (c : List Byte) (o n : Nat) : Nat := ofLe ((c.drop o).take n)

/-- An actor's entry (R401). -/
structure PActor where
  boff : Nat
  blen : Nat
  nin : Nat
  nout : Nat
  ports : List Nat
  zero : Bool
  deriving DecidableEq, Repr

/-- An edge's entry (R402). -/
structure PEdge where
  src : Nat
  dst : Nat
  p : Nat
  c : Nat
  d : Nat
  type : Nat
  elems : Nat
  init : Nat
  zero : Bool
  deriving DecidableEq, Repr

/-- The actors of a container. -/
def actorsOf (c : List Byte) : List PActor :=
  (List.range (cf c 6 2)).map (fun i =>
    let o := cf c 16 8 + 32 * i
    { boff := cf c o 8, blen := cf c (o + 8) 4, nin := cf c (o + 12) 1, nout := cf c (o + 13) 1
      ports := (List.range 4).map (fun j => cf c (o + 16 + 2 * j) 2)
      zero := decide (cf c (o + 14) 2 = 0 ∧ cf c (o + 24) 8 = 0) })

/-- The edges of a container. -/
def edgesOf (c : List Byte) : List PEdge :=
  (List.range (cf c 8 2)).map (fun k =>
    let o := cf c 24 8 + 32 * k
    { src := cf c o 2, dst := cf c (o + 2) 2, p := cf c (o + 4) 4, c := cf c (o + 8) 4, d := cf c (o + 12) 4
      type := cf c (o + 16) 1, elems := cf c (o + 20) 4, init := cf c (o + 24) 8
      zero := decide (cf c (o + 17) 3 = 0) })

/-- Input ports and output ports of an actor. -/
def PActor.ins (a : PActor) : List Nat := a.ports.take a.nin
/-- Output ports of an actor. -/
def PActor.outs (a : PActor) : List Nat := (a.ports.drop a.nin).take a.nout

/-- The element width of an edge in bits (R402): a format of R107, or an ew code of R149. -/
def PEdge.width (e : PEdge) : Nat := if e.type / 16 = 0 then fmtW (e.type % 16) else ewOf (e.type % 16)
/-- Bytes of a token (R402). -/
def PEdge.token (e : PEdge) : Nat := ceilDiv (e.elems * e.width) 8

/-- The header and the tables lie in the container and are well formed (R400). -/
def headerOk (c : List Byte) : Bool :=
  decide (64 ≤ c.length ∧ cf c 0 4 = 0x31464150 ∧ cf c 4 2 = 1 ∧ 1 ≤ cf c 6 2 ∧ cf c 6 2 ≤ 192 ∧ cf c 8 2 ≤ 1024) &&
  decide (cf c 10 6 = 0 ∧ cf c 48 16 = 0 ∧ cf c 16 8 % 32 = 0 ∧ cf c 24 8 % 32 = 0 ∧ cf c 32 8 % 4 = 0) &&
  decide (cf c 16 8 + 32 * cf c 6 2 ≤ c.length ∧ cf c 24 8 + 32 * cf c 8 2 ≤ c.length ∧
    cf c 32 8 + cf c 40 8 ≤ c.length)

/-- An actor's entry is well formed (R401). -/
def actorOk (c : List Byte) (a : PActor) : Bool :=
  a.zero && decide (a.boff % 4 = 0 ∧ a.blen % 4 = 0 ∧ 4 ≤ a.blen ∧ a.blen ≤ 16384 ∧ a.boff + a.blen ≤ cf c 40 8) &&
  decide (a.nin + a.nout ≤ 4) && (a.ins ++ a.outs).all (fun k => decide (k < cf c 8 2)) &&
  (a.ports.drop (a.nin + a.nout)).all (· == 0xFFFF)

/-- An edge's entry is well formed: its own fields, and that it stands once at its source's output ports and once at its
target's input ports (R402). -/
def edgeOk (c : List Byte) (acts : List PActor) (k : Nat) (e : PEdge) : Bool :=
  let at_ (i : Nat) (f : PActor → List Nat) : Nat := match acts[i]? with
    | some a => (f a).count k
    | none => 0
  e.zero && decide (1 ≤ e.p ∧ e.p ≤ 65535 ∧ 1 ≤ e.c ∧ e.c ≤ 65535 ∧ e.d ≤ 1048576 ∧ 1 ≤ e.elems ∧ e.elems ≤ 65536) &&
  decide ((e.type / 16 = 0 ∧ e.type % 16 ≤ 7) ∨ ((e.type / 16 = 1 ∨ e.type / 16 = 2) ∧ e.type % 16 ≤ 5)) &&
  decide (e.src ≠ e.dst ∨ e.c ≤ e.d) &&
  decide (e.init = 0 ∨ e.init + e.d * e.token ≤ cf c 40 8) &&
  decide (at_ e.src PActor.outs = 1 ∧ at_ e.dst PActor.ins = 1)

/-- The initial tokens of an edge, packed one behind the other (R402, R112): bytes of the body section, or zeros. -/
def initialTokens (c : List Byte) (e : PEdge) : List Byte :=
  if e.init = 0 then List.replicate (e.d * e.token) 0 else (c.drop (cf c 32 8 + e.init)).take (e.d * e.token)

/-- The actors and edges that make a container malformed, by index. -/
def malformedAt (c : List Byte) : List Nat :=
  let acts := actorsOf c
  ((List.range acts.length).filter (fun i => match acts[i]? with
    | some a => !actorOk c a
    | none => false)) ++
  ((List.range (edgesOf c).length).filter (fun k => match (edgesOf c)[k]? with
    | some e => !edgeOk c acts k e
    | none => false))

/-! Bodies (R403). -/

/-- The words of a body. -/
def bodyWords (c : List Byte) (a : PActor) : List (BitVec 32) :=
  (List.range (a.blen / 4)).map (fun i => BitVec.ofNat 32 (cf c (cf c 32 8 + a.boff + 4 * i) 4))

/-- Field `[hi:lo]` of an instruction word. -/
def wf (w : BitVec 32) (hi lo : Nat) : Nat := bits w.toNat hi lo

/-- The scalar registers that a word of the subset names (R84, R87). -/
def scalarNames (w : BitVec 32) : List Nat :=
  let d := wf w 11 7
  let a := wf w 16 12
  let b := wf w 21 17
  let fnT := wf w 31 22
  let fnV := wf w 31 27
  match wf w 6 1 with
  | 0x09 => [d, a, b]
  | 0x0A => [d, a]
  | 0x0B => if fnT < 6 then [a, b] else if fnT = 10 then [d] else if fnT = 11 then [a] else []
  | 0x0C => [a]
  | 0x0D => [d, a]
  | 0x0E => [d, a]
  | 0x0F => if 6 ≤ fnT ∧ fnT ≤ 9 then [a, b] else if 10 ≤ fnT then [d, a] else [d, a, b]
  | 0x05 => [a]
  | 0x07 => [d]
  | 0x06 => [d, a]
  | 0x18 => if wf w 18 17 = 1 then [d, a] else [d, a, wf w 23 19]
  | 0x19 => if wf w 31 25 = 1 ∨ wf w 31 25 = 5 then [a, b] else [a]
  | 0x1A => if wf w 31 25 = 1 ∨ wf w 31 25 = 4 then [a, b] else [a]
  | 0x21 => if fnV = 4 ∨ fnV = 5 then [d] else if fnV = 6 then [a] else []
  | 0x22 => if fnV = 1 ∨ fnV = 2 then [b] else if fnV = 5 then [a] else if fnV = 6 then [a, b]
      else if fnV = 7 then [d, b] else []
  | 0x23 => [d, b]
  | _ => []

/-- The vector registers that a word of the subset names. -/
def vectorNames (w : BitVec 32) : List Nat :=
  let d := wf w 11 7
  let a := wf w 16 12
  let b := wf w 21 17
  let fnV := wf w 31 27
  let fnM := wf w 31 25
  match wf w 6 1 with
  | 0x19 => if fnM = 2 then [d, b] else if fnM = 4 then upFrom d b else [d]
  | 0x1A => if fnM = 2 then [d, b] else if fnM = 3 then upFrom d b else [d]
  | 0x1C => [d, a, b]
  | 0x1D => if fnV ≤ 1 then [d, a, b] else [d, a]
  | 0x1E => if fnV = 8 ∨ fnV = 9 ∨ fnV = 11 then [d, a] else [d, a, b]
  | 0x1F => [d, a]
  | 0x20 => [a, b]
  | 0x21 => if fnV = 7 then [d] else if fnV = 8 then [d, a, b] else []
  | 0x22 => match fnV with
    | 0 => [d, a, b]
    | 5 => [d]
    | 6 => [d]
    | 7 => [a]
    | _ => [d, a]
  | 0x23 => [a]
  | _ => []

/-- The function code of a word of the subset and the number of codes its major has (R82, R87). -/
def functionOf (w : BitVec 32) : Nat × Nat :=
  match wf w 6 1 with
  | 0x09 => (wf w 31 22, 23)
  | 0x0A => (wf w 19 17, 7)
  | 0x0B => (wf w 31 22, 12)
  | 0x0C => (wf w 19 17, 2)
  | 0x0D => (wf w 19 17, 7)
  | 0x0E => (wf w 19 17, 4)
  | 0x0F => (wf w 31 22, 12)
  | 0x18 => (wf w 18 17, 3)
  | 0x19 => (wf w 31 25, 7)
  | 0x1A => (wf w 31 25, 5)
  | 0x1C => (wf w 31 27, 16)
  | 0x1D => (wf w 31 27, 4)
  | 0x1E => (wf w 31 27, 12)
  | 0x1F => (wf w 31 27, 9)
  | 0x20 => (wf w 31 27, 10)
  | 0x21 => (wf w 31 27, 9)
  | 0x22 => (wf w 31 27, 12)
  | 0x23 => (wf w 31 27, 7)
  | _ => (0, 1)

/-- Word `i` of a body of `n` words is of the subset of R403. -/
def inSubset (n i : Nat) (w : BitVec 32) : Bool :=
  let op := wf w 6 1
  let plain := [0x09, 0x0A, 0x0B, 0x0C, 0x0F, 0x07, 0x0D, 0x0E, 0x04, 0x1C, 0x1D, 0x1E, 0x1F, 0x20, 0x21, 0x23, 0x26, 0x06]
  w.getLsbD 0 && decide ((functionOf w).1 < (functionOf w).2) &&
  (plain.contains op || (op == 0x18 && wf w 18 17 != 2) || (op == 0x19 && wf w 31 25 != 6) || op == 0x1A ||
    (op == 0x22 && wf w 31 27 != 9) ||
    (op == 0x02 && (let t := 4 * (i : Int) + 2 * sextN 25 (wf w 31 7)
      decide (0 ≤ t ∧ t < 4 * (n : Int)))) ||
    (op == 0x05 && wf w 31 22 == 0 && wf w 16 12 == 30 && i + 1 == n)) &&
  (scalarNames w).all (fun r => !decide (24 ≤ r ∧ r ≤ 29)) && (vectorNames w).all (fun r => !decide (28 ≤ r ∧ r ≤ 31))

/-- Where a word of a body leads, in bytes from the body's start: the next word, or the target of a branch (R83 to R85). -/
def flowsTo (i : Nat) (w : BitVec 32) : List Int :=
  let here : Int := 4 * i
  match wf w 6 1 with
  | 0x02 => [here + 2 * sextN 25 (wf w 31 7)]
  | 0x04 => [here + 4, here + 2 * sextN 19 (wf w 31 13)]
  | 0x06 => [here + 4, here + 2 * sextN 15 (wf w 31 17)]
  | 0x05 => []
  | _ => [here + 4]

/-- The element width under which the words behind a word run: none where a register gives it. -/
def widthAfter (w : BitVec 32) (ew : Option Nat) : Option Nat :=
  if wf w 6 1 = 0x18 then (if wf w 18 17 = 0 then none else some (ewOf (wf w 22 20))) else ew

/-- The words of a body that can be reached, each with the element widths under which it can be; none where a branch leads into the
middle of a word. -/
def widthsReached (ws : List (BitVec 32)) : Nat → List (Nat × Option Nat) → List (Nat × Option Nat) → Option (List (Nat × Option Nat))
  | 0, _, _ => none
  | _ + 1, [], seen => some seen
  | fuel + 1, p :: todo, seen =>
    if seen.contains p ∨ ws.length ≤ p.1 then widthsReached ws fuel todo seen else
    let w := ws.getD p.1 0
    let next := (flowsTo p.1 w).filter (fun t => decide (0 ≤ t ∧ t < 4 * (ws.length : Int)))
    if next.any (fun t => decide (t % 4 ≠ 0)) then none
    else widthsReached ws fuel (next.map (fun t => (t.toNat / 4, widthAfter w p.2)) ++ todo) (p :: seen)

/-- The vector loads and stores through port registers run under their port's element width (R403): some answer where the words show
it, for every way through them or for the one way that there is; none otherwise. -/
def widthsOk (widths : List Nat) (ws : List (BitVec 32)) : Option Bool :=
  match widthsReached ws (14 * ws.length + 16) [(0, none)] [] with
  | none => none
  | some seen =>
    let at_ := seen.filterMap (fun p =>
      let w := ws.getD p.1 0
      let r := wf w 16 12
      if (wf w 6 1 = 0x19 ∨ wf w 6 1 = 0x1A) ∧ 16 ≤ r ∧ r < 16 + widths.length then some (widths.getD (r - 16) 0, p.2) else none)
    if at_.all (fun a => decide (a.2 = some a.1)) then some true
    else if ws.all (fun w => wf w 6 1 != 0x04 && wf w 6 1 != 0x06) &&
        at_.any (fun a => a.2.isSome && decide (a.2 ≠ some a.1)) then some false
    else none

/-- The actors whose bodies are outside the subset. -/
def badBodies (c : List Byte) : List Nat :=
  let acts := actorsOf c
  let edges := edgesOf c
  (List.range acts.length).filter (fun i => match acts[i]? with
    | none => false
    | some a =>
      let ws := bodyWords c a
      let widths := (a.ins ++ a.outs).map (fun k => match edges[k]? with
        | some e => e.width
        | none => 0)
      !((List.range ws.length).all (fun j => inSubset ws.length j (ws.getD j 0)) &&
        (widthsOk widths ws).getD (Config.bodyAccepted c i)))

/-! Balance, schedule and buffers (R404, R405). -/

/-- The lowest actor without a rate begins a part of the graph at 1/1; an edge passes its rate on. A rate is a fraction. -/
def spreadRates (edges : List PEdge) : Nat → List (Option (Nat × Nat)) → List (Option (Nat × Nat))
  | 0, r => r
  | n + 1, r => spreadRates edges n (edges.foldl (fun r e =>
      let low (x y : Nat) : Nat × Nat := (x / Nat.gcd x y, y / Nat.gcd x y)
      match r.getD e.src none, r.getD e.dst none with
      | some q, none => r.set e.dst (some (low (q.1 * e.p) (q.2 * e.c)))
      | none, some q => r.set e.src (some (low (q.1 * e.c) (q.2 * e.p)))
      | _, _ => r) r)

/-- The rates of every part of the graph, each relative to its lowest actor, and which actors share a part. -/
def ratesFrom (edges : List PEdge) (n : Nat) : Nat → List (Option (Nat × Nat)) → List Nat → List (Option (Nat × Nat)) × List Nat
  | 0, r, root => (r, root)
  | f + 1, r, root =>
    match r.findIdx? Option.isNone with
    | none => (r, root)
    | some i =>
      let r1 := spreadRates edges n (r.set i (some (1, 1)))
      ratesFrom edges n f r1 ((List.range n).map (fun j =>
        if (r.getD j none).isNone && (r1.getD j none).isSome then i else root.getD j 0))

/-- The smallest positive repetition counts of R404, or the edges that no counts satisfy. -/
def balance (edges : List PEdge) (n : Nat) : List Nat ⊕ List Nat :=
  let rr := ratesFrom edges n n (List.replicate n none) (List.replicate n 0)
  let rate (i : Nat) : Nat × Nat := (rr.1.getD i none).getD (1, 1)
  let part (i : Nat) : List Nat := (List.range n).filter (fun j => rr.2.getD j 0 == rr.2.getD i 0)
  let q := (List.range n).map (fun i =>
    let l := (part i).foldl (fun m j => Nat.lcm m (rate j).2) 1
    let g := (part i).foldl (fun m j => Nat.gcd m ((rate j).1 * (l / (rate j).2))) 0
    (rate i).1 * (l / (rate i).2) / g)
  let bad := (List.range edges.length).filter (fun k => match edges[k]? with
    | some e => decide (e.p * q.getD e.src 0 ≠ e.c * q.getD e.dst 0)
    | none => false)
  if bad = [] then .inl q else .inr bad

/-- One period (R405): the firings left, the tokens on each edge, the most it has held, and the actors that have fired. The highest actor
that can fires next. The answer is the most that each edge held with the period order, or the actors that cannot fire any more. -/
def period (edges : List PEdge) : Nat → List Nat → List Nat → List Nat → List Nat → (List Nat × List Nat) ⊕ List Nat
  | 0, _, _, top, order => .inl (top, order)
  | fuel + 1, left, tok, top, order =>
    let can (a : Nat) : Bool := decide (left.getD a 0 ≠ 0) &&
      (List.range edges.length).all (fun k => match edges[k]? with
        | some e => decide (e.dst ≠ a ∨ e.c ≤ tok.getD k 0)
        | none => true)
    match (List.range left.length).reverse.find? can with
    | none =>
      let rest := (List.range left.length).filter (fun a => decide (left.getD a 0 ≠ 0))
      if rest = [] then .inl (top, order) else .inr rest
    | some a =>
      let tok1 := (edges.zip tok).map (fun x =>
        x.2 - (if x.1.dst = a then x.1.c else 0) + (if x.1.src = a then x.1.p else 0))
      period edges fuel (left.set a (left.getD a 0 - 1)) tok1 ((tok1.zip top).map (fun x => max x.1 x.2)) (order ++ [a])

/-- The bytes of each edge's buffer, in units of 256 (R407). -/
def roomOf (edges : List PEdge) (top : List Nat) : List Nat := (edges.zip top).map (fun x => ceilDiv (x.1.token * x.2) 256 * 256)

/-- The cores whose buffers exceed 196,608 bytes (R407): the buffer of an edge lies at its consumer. -/
def tooFull (edges : List PEdge) (n : Nat) (top : List Nat) : List Nat :=
  (List.range n).filter (fun i => decide (196608 <
    ((edges.zip (roomOf edges top)).map (fun x => if x.1.dst = i then x.2 else 0)).sum))

/-! The translation (R407, R408). -/

/-- A launch descriptor of a translation: a pipeline launch with loader, computer and storer in slots 0, 1 and 2. -/
def actorLaunch (entry arg key split : Nat) : Nat :=
  entry % 2 ^ 64 + arg % 2 ^ 64 * 2 ^ 64 + key % 2 ^ 64 * 2 ^ 128 + 1 * 2 ^ 192 + 3 * 2 ^ 200 + 2 ^ 224 + 2 ^ 226 +
  3 * 2 ^ 256 + split * 2 ^ 320 + 1 * 2 ^ 356 + 2 * 2 ^ 360

/-- The bytes of a translation for an area: its header, the launch descriptors, which enter the code, and the code (R408). -/
def translationBytes (nact split cluster out : Nat) (ask : Nat → Nat) : List Byte :=
  let n := ask 0 + 2
  toLe 4 0x31464150 ++ toLe 1 split ++ toLe 1 cluster ++ toLe 1 1 ++ List.replicate 57 0 ++
  (List.range nact).flatMap (fun i =>
    toLe 64 (actorLaunch (out + 64 + 64 * nact + 2 * (ask (1 + i) % (n / 2))) (ask (1000 + i)) (ask (2000 + i)) split)) ++
  (List.range n).map (fun i => BitVec.ofNat 8 (ask (10000 + i)))

/-- A request record (R406). -/
structure Request where
  raw : Nat
  deriving DecidableEq, Repr

/-- Field `[hi:lo]` of a request record. -/
def Request.f (r : Request) (hi lo : Nat) : Nat := bits r.raw hi lo

/-- The request is well formed. -/
def Request.ok (r : Request) : Bool :=
  decide (r.f 63 0 % 64 = 0 ∧ r.f 191 128 % 256 = 0 ∧ r.f 263 256 ≤ 4 ∧ r.f 271 264 ≤ 23 ∧ r.f 319 272 = 0) &&
  decide (1 ≤ r.f 447 384 ∧ r.f 447 384 < 2 ^ 32 ∧ r.f 511 448 = 0)

/-- What a translation gives: the bytes, or a status with the actors or edges it names. -/
abbrev Verdict := List Byte ⊕ (Nat × List Nat)

/-- The translation of a container (R400 to R408). A container that breaks several rules fails by the first of malformed,
subset, rates, deadlock, room. -/
def translateContainer (c : List Byte) (r : Request) : Verdict :=
  if r.ok = false ∨ headerOk c = false then .inr (1, [])
  else if malformedAt c ≠ [] then .inr (1, malformedAt c)
  else if badBodies c ≠ [] then .inr (5, badBodies c)
  else
    let edges := edgesOf c
    let n := cf c 6 2
    match balance edges n with
    | .inr bad => .inr (2, bad)
    | .inl q => match period edges q.sum q (edges.map PEdge.d) (edges.map PEdge.d) [] with
      | .inr bad => .inr (3, bad)
      | .inl (top, order) =>
        if tooFull edges n top ≠ [] then .inr (4, tooFull edges n top)
        else .inl (translationBytes n (r.f 263 256) (r.f 271 264) (r.f 191 128) (Config.translator
          { container := c, split := r.f 263 256, cluster := r.f 271 264, periods := r.f 447 384, reps := q, order := order
            depth := top, room := roomOf edges top, tokens := edges.map (initialTokens c) }))

/-! Serving a request (R406, R410). -/

/-- The result of a request, and whether its area could be written: which of several failing actors or edges it names, and what it
names where there is none, is open. -/
def answerRequest (s : State) (cluster asid : Nat) (ptbase arg : Word) (r : Request) (v : Verdict) : State × Bool :=
  let s1 := { s with free := s.free + 1 }
  match v with
  | .inr (st, l) =>
    let n := Config.freeNat s.free
    (translationResult s1 asid ptbase arg st (match l with
      | [] => n % 65536
      | x :: xs => (x :: xs).getD (n % (x :: xs).length) x) 0, true)
  | .inl bs =>
    if r.f 255 192 < bs.length then (translationResult s1 asid ptbase arg 6 (Config.freeNat s.free % 65536) 0, true)
    else match unitWrite s1 cluster asid ptbase (word (r.f 191 128)) false bs with
      | (s2, none) => (translationResult s2 asid ptbase arg 0 0 bs.length, true)
      | (s2, some _) => (translationResult s2 asid ptbase arg 7 0 0, false)

/-- The request record at an address. -/
def readRequest (s : State) (cluster asid : Nat) (ptbase arg : Word) : State × Option Request :=
  match unitRead s cluster asid ptbase arg false 64 with
  | (s1, .inl bs) => (s1, some ⟨ofLe bs⟩)
  | (s1, .inr _) => (s1, none)

/-- The container that a request names. -/
def readContainer (s : State) (cluster asid : Nat) (ptbase : Word) (r : Request) : State × Option (List Byte) :=
  match unitRead s cluster asid ptbase (word (r.f 63 0)) false (r.f 127 64) with
  | (s1, .inl bs) => (s1, some bs)
  | (s1, .inr _) => (s1, none)

/-- A request has its result, and its thread exits (R406). -/
def servedThread (s : State) (k : Nat) : State :=
  endThread (s.onLaunch (s.slot k).task.launch (fun l => { l with isTranslation := false })) k

/-- A translation that a process keeps, or has in progress, under the key of a container (R410). -/
def Translation.is (t : Translation) (asid : Nat) (c : List Byte) (r : Request) : Bool :=
  t.asid == asid && t.container == c && t.split == r.f 263 256 && t.cluster == r.f 271 264

/-- What a request gets from a finished translation (R410): a copy of it. -/
def cachedVerdict (r : Request) (bs : List Byte) : Verdict := if r.ok then .inl bs else .inr (1, [])

/-- The translator's first step for the thread of a slot: it reads the container, and answers from the cache, joins a
translation in progress, or begins one (R410). A request or container that cannot be read ends the thread at its trap
(R476). -/
def beginTranslation (s : State) (k asid : Nat) (ptbase arg : Word) : State :=
  let cl := clusterOf k
  match readRequest s cl asid ptbase arg with
  | (s1, none) => endThread s1 k
  | (s1, some r) => match readContainer s1 cl asid ptbase r with
    | (s2, none) => endThread s2 k
    | (s2, some c) =>
      match s2.translations.find? (fun t => t.is asid c r) with
      | some t => match t.out with
        | some bs => servedThread (answerRequest s2 cl asid ptbase arg r (cachedVerdict r bs)).1 k
        | none => { s2 with translations := s2.translations.map (fun u =>
            if u = t then { u with waiting := u.waiting ++ [(k, arg, r.raw)] } else u) }
      | none => { s2 with translations := s2.translations ++
          [⟨asid, c, r.f 263 256, r.f 271 264, (k, arg, r.raw), [], none⟩] }

/-- The translator's last step: the result of a translation in progress, for its request and for those that wait, as the requests were
read. A translation whose area cannot be written has failed: it leaves the cache, and those that wait for it receive status 7
(R476). -/
def endTranslation (s : State) (k asid : Nat) (ptbase arg : Word) (t : Translation) : State :=
  let v := translateContainer t.container ⟨t.maker.2.2⟩
  let a := answerRequest s (clusterOf k) asid ptbase arg ⟨t.maker.2.2⟩ v
  let gone := a.1.translations.filter (fun u => !(u == t))
  let s1 := servedThread { a.1 with translations := match v with
    | .inl bs => if a.2 then a.1.translations.map (fun u => if u = t then { u with waiting := [], out := some bs } else u) else gone
    | .inr _ => gone } k
  t.waiting.foldl (fun s w => servedThread (
    if a.2 then (answerRequest s (clusterOf w.1) asid ptbase w.2.1 ⟨w.2.2⟩ v).1
    else translationResult s asid ptbase w.2.1 7 0 0) w.1) s1

/-- A task of the queue that the host serves is complete. -/
def hostServed (s : State) (cl key : Nat) (q : QueueSt) (t : QTask) : State :=
  let s2 := s.onQueue key (fun q => { q with tasks := q.tasks.filter (fun u => !(u.seq == t.seq)) })
  settle (unitBack (s2.onLaunch t.launch (fun l => { l with left := 0, started := true, isTranslation := false })) cl key q t) key

/-- The host serves the request at the head of a queue that is not dispatched (R409): it reads request and container, writes the same
result from the same cache, and completes the task. It waits for a translation of the same key that is still in progress (R410). -/
def hostTranslation (s : State) (key : Nat) (q : QueueSt) (t : QTask) : State :=
  let cl := 3 * q.home
  let asid := keyAsid key
  let arg := word (dsc t.desc 127 64)
  match readRequest s cl asid q.ptbase arg with
  | (s1, none) => hostServed (translationResult s1 asid q.ptbase arg 7 0 0) cl key q t
  | (s1, some r) => match readContainer s1 cl asid q.ptbase r with
    | (s2, none) => hostServed (translationResult s2 asid q.ptbase arg 7 0 0) cl key q t
    | (s2, some c) => match s2.translations.find? (fun u => u.is asid c r) with
      | some u => match u.out with
        | some bs => hostServed (answerRequest s2 cl asid q.ptbase arg r (cachedVerdict r bs)).1 cl key q t
        | none => s
      | none =>
        let v := translateContainer c r
        let a := answerRequest s2 cl asid q.ptbase arg r v
        hostServed (match v with
          | .inl bs => if a.2 then { a.1 with translations := a.1.translations ++
              [⟨asid, c, r.f 263 256, r.f 271 264, (0, arg, r.raw), [], some bs⟩] } else a.1
          | .inr _ => a.1) cl key q t

/-- TRANSLATION_REQUEST: a step of the translator thread of slot `who` (host 0), or the host's service of the queue `who`
whose tasks are not dispatched (host 1). -/
def execTranslationRequest (host who : Nat) (s : State) : Host.Outcome State Fault Refusal :=
  .next (
    if host = 0 then
      let x := s.slot who
      match s.launch x.task.launch with
      | none => s
      | some l =>
        if l.isTranslation = false ∨ x.res = .empty then s else
        match s.translations.find? (fun t => t.asid == x.asidN && t.out.isNone &&
            ((t.maker.1, t.maker.2.1) == (who, l.arg) || t.waiting.any (fun w => (w.1, w.2.1) == (who, l.arg)))) with
        | some t => if (t.maker.1, t.maker.2.1) = (who, l.arg) then endTranslation s who x.asidN x.sys.ptbase l.arg t else s
        | none => beginTranslation s who x.asidN x.sys.ptbase l.arg
    else match s.queue who with
      | none => s
      | some q => match leadOf q with
        | none => s
        | some t => match s.launch t.launch with
          | some l => if l.isTranslation && assisted s (3 * q.home) 4 then hostTranslation s who q t else s
          | none => s)

end Sys2Proof.Machine
end

