-- ==== Sys2Proof/Machine/System.lean ====
section
/-! DEFINITION. Machine/System.lean: TRAP, BRK, ERET, HALT and the system register instructions (R252 to R257). -/

namespace Sys2Proof.Machine

/-- The register number of an X-format word (R69). -/
def sysNo (x : XF) : Nat := x.imm.toNat

/-- TRAP: epc is the next instruction, einfo the code (R254). -/
def execTrap (x : XF) (s : State) : Host.Outcome State Fault Refusal :=
  run { reason := zeroXFAD x, irrev := true } s (fun _ s =>
    .ok () (takeTrap s s.cur ⟨1, 0, zext64 x.imm⟩ (s.me.regs.pc + 4) true))

/-- BRK: epc is the BRK itself (R254). -/
def execBrk (x : XF) (s : State) : Host.Outcome State Fault Refusal :=
  run { reason := zeroXFAD x, irrev := true } s (fun _ _ => .trap ⟨2, 0, zext64 x.imm⟩ .none)

/-- ERET: an odd epc traps and changes nothing (R255). -/
def execEret (x : XF) (s : State) : Host.Outcome State Fault Refusal :=
  run { reason := zeroXFImmAD x, priv := true, irrev := true } s (fun _ s =>
    if s.me.sys.epc.getLsbD 0 then .trap ⟨0x13, s.me.sys.epc, einfoOf 2 0 false 0⟩ .none
    else .ok () (resumeReds (s.onMe (Slot.eret s.cycle)) s.cur))

/-- HALT: out of the rotation until an interrupt, a pre-emption or a slot reset (R256). -/
def execHalt (x : XF) (s : State) : Host.Outcome State Fault Refusal :=
  run { reason := zeroXFImmAD x, priv := true, irrev := true } s (fun _ s =>
    .ok () ((advance s 4).onMe (fun y => if y.irq ∨ y.preempt.isSome then y else { y with wait := .halt })))

/-- The checks of a system register access (R69, R76, R89, R433). -/
def sysForm (s : State) (x : XF) (zero : Option Nat) (srcs dsts : List Reg) (write : Bool) : Form :=
  { reason := sysReason s.me zero (sysNo x) (srcs ++ dsts), srcs := srcs, dsts := dsts
    priv := sysDenied s.me (sysNo x) write, privReason := 2, irrev := true }

/-- The wait of an access to the vector context's registers for the slot's vector unit (R70). -/
def sysReady (s : State) (n : Nat) (refused : Bool) (r : R Unit) : R Unit :=
  if sysVector n = true ∧ s.me.held ≠ [] then .trap (ownCause s.me 0x12 (if refused then 5 else 21)) .none
  else if sysVector n = true ∧ s.me.vq ≠ [] then .wait .drain none
  else r

/-- A read of the lease in supervisor mode, as into a context image (R78, R380). -/
def noteLease (s : State) (n : Nat) : State :=
  if n = 0x031 ∧ s.me.spv = true then s.onMe (fun x => { x with sys := { x.sys with leaseSaved := true } }) else s

/-- SYSRD (R257). -/
def execSysrd (x : XF) (s : State) : Host.Outcome State Fault Refusal :=
  run (sysForm s x (zeroXFA x) [] [x.d] false) s (fun _ s =>
    sysReady s (sysNo x) false (writeAdvance (noteLease s (sysNo x)) x.d (sysGet s s.cur (sysNo x)) 4))

/-- A pair pass of the core waits for its partner: a change of owner waits for its end (R206). -/
def passWaits (s : State) : Bool := (waitingAt s (coreOf s.cur)).isSome

/-- A write of a value, refused ones trapping (R69). -/
def sysStore (s : State) (n : Nat) (v : Word) : R Unit :=
  match sysPut s s.cur n v with
  | none => .trap (ownCause s.me 0x12 5) .none
  | some s1 => if n = 0x014 ∧ passWaits s = true then .wait .drain none else .ok () (advance s1 4)

/-- SYSWR (R257). -/
def execSyswr (x : XF) (s : State) : Host.Outcome State Fault Refusal :=
  run (sysForm s x (zeroXFD x) [x.a] [] true) s (fun got s =>
    let v := srcVal s got x.a
    sysReady s (sysNo x) (sysPut s s.cur (sysNo x) v).isNone (sysStore s (sysNo x) v))

/-- SYSSET and SYSCLR: the old value to s[d], the new one to the register, in one access (R257). Of cdst itself the new value
remains: the spec leaves open whether it or the register number d does (R64; DESIGN CHOICE, log 134). -/
def sysChange (x : XF) (f : Word → Word → Word) (s : State) : Host.Outcome State Fault Refusal :=
  run (sysForm s x none [x.a] [x.d] true) s (fun got s =>
    let old := sysGet s s.cur (sysNo x)
    let v := f old (srcVal s got x.a)
    sysReady s (sysNo x) (sysPut s s.cur (sysNo x) v).isNone (
      if (sysPut s s.cur (sysNo x) v).isNone then .trap (ownCause s.me 0x12 5) .none
      else (writeDst s x.d old).bind (fun _ s => sysStore s (sysNo x) v)))

/-- SYSSET. -/
def execSysset (x : XF) (s : State) : Host.Outcome State Fault Refusal := sysChange x (fun o a => o ||| a) s
/-- SYSCLR. -/
def execSysclr (x : XF) (s : State) : Host.Outcome State Fault Refusal := sysChange x (fun o a => o &&& ~~~a) s

end Sys2Proof.Machine
end

