-- ==== Sys2Proof/Machine/EvReg.lean ====
section
/-! DEFINITION. Machine/EvReg.lean: the writes of system registers as steps of their own (R68, R155, R191, R269, R285, R379,
R380): what SYSWR, SYSSET and SYSCLR write through. A refused value leaves everything as it was (R69). -/

namespace Sys2Proof.Machine

/-- A write of register `n` of slot `k`. -/
def regStep (s : State) (k n : Nat) (w : Word) : Host.Outcome State Fault Refusal := .next ((sysPut s k n w).getD s)

/-- PTBASE_WRITE. -/
def execPtbaseWrite (slot : Nat) (value : Word) (s : State) : Host.Outcome State Fault Refusal := regStep s slot 0x041 value

/-- VCTX_WRITE: no change of owner falls inside a pass that waits for its partner (R206). -/
def execVctxWrite (slot : Nat) (value : Word) (s : State) : Host.Outcome State Fault Refusal :=
  if (waitingAt s (coreOf slot)).isSome then .next s else regStep s slot 0x014 value

/-- VECTOR_LENGTH_WRITE: vl, vtype or vstart. -/
def execVectorLengthWrite (slot reg : Nat) (value : Word) (s : State) : Host.Outcome State Fault Refusal :=
  if 0x010 ≤ reg ∧ reg ≤ 0x012 then regStep s slot reg value else .next s

/-- TILE_SHAPE_WRITE: tm, tn, tk or tmode. -/
def execTileShapeWrite (slot reg : Nat) (value : Word) (s : State) : Host.Outcome State Fault Refusal :=
  if 0x018 ≤ reg ∧ reg ≤ 0x01B then regStep s slot reg value else .next s

/-- PWREQ_WRITE. -/
def execPwreqWrite (slot : Nat) (value : Word) (s : State) : Host.Outcome State Fault Refusal := regStep s slot 0x030 value

/-- LEASE_WRITE. -/
def execLeaseWrite (slot : Nat) (value : Word) (s : State) : Host.Outcome State Fault Refusal := regStep s slot 0x031 value

/-- PWBUD_WRITE. -/
def execPwbudWrite (slot : Nat) (value : Word) (s : State) : Host.Outcome State Fault Refusal := regStep s slot 0x032 value

/-- HMODE_WRITE. -/
def execHmodeWrite (part : Nat) (value : Word) (s : State) : Host.Outcome State Fault Refusal := .next (putHmode s part value)

end Sys2Proof.Machine
end

