-- ==== Sys2Proof/Machine/EvSlot.lean ====
section
/-! DEFINITION. Machine/EvSlot.lean: the steps that wake or interrupt a slot (R59, R60, R80, R88, R200, R231, R235, R243,
R254, R256, R349, R444). An event whose occasion is not there leaves the state as it is. -/

namespace Sys2Proof.Machine

/-! Waits that end. -/

/-- A slot that waits on an empty bound queue goes on when an entry is there (R235). -/
def popWake (s : State) (k : Nat) : State :=
  match (s.slot k).wait with
  | .pop p => if popReady s k p then s.wake k else s
  | _ => s

/-- POP_WAIT_WAKE. -/
def execPopWaitWake (slot : Nat) (s : State) : Host.Outcome State Fault Refusal := .next (popWake s slot)

/-- There is capacity of the kind that a slot of a core waits for (R231). -/
def hasCapacity (s : State) (core kind idx : Nat) : Bool :=
  match kind with
  | 0 => runRoom s idx
  | 1 =>
    let q := rd ScalarQ.empty (s.core core).sq idx
    decide (q.elems.length + q.resv < 8)
  | _ => decide ((s.engine idx).cmds.length + (s.engine idx).resv < 64)

/-- A blocked push, enqueue or spawn goes on when capacity has been given back. -/
def capacityWake (s : State) (k : Nat) : State :=
  match (s.slot k).wait with
  | .capacity kind idx => if hasCapacity s (coreOf k) kind idx then s.wake k else s
  | _ => s

/-- CAPACITY_WAIT_WAKE. -/
def execCapacityWaitWake (slot : Nat) (s : State) : Host.Outcome State Fault Refusal := .next (capacityWake s slot)

/-- The end of a SLEEP with its result; one whose destination is a bound queue without room sleeps on (R243). -/
def endSleep (s : State) (k : Nat) (d : Reg) (v : Word) : State :=
  let s1 := { s.wake k with cur := k }
  match writeAdvance s1 d v 4 with
  | .wait _ _ => s
  | r => finish true 1 s1 r

/-- A sleeping slot wakes on an event, with 1, or when its time has passed, with 0 (R243). -/
def sleepEnds (s : State) (k : Nat) : State :=
  match (s.slot k).wait with
  | .sleep till d =>
    if sleepEvent s k then endSleep s k d 1
    else match till with
      | some t => if t ≤ s.cycle then endSleep s k d 0 else s
      | none => s
  | _ => s

/-- SLEEP_WAKE. -/
def execSleepWake (slot : Nat) (s : State) : Host.Outcome State Fault Refusal := .next (sleepEnds s slot)

/-- A BARWT whose generation has changed goes on (R349); sleeping slots of its core and process wake with it (R243). -/
def barrierWake (s : State) (k : Nat) : State :=
  let x := s.slot k
  match x.wait with
  | .barrier key gen =>
    if (barRead s key).gen = gen.toNat then s
    else s.slots.foldl (fun s e =>
      if coreOf e.1 = coreOf k ∧ e.2.asidN = x.asidN then
        (match e.2.wait with | .sleep _ d => endSleep s e.1 d 1 | _ => s)
      else s) (s.wake k)
  | _ => s

/-- BARWT_WAKE. -/
def execBarwtWake (slot : Nat) (s : State) : Host.Outcome State Fault Refusal := .next (barrierWake s slot)

/-! Interrupts and pre-emption. -/

/-- A slot may take an interrupt at an instruction boundary: it is enabled, runs a thread, is not leaving, no pair pass
of it waits, and no counter instruction that its home has applied is to complete (R59, R71, R344). -/
def mayInterrupt (x : Slot) : Bool :=
  x.ie && decide (x.res = .full ∨ x.res = .light) && decide (x.wait ≠ .exited) && x.pairSince.isNone &&
    !x.answered

/-- The trap of a time slice or an interrupt: the open chunk commits first (R59, R253), and an imprecise fault that is pending
is taken instead (R422). -/
def interruptTrap (s : State) (k i : Nat) (f : Slot → Slot) : State :=
  let x := s.slot k
  if x.chunk.count ≠ 0 then s.onSlot k Slot.close
  else if x.vfault.isSome then takeImprecise (if x.wait = .halt then s.wake k else s) k
  else takeTrap (s.onSlot k f) k ⟨0x03, 0, word i⟩ x.regs.pc true

/-- The time-slice trap of a slot that a pre-emption was requested of; a graphics thread waits for its YIELD, and a sleeping
slot wakes first (R58, R59). -/
def sliceTrap (s : State) (k : Nat) : State :=
  let x := s.slot k
  match x.preempt, x.wait with
  | some _, .sleep _ d => endSleep s k d 1
  | some i, _ =>
    if mayInterrupt x = true ∧ x.gfx = false then interruptTrap s k i (fun y => { y with preempt := none }) else s
  | none, _ => s

/-- TIME_SLICE_TRAP. -/
def execTimeSliceTrap (slot : Nat) (s : State) : Host.Outcome State Fault Refusal := .next (sliceTrap s slot)

/-- A host interrupt directed at a slot: a halted slot returns to the rotation, a sleeping one wakes first, as by an event;
the trap is taken at once where it can be (R243, R254, R256). -/
def hostIrq (s : State) (k : Nat) : State :=
  let x := s.slot k
  if x.res = .empty ∨ x.res = .segment then s
  else
    let s1 := s.onSlot k (fun y => { y with irq := true, wait := if y.wait = .halt then .none else y.wait })
    if mayInterrupt (s1.slot k) then match x.wait with
      | .sleep _ d => endSleep s1 k d 1
      | _ => interruptTrap s1 k 2 (fun y => { y with irq := false })
    else s1

/-- HOST_INTERRUPT. -/
def execHostInterrupt (slot : Nat) (s : State) : Host.Outcome State Fault Refusal := .next (hostIrq s slot)

/-- SLOT_RESET: a halted slot returns to the rotation (R256). -/
def execSlotReset (slot : Nat) (s : State) : Host.Outcome State Fault Refusal :=
  .next (s.onSlot slot (fun x => if x.wait = .halt then { x with wait := .none } else x))

/-- A pair pass waited too long: 256 µs, or 40 µs under a display-deadline pre-emption (R60, R200, R472). Both are counted
from the start of the wait; the spec leaves open whether the 40 µs run from the request (DESIGN CHOICE, log 132). -/
def pairTimeout (s : State) (k : Nat) : State :=
  let x := s.slot k
  match x.pairSince with
  | none => s
  | some c =>
    let limit := if x.preempt = some 1 then 40 else 256
    if s.cycle < c + limit * usCycles then s
    else
      let r := if x.preempt.isSome then 6 else 5
      abortPartner (abortWaiting s k r) (coreOf k) (pairCore x.sys.pairp) r

/-- PAIR_PARTNER_TIMEOUT. -/
def execPairPartnerTimeout (slot : Nat) (s : State) : Host.Outcome State Fault Refusal := .next (pairTimeout s slot)

/-! Words that are no instruction, and fetches that fail. -/

/-- UNALLOCATED_ENCODING: the issuing slot takes ecause 0x10 (R88, R431, R432). -/
def execUnallocatedEncoding (reason : Nat) (s : State) : Host.Outcome State Fault Refusal :=
  run {} s (fun _ s => .trap (ownCause s.me 0x10 reason) .none)

/-- FETCH_FAULT: the issuing slot takes ecause 0x15 (R80, R444). -/
def execFetchFault (reason level addr : Nat) (s : State) : Host.Outcome State Fault Refusal :=
  match s.me.res with
  | .empty => .fault .emptySlot
  | .segment => .fault .emptySlot
  | _ => .next (fetchTrap s reason level (word addr))

end Sys2Proof.Machine
end

