-- ==== Sys2Proof/Machine/ScalarFp.lean ====
section
/-! DEFINITION. Machine/ScalarFp.lean: scalar floating point (R146): FP32 in the low half of a register, rounded under
R12; the conversions take their rounding from the b field. -/

namespace Sys2Proof.Machine

/-- The FP32 operand in the low half of a register (R146). -/
def fp32 (w : Word) : FVal := decodeF 0 (w.toNat % 2 ^ 32)

/-- A two-source FP32 operation: the result zero-extended. -/
def fpRR (x : TF) (f : FVal → FVal → Nat) (s : State) : Host.Outcome State Fault Refusal :=
  run { srcs := [x.a, x.b], dsts := [x.d] } s (fun got s =>
    writeAdvance s x.d (word (f (fp32 (srcVal s got x.a)) (fp32 (srcVal s got x.b)))) 4)

/-- An FP32 compare into a predicate bit. -/
def fpCmp (x : TF) (f : FVal → FVal → Bool) (s : State) : Host.Outcome State Fault Refusal :=
  run { srcs := [x.a, x.b] } s (fun got s =>
    .ok () (setPredAdvance s x.d (f (fp32 (srcVal s got x.a)) (fp32 (srcVal s got x.b))) 4))

/-- The integer type that bits [1:0] of a conversion code name. -/
def cvtType (b : Reg) : IntTy := ⟨if b.getLsbD 1 then 32 else 64, !b.getLsbD 0⟩
/-- The rounding that bits [3:2] of a conversion code name. -/
def cvtRound (b : Reg) : Gov := ⟨(b.toNat / 4) % 4, false, false⟩

/-- A conversion; a code with bit 4 set traps (R434 reason 24). -/
def fpCvt (x : TF) (f : Word → Word) (s : State) : Host.Outcome State Fault Refusal :=
  run { srcs := [x.a], dsts := [x.d] } s (fun got s =>
    if x.b.getLsbD 4 then .trap (ownCause s.me 0x12 24) .none
    else writeAdvance s x.d (f (srcVal s got x.a)) 4)

/-- An integer of the given type rounded to FP32 (R123). -/
def cvtIF (b : Reg) (w : Word) : Word := word (writeF (cvtRound b) 0 (ofIntV ((cvtType b).get w.toNat)))
/-- An FP32 value rounded and clamped to the given type, extended by its kind (R123, R146). -/
def cvtFI (b : Reg) (w : Word) : Word :=
  word (truncI 64 ((cvtType b).get (toIntF (cvtRound b).rm (cvtType b) (fp32 w))))

/-- FADD. -/
def execFadd (x : TF) (s : State) : Host.Outcome State Fault Refusal :=
  fpRR x (fun a b => round32 .default (addV 0 a b)) s
/-- FSUB. -/
def execFsub (x : TF) (s : State) : Host.Outcome State Fault Refusal :=
  fpRR x (fun a b => round32 .default (addV 0 a (negV b))) s
/-- FMUL. -/
def execFmul (x : TF) (s : State) : Host.Outcome State Fault Refusal :=
  fpRR x (fun a b => round32 .default (mulV a b)) s
/-- FMA: the addend is the destination's own low half; one rounding. -/
def execFma (x : TF) (s : State) : Host.Outcome State Fault Refusal :=
  run { srcs := [x.a, x.b, x.d], dsts := [x.d] } s (fun got s =>
    let p := mulV (fp32 (srcVal s got x.a)) (fp32 (srcVal s got x.b))
    writeAdvance s x.d (word (round32 .default (addV 0 p (fp32 (srcVal s got x.d))))) 4)
/-- FDIV. -/
def execFdiv (x : TF) (s : State) : Host.Outcome State Fault Refusal := fpRR x (divF .default 0) s
/-- FSQRT. -/
def execFsqrt (x : TF) (s : State) : Host.Outcome State Fault Refusal :=
  run { reason := zeroTFB x, srcs := [x.a], dsts := [x.d] } s (fun got s =>
    writeAdvance s x.d (word (sqrtF .default 0 (fp32 (srcVal s got x.a)))) 4)
/-- FCMPEQ. -/
def execFcmpeq (x : TF) (s : State) : Host.Outcome State Fault Refusal := fpCmp x eqV s
/-- FCMPLT. -/
def execFcmplt (x : TF) (s : State) : Host.Outcome State Fault Refusal := fpCmp x ltV s
/-- FCMPLE. -/
def execFcmple (x : TF) (s : State) : Host.Outcome State Fault Refusal := fpCmp x leV s
/-- FCMPUN. -/
def execFcmpun (x : TF) (s : State) : Host.Outcome State Fault Refusal := fpCmp x unorderedV s
/-- FCVTIF. -/
def execFcvtif (x : TF) (s : State) : Host.Outcome State Fault Refusal := fpCvt x (cvtIF x.b) s
/-- FCVTFI. -/
def execFcvtfi (x : TF) (s : State) : Host.Outcome State Fault Refusal := fpCvt x (cvtFI x.b) s

end Sys2Proof.Machine
end

