-- ==== Sys2Proof/Machine/ScalarInt.lean ====
section
/-! DEFINITION. Machine/ScalarInt.lean: integer register and immediate operations, compares and predicates, wide
immediates (R136 to R138, R141). -/

namespace Sys2Proof.Machine

/-- A two-source register operation of the T format. -/
def intRR (x : TF) (f : Word → Word → Word) (s : State) : Host.Outcome State Fault Refusal :=
  run { srcs := [x.a, x.b], dsts := [x.d] } s (fun got s =>
    writeAdvance s x.d (f (srcVal s got x.a) (srcVal s got x.b)) 4)

/-- A one-source register operation of the T format, whose b field is zero. -/
def intR (x : TF) (f : Word → Word) (s : State) : Host.Outcome State Fault Refusal :=
  run { reason := zeroTFB x, srcs := [x.a], dsts := [x.d] } s (fun got s =>
    writeAdvance s x.d (f (srcVal s got x.a)) 4)

/-- An immediate operation of the I format: y = sext(imm12, 12) (R137). -/
def intRI (x : IF) (f : Word → Word → Word) (s : State) : Host.Outcome State Fault Refusal :=
  run { srcs := [x.a], dsts := [x.d] } s (fun got s =>
    writeAdvance s x.d (f (srcVal s got x.a) (sext64 x.imm)) 4)

/-- A shift by imm12[5:0]; imm12[11:6] must be zero (R137, R434 reason 24). R89 does not place this check against the wait
on a bound source and its pop: the model makes it after them, as a cause of step 6 (DESIGN CHOICE, log 136); a trap undoes the
pop. -/
def shiftRI (x : IF) (f : Word → Nat → Word) (s : State) : Host.Outcome State Fault Refusal :=
  run { srcs := [x.a], dsts := [x.d] } s (fun got s =>
    if x.imm.toNat < 64 then writeAdvance s x.d (f (srcVal s got x.a) x.imm.toNat) 4
    else .trap (ownCause s.me 0x12 24) .none)

/-- The low six bits of a shift amount (R136). -/
def shiftOf (y : Word) : Nat := y.toNat % 64

/-- The high half of a signed product (R136). -/
def mulHigh (x y : Word) : Word := word (truncI 128 (x.toInt * y.toInt) / 2 ^ 64)
/-- The high half of an unsigned product (R136). -/
def mulHighU (x y : Word) : Word := word (x.toNat * y.toNat / 2 ^ 64)
/-- The signed quotient toward zero; all ones for a zero divisor (R111, R136). -/
def divS (x y : Word) : Word := if y = 0 then BitVec.allOnes 64 else x.sdiv y
/-- The signed remainder; the dividend for a zero divisor (R111, R136). -/
def remS (x y : Word) : Word := if y = 0 then x else x.srem y
/-- The unsigned quotient; all ones for a zero divisor (R111, R136). -/
def divU (x y : Word) : Word := if y = 0 then BitVec.allOnes 64 else x.udiv y
/-- The unsigned remainder; the dividend for a zero divisor (R111, R136). -/
def remU (x y : Word) : Word := if y = 0 then x else x.umod y

/-- ADD. -/
def execAdd (x : TF) (s : State) : Host.Outcome State Fault Refusal := intRR x (fun a b => a + b) s
/-- SUB. -/
def execSub (x : TF) (s : State) : Host.Outcome State Fault Refusal := intRR x (fun a b => a - b) s
/-- MUL. -/
def execMul (x : TF) (s : State) : Host.Outcome State Fault Refusal := intRR x (fun a b => a * b) s
/-- MULH. -/
def execMulh (x : TF) (s : State) : Host.Outcome State Fault Refusal := intRR x mulHigh s
/-- MULHU. -/
def execMulhu (x : TF) (s : State) : Host.Outcome State Fault Refusal := intRR x mulHighU s
/-- DIV. -/
def execDiv (x : TF) (s : State) : Host.Outcome State Fault Refusal := intRR x divS s
/-- DIVU. -/
def execDivu (x : TF) (s : State) : Host.Outcome State Fault Refusal := intRR x divU s
/-- REM. -/
def execRem (x : TF) (s : State) : Host.Outcome State Fault Refusal := intRR x remS s
/-- REMU. -/
def execRemu (x : TF) (s : State) : Host.Outcome State Fault Refusal := intRR x remU s
/-- AND. -/
def execAnd (x : TF) (s : State) : Host.Outcome State Fault Refusal := intRR x (fun a b => a &&& b) s
/-- OR. -/
def execOr (x : TF) (s : State) : Host.Outcome State Fault Refusal := intRR x (fun a b => a ||| b) s
/-- XOR. -/
def execXor (x : TF) (s : State) : Host.Outcome State Fault Refusal := intRR x (fun a b => a ^^^ b) s
/-- SLL. -/
def execSll (x : TF) (s : State) : Host.Outcome State Fault Refusal := intRR x (fun a b => a <<< shiftOf b) s
/-- SRL. -/
def execSrl (x : TF) (s : State) : Host.Outcome State Fault Refusal := intRR x (fun a b => a >>> shiftOf b) s
/-- SRA. -/
def execSra (x : TF) (s : State) : Host.Outcome State Fault Refusal := intRR x (fun a b => a.sshiftRight (shiftOf b)) s
/-- MIN. -/
def execMin (x : TF) (s : State) : Host.Outcome State Fault Refusal := intRR x (fun a b => if a.slt b then a else b) s
/-- MAX. -/
def execMax (x : TF) (s : State) : Host.Outcome State Fault Refusal := intRR x (fun a b => if a.slt b then b else a) s
/-- MINU. -/
def execMinu (x : TF) (s : State) : Host.Outcome State Fault Refusal := intRR x (fun a b => if a.ult b then a else b) s
/-- MAXU. -/
def execMaxu (x : TF) (s : State) : Host.Outcome State Fault Refusal := intRR x (fun a b => if a.ult b then b else a) s
/-- CLZ. -/
def execClz (x : TF) (s : State) : Host.Outcome State Fault Refusal := intR x (fun a => word (clzN 64 a.toNat)) s
/-- CTZ. -/
def execCtz (x : TF) (s : State) : Host.Outcome State Fault Refusal := intR x (fun a => word (ctzN 64 a.toNat)) s
/-- POPC. -/
def execPopc (x : TF) (s : State) : Host.Outcome State Fault Refusal := intR x (fun a => word (popCount 64 a.toNat)) s
/-- SEL: x when the predicate bit of the destination's number is set, otherwise y (R136). -/
def execSel (x : TF) (s : State) : Host.Outcome State Fault Refusal :=
  run { srcs := [x.a, x.b], dsts := [x.d] } s (fun got s =>
    writeAdvance s x.d (if s.me.regs.getP x.d then srcVal s got x.a else srcVal s got x.b) 4)

/-- ADDI. -/
def execAddi (x : IF) (s : State) : Host.Outcome State Fault Refusal := intRI x (fun a b => a + b) s
/-- ANDI. -/
def execAndi (x : IF) (s : State) : Host.Outcome State Fault Refusal := intRI x (fun a b => a &&& b) s
/-- ORI. -/
def execOri (x : IF) (s : State) : Host.Outcome State Fault Refusal := intRI x (fun a b => a ||| b) s
/-- XORI. -/
def execXori (x : IF) (s : State) : Host.Outcome State Fault Refusal := intRI x (fun a b => a ^^^ b) s
/-- SLLI. -/
def execSlli (x : IF) (s : State) : Host.Outcome State Fault Refusal := shiftRI x (fun a n => a <<< n) s
/-- SRLI. -/
def execSrli (x : IF) (s : State) : Host.Outcome State Fault Refusal := shiftRI x (fun a n => a >>> n) s
/-- SRAI. -/
def execSrai (x : IF) (s : State) : Host.Outcome State Fault Refusal := shiftRI x (fun a n => a.sshiftRight n) s

/-- A register compare: p[d] := relation (R138). -/
def cmpRR (x : TF) (f : Word → Word → Bool) (s : State) : Host.Outcome State Fault Refusal :=
  run { srcs := [x.a, x.b] } s (fun got s =>
    .ok () (setPredAdvance s x.d (f (srcVal s got x.a) (srcVal s got x.b)) 4))

/-- A compare with sext(imm12, 12) (R138). -/
def cmpRI (x : IF) (f : Word → Word → Bool) (s : State) : Host.Outcome State Fault Refusal :=
  run { srcs := [x.a] } s (fun got s => .ok () (setPredAdvance s x.d (f (srcVal s got x.a) (sext64 x.imm)) 4))

/-- A logical operation on predicate bits (R138). -/
def predOp (x : TF) (reason : Option Nat) (f : Bool → Bool → Bool) (s : State) : Host.Outcome State Fault Refusal :=
  run { reason := reason } s (fun _ s =>
    .ok () (setPredAdvance s x.d (f (s.me.regs.getP x.a) (s.me.regs.getP x.b)) 4))

/-- CMPEQ. -/
def execCmpeq (x : TF) (s : State) : Host.Outcome State Fault Refusal := cmpRR x (fun a b => a == b) s
/-- CMPNE. -/
def execCmpne (x : TF) (s : State) : Host.Outcome State Fault Refusal := cmpRR x (fun a b => a != b) s
/-- CMPLT. -/
def execCmplt (x : TF) (s : State) : Host.Outcome State Fault Refusal := cmpRR x (fun a b => a.slt b) s
/-- CMPLE. -/
def execCmple (x : TF) (s : State) : Host.Outcome State Fault Refusal := cmpRR x (fun a b => a.sle b) s
/-- CMPLTU. -/
def execCmpltu (x : TF) (s : State) : Host.Outcome State Fault Refusal := cmpRR x (fun a b => a.ult b) s
/-- CMPLEU. -/
def execCmpleu (x : TF) (s : State) : Host.Outcome State Fault Refusal := cmpRR x (fun a b => a.ule b) s
/-- PAND. -/
def execPand (x : TF) (s : State) : Host.Outcome State Fault Refusal := predOp x none (fun a b => a && b) s
/-- POR. -/
def execPor (x : TF) (s : State) : Host.Outcome State Fault Refusal := predOp x none (fun a b => a || b) s
/-- PXOR. -/
def execPxor (x : TF) (s : State) : Host.Outcome State Fault Refusal := predOp x none (fun a b => a != b) s
/-- PNOT. -/
def execPnot (x : TF) (s : State) : Host.Outcome State Fault Refusal := predOp x (zeroTFB x) (fun a _ => !a) s
/-- PRD: the predicate word, zero-extended, to s[d]. -/
def execPrd (x : TF) (s : State) : Host.Outcome State Fault Refusal :=
  run { reason := zeroTFBA x, dsts := [x.d] } s (fun _ s => writeAdvance s x.d (zext64 s.me.regs.p) 4)
/-- PWR: the predicate word from s[a][31:0]. -/
def execPwr (x : TF) (s : State) : Host.Outcome State Fault Refusal :=
  run { reason := zeroTFBD x, srcs := [x.a] } s (fun got s =>
    .ok () (setPredWord s ((srcVal s got x.a).setWidth 32) 4))
/-- CMPEQI. -/
def execCmpeqi (x : IF) (s : State) : Host.Outcome State Fault Refusal := cmpRI x (fun a b => a == b) s
/-- CMPLTI. -/
def execCmplti (x : IF) (s : State) : Host.Outcome State Fault Refusal := cmpRI x (fun a b => a.slt b) s

/-- imm20 × 4,096, sign-extended from 32 bits (R83, R141). -/
def wideImm (imm : BitVec 20) : Word := sext64 (imm ++ 0#12)
/-- LIW. -/
def execLiw (x : WF) (s : State) : Host.Outcome State Fault Refusal :=
  run { dsts := [x.d] } s (fun _ s => writeAdvance s x.d (wideImm x.imm) 4)
/-- PCADD. -/
def execPcadd (x : WF) (s : State) : Host.Outcome State Fault Refusal :=
  run { dsts := [x.d] } s (fun _ s => writeAdvance s x.d (s.me.regs.pc + wideImm x.imm) 4)

end Sys2Proof.Machine
end

