-- ==== Sys2Proof/Machine/Dispatch.lean ====
section
/-! DEFINITION. Machine/Dispatch.lean: one arm per row of the opcode table. -/

namespace Sys2Proof.Machine

/-- The meaning of an instruction, or of a step of the part itself. -/
def exec (i : Instr) (s : State) : Host.Outcome State Fault Refusal :=
  match i with
  | .trap x => Sys2Proof.Machine.execTrap x s
  | .eret x => Sys2Proof.Machine.execEret x s
  | .sysrd x => Sys2Proof.Machine.execSysrd x s
  | .syswr x => Sys2Proof.Machine.execSyswr x s
  | .sysset x => Sys2Proof.Machine.execSysset x s
  | .sysclr x => Sys2Proof.Machine.execSysclr x s
  | .vsave x => Sys2Proof.Machine.execVsave x s
  | .vrstr x => Sys2Proof.Machine.execVrstr x s
  | .asave x => Sys2Proof.Machine.execAsave x s
  | .arstr x => Sys2Proof.Machine.execArstr x s
  | .frsave x => Sys2Proof.Machine.execFrsave x s
  | .frload x => Sys2Proof.Machine.execFrload x s
  | .halt x => Sys2Proof.Machine.execHalt x s
  | .brk x => Sys2Proof.Machine.execBrk x s
  | .fence x => Sys2Proof.Machine.execFence x s
  | .fsmp x => Sys2Proof.Machine.execFsmp x s
  | .chunk x => Sys2Proof.Machine.execChunk x s
  | .dcwb x => Sys2Proof.Machine.execDcwb x s
  | .dcinv x => Sys2Proof.Machine.execDcinv x s
  | .icinv x => Sys2Proof.Machine.execIcinv x s
  | .ipf x => Sys2Proof.Machine.execIpf x s
  | .dpf x => Sys2Proof.Machine.execDpf x s
  | .br x => Sys2Proof.Machine.execBr x s
  | .call x => Sys2Proof.Machine.execCall x s
  | .bp x => Sys2Proof.Machine.execBp x s
  | .bpn x => Sys2Proof.Machine.execBpn x s
  | .jr x => Sys2Proof.Machine.execJr x s
  | .callr x => Sys2Proof.Machine.execCallr x s
  | .smloop x => Sys2Proof.Machine.execSmloop x s
  | .liw x => Sys2Proof.Machine.execLiw x s
  | .pcadd x => Sys2Proof.Machine.execPcadd x s
  | .add x => Sys2Proof.Machine.execAdd x s
  | .sub x => Sys2Proof.Machine.execSub x s
  | .mul x => Sys2Proof.Machine.execMul x s
  | .mulh x => Sys2Proof.Machine.execMulh x s
  | .mulhu x => Sys2Proof.Machine.execMulhu x s
  | .div x => Sys2Proof.Machine.execDiv x s
  | .divu x => Sys2Proof.Machine.execDivu x s
  | .rem x => Sys2Proof.Machine.execRem x s
  | .remu x => Sys2Proof.Machine.execRemu x s
  | .and x => Sys2Proof.Machine.execAnd x s
  | .or x => Sys2Proof.Machine.execOr x s
  | .xor x => Sys2Proof.Machine.execXor x s
  | .sll x => Sys2Proof.Machine.execSll x s
  | .srl x => Sys2Proof.Machine.execSrl x s
  | .sra x => Sys2Proof.Machine.execSra x s
  | .min x => Sys2Proof.Machine.execMin x s
  | .max x => Sys2Proof.Machine.execMax x s
  | .minu x => Sys2Proof.Machine.execMinu x s
  | .maxu x => Sys2Proof.Machine.execMaxu x s
  | .clz x => Sys2Proof.Machine.execClz x s
  | .ctz x => Sys2Proof.Machine.execCtz x s
  | .popc x => Sys2Proof.Machine.execPopc x s
  | .sel x => Sys2Proof.Machine.execSel x s
  | .addi x => Sys2Proof.Machine.execAddi x s
  | .andi x => Sys2Proof.Machine.execAndi x s
  | .ori x => Sys2Proof.Machine.execOri x s
  | .xori x => Sys2Proof.Machine.execXori x s
  | .slli x => Sys2Proof.Machine.execSlli x s
  | .srli x => Sys2Proof.Machine.execSrli x s
  | .srai x => Sys2Proof.Machine.execSrai x s
  | .cmpeq x => Sys2Proof.Machine.execCmpeq x s
  | .cmpne x => Sys2Proof.Machine.execCmpne x s
  | .cmplt x => Sys2Proof.Machine.execCmplt x s
  | .cmple x => Sys2Proof.Machine.execCmple x s
  | .cmpltu x => Sys2Proof.Machine.execCmpltu x s
  | .cmpleu x => Sys2Proof.Machine.execCmpleu x s
  | .pand x => Sys2Proof.Machine.execPand x s
  | .por x => Sys2Proof.Machine.execPor x s
  | .pxor x => Sys2Proof.Machine.execPxor x s
  | .pnot x => Sys2Proof.Machine.execPnot x s
  | .prd x => Sys2Proof.Machine.execPrd x s
  | .pwr x => Sys2Proof.Machine.execPwr x s
  | .cmpeqi x => Sys2Proof.Machine.execCmpeqi x s
  | .cmplti x => Sys2Proof.Machine.execCmplti x s
  | .ld8 x => Sys2Proof.Machine.execLd8 x s
  | .ld8u x => Sys2Proof.Machine.execLd8u x s
  | .ld16 x => Sys2Proof.Machine.execLd16 x s
  | .ld16u x => Sys2Proof.Machine.execLd16u x s
  | .ld32 x => Sys2Proof.Machine.execLd32 x s
  | .ld32u x => Sys2Proof.Machine.execLd32u x s
  | .ld64 x => Sys2Proof.Machine.execLd64 x s
  | .st8 x => Sys2Proof.Machine.execSt8 x s
  | .st16 x => Sys2Proof.Machine.execSt16 x s
  | .st32 x => Sys2Proof.Machine.execSt32 x s
  | .st64 x => Sys2Proof.Machine.execSt64 x s
  | .fadd x => Sys2Proof.Machine.execFadd x s
  | .fsub x => Sys2Proof.Machine.execFsub x s
  | .fmul x => Sys2Proof.Machine.execFmul x s
  | .fma x => Sys2Proof.Machine.execFma x s
  | .fdiv x => Sys2Proof.Machine.execFdiv x s
  | .fsqrt x => Sys2Proof.Machine.execFsqrt x s
  | .fcmpeq x => Sys2Proof.Machine.execFcmpeq x s
  | .fcmplt x => Sys2Proof.Machine.execFcmplt x s
  | .fcmple x => Sys2Proof.Machine.execFcmple x s
  | .fcmpun x => Sys2Proof.Machine.execFcmpun x s
  | .fcvtif x => Sys2Proof.Machine.execFcvtif x s
  | .fcvtfi x => Sys2Proof.Machine.execFcvtfi x s
  | .amoadd x => Sys2Proof.Machine.execAmoadd x s
  | .amoand x => Sys2Proof.Machine.execAmoand x s
  | .amoor x => Sys2Proof.Machine.execAmoor x s
  | .amoxor x => Sys2Proof.Machine.execAmoxor x s
  | .amomin x => Sys2Proof.Machine.execAmomin x s
  | .amomax x => Sys2Proof.Machine.execAmomax x s
  | .amominu x => Sys2Proof.Machine.execAmominu x s
  | .amomaxu x => Sys2Proof.Machine.execAmomaxu x s
  | .amoswp x => Sys2Proof.Machine.execAmoswp x s
  | .amocas x => Sys2Proof.Machine.execAmocas x s
  | .redadd x => Sys2Proof.Machine.execRedadd x s
  | .lda x => Sys2Proof.Machine.execLda x s
  | .stl x => Sys2Proof.Machine.execStl x s
  | .qbind x => Sys2Proof.Machine.execQbind x s
  | .qfree x => Sys2Proof.Machine.execQfree x s
  | .qpushn x => Sys2Proof.Machine.execQpushn x s
  | .qpopn x => Sys2Proof.Machine.execQpopn x s
  | .qstat x => Sys2Proof.Machine.execQstat x s
  | .tqenq x => Sys2Proof.Machine.execTqenq x s
  | .jcenq x => Sys2Proof.Machine.execJcenq x s
  | .spawn x => Sys2Proof.Machine.execSpawn x s
  | .migr x => Sys2Proof.Machine.execMigr x s
  | .yield x => Sys2Proof.Machine.execYield x s
  | .exit x => Sys2Proof.Machine.execExit x s
  | .sleep x => Sys2Proof.Machine.execSleep x s
  | .scarm x => Sys2Proof.Machine.execScarm x s
  | .sctake x => Sys2Proof.Machine.execSctake x s
  | .sctakep x => Sys2Proof.Machine.execSctakep x s
  | .scgive x => Sys2Proof.Machine.execScgive x s
  | .scread x => Sys2Proof.Machine.execScread x s
  | .scset x => Sys2Proof.Machine.execScset x s
  | .scdsrm x => Sys2Proof.Machine.execScdsrm x s
  | .barinit x => Sys2Proof.Machine.execBarinit x s
  | .bararr x => Sys2Proof.Machine.execBararr x s
  | .barexp x => Sys2Proof.Machine.execBarexp x s
  | .barwt x => Sys2Proof.Machine.execBarwt x s
  | .bartst x => Sys2Proof.Machine.execBartst x s
  | .setvl x => Sys2Proof.Machine.execSetvl x s
  | .setvli x => Sys2Proof.Machine.execSetvli x s
  | .vspan x => Sys2Proof.Machine.execVspan x s
  | .vld x => Sys2Proof.Machine.execVld x s
  | .vlds x => Sys2Proof.Machine.execVlds x s
  | .vldg x => Sys2Proof.Machine.execVldg x s
  | .vldff x => Sys2Proof.Machine.execVldff x s
  | .vldseg x => Sys2Proof.Machine.execVldseg x s
  | .vldb x => Sys2Proof.Machine.execVldb x s
  | .vldc x => Sys2Proof.Machine.execVldc x s
  | .vst x => Sys2Proof.Machine.execVst x s
  | .vsts x => Sys2Proof.Machine.execVsts x s
  | .vstsc x => Sys2Proof.Machine.execVstsc x s
  | .vstseg x => Sys2Proof.Machine.execVstseg x s
  | .vstb x => Sys2Proof.Machine.execVstb x s
  | .vamoadd x => Sys2Proof.Machine.execVamoadd x s
  | .vamomin x => Sys2Proof.Machine.execVamomin x s
  | .vamomax x => Sys2Proof.Machine.execVamomax x s
  | .vamoand x => Sys2Proof.Machine.execVamoand x s
  | .vamoor x => Sys2Proof.Machine.execVamoor x s
  | .vamoxor x => Sys2Proof.Machine.execVamoxor x s
  | .vamoswp x => Sys2Proof.Machine.execVamoswp x s
  | .vamocas x => Sys2Proof.Machine.execVamocas x s
  | .vamoaddNr x => Sys2Proof.Machine.execVamoaddNr x s
  | .vamominNr x => Sys2Proof.Machine.execVamominNr x s
  | .vamomaxNr x => Sys2Proof.Machine.execVamomaxNr x s
  | .vamoandNr x => Sys2Proof.Machine.execVamoandNr x s
  | .vamoorNr x => Sys2Proof.Machine.execVamoorNr x s
  | .vamoxorNr x => Sys2Proof.Machine.execVamoxorNr x s
  | .vamoswpNr x => Sys2Proof.Machine.execVamoswpNr x s
  | .vadd x => Sys2Proof.Machine.execVadd x s
  | .vsub x => Sys2Proof.Machine.execVsub x s
  | .vmul x => Sys2Proof.Machine.execVmul x s
  | .vmulh x => Sys2Proof.Machine.execVmulh x s
  | .vmulhu x => Sys2Proof.Machine.execVmulhu x s
  | .vmacc x => Sys2Proof.Machine.execVmacc x s
  | .vand x => Sys2Proof.Machine.execVand x s
  | .vor x => Sys2Proof.Machine.execVor x s
  | .vxor x => Sys2Proof.Machine.execVxor x s
  | .vsll x => Sys2Proof.Machine.execVsll x s
  | .vsrl x => Sys2Proof.Machine.execVsrl x s
  | .vsra x => Sys2Proof.Machine.execVsra x s
  | .vmin x => Sys2Proof.Machine.execVmin x s
  | .vmax x => Sys2Proof.Machine.execVmax x s
  | .vminu x => Sys2Proof.Machine.execVminu x s
  | .vmaxu x => Sys2Proof.Machine.execVmaxu x s
  | .vsadd x => Sys2Proof.Machine.execVsadd x s
  | .vssub x => Sys2Proof.Machine.execVssub x s
  | .vnarrow x => Sys2Proof.Machine.execVnarrow x s
  | .vwiden x => Sys2Proof.Machine.execVwiden x s
  | .vfadd x => Sys2Proof.Machine.execVfadd x s
  | .vfsub x => Sys2Proof.Machine.execVfsub x s
  | .vfmul x => Sys2Proof.Machine.execVfmul x s
  | .vfma x => Sys2Proof.Machine.execVfma x s
  | .vfms x => Sys2Proof.Machine.execVfms x s
  | .vfnma x => Sys2Proof.Machine.execVfnma x s
  | .vfmin x => Sys2Proof.Machine.execVfmin x s
  | .vfmax x => Sys2Proof.Machine.execVfmax x s
  | .vfabs x => Sys2Proof.Machine.execVfabs x s
  | .vfneg x => Sys2Proof.Machine.execVfneg x s
  | .vfdiv x => Sys2Proof.Machine.execVfdiv x s
  | .vfsqrt x => Sys2Proof.Machine.execVfsqrt x s
  | .vfrcp x => Sys2Proof.Machine.execVfrcp x s
  | .vfrsq x => Sys2Proof.Machine.execVfrsq x s
  | .vfexp2 x => Sys2Proof.Machine.execVfexp2 x s
  | .vflog2 x => Sys2Proof.Machine.execVflog2 x s
  | .vfsin x => Sys2Proof.Machine.execVfsin x s
  | .vfcos x => Sys2Proof.Machine.execVfcos x s
  | .vfcvt x => Sys2Proof.Machine.execVfcvt x s
  | .vfcvti x => Sys2Proof.Machine.execVfcvti x s
  | .vfcvtf x => Sys2Proof.Machine.execVfcvtf x s
  | .vcmpeq x => Sys2Proof.Machine.execVcmpeq x s
  | .vcmpne x => Sys2Proof.Machine.execVcmpne x s
  | .vcmplt x => Sys2Proof.Machine.execVcmplt x s
  | .vcmple x => Sys2Proof.Machine.execVcmple x s
  | .vcmpltu x => Sys2Proof.Machine.execVcmpltu x s
  | .vcmpleu x => Sys2Proof.Machine.execVcmpleu x s
  | .vfcmpeq x => Sys2Proof.Machine.execVfcmpeq x s
  | .vfcmplt x => Sys2Proof.Machine.execVfcmplt x s
  | .vfcmple x => Sys2Proof.Machine.execVfcmple x s
  | .vfcmpun x => Sys2Proof.Machine.execVfcmpun x s
  | .mand x => Sys2Proof.Machine.execMand x s
  | .mor x => Sys2Proof.Machine.execMor x s
  | .mxor x => Sys2Proof.Machine.execMxor x s
  | .mnot x => Sys2Proof.Machine.execMnot x s
  | .mffs x => Sys2Proof.Machine.execMffs x s
  | .mpop x => Sys2Proof.Machine.execMpop x s
  | .mset x => Sys2Proof.Machine.execMset x s
  | .vidx x => Sys2Proof.Machine.execVidx x s
  | .vmsel x => Sys2Proof.Machine.execVmsel x s
  | .vperm x => Sys2Proof.Machine.execVperm x s
  | .vslup x => Sys2Proof.Machine.execVslup x s
  | .vsldn x => Sys2Proof.Machine.execVsldn x s
  | .vcmpr x => Sys2Proof.Machine.execVcmpr x s
  | .vexpd x => Sys2Proof.Machine.execVexpd x s
  | .vbcst x => Sys2Proof.Machine.execVbcst x s
  | .vmvxs x => Sys2Proof.Machine.execVmvxs x s
  | .vmvsx x => Sys2Proof.Machine.execVmvsx x s
  | .vmov x => Sys2Proof.Machine.execVmov x s
  | .vxchg x => Sys2Proof.Machine.execVxchg x s
  | .vkrank x => Sys2Proof.Machine.execVkrank x s
  | .vhist x => Sys2Proof.Machine.execVhist x s
  | .vredsum x => Sys2Proof.Machine.execVredsum x s
  | .vredmax x => Sys2Proof.Machine.execVredmax x s
  | .vredmin x => Sys2Proof.Machine.execVredmin x s
  | .vfredo x => Sys2Proof.Machine.execVfredo x s
  | .vfredf x => Sys2Proof.Machine.execVfredf x s
  | .vfredmax x => Sys2Proof.Machine.execVfredmax x s
  | .vfredmin x => Sys2Proof.Machine.execVfredmin x s
  | .tset x => Sys2Proof.Machine.execTset x s
  | .tldb x => Sys2Proof.Machine.execTldb x s
  | .tmma x => Sys2Proof.Machine.execTmma x s
  | .tmmaf x => Sys2Proof.Machine.execTmmaf x s
  | .tmmap x => Sys2Proof.Machine.execTmmap x s
  | .tmmapf x => Sys2Proof.Machine.execTmmapf x s
  | .trda x => Sys2Proof.Machine.execTrda x s
  | .tzacc x => Sys2Proof.Machine.execTzacc x s
  | .tadda x => Sys2Proof.Machine.execTadda x s
  | .mmsx x => Sys2Proof.Machine.execMmsx x s
  | .edge x => Sys2Proof.Machine.execEdge x s
  | .boxt x => Sys2Proof.Machine.execBoxt x s
  | .trit x => Sys2Proof.Machine.execTrit x s
  | .texf x => Sys2Proof.Machine.execTexf x s
  | .texq x => Sys2Proof.Machine.execTexq x s
  | .pxcmt x => Sys2Proof.Machine.execPxcmt x s
  | .tclr x => Sys2Proof.Machine.execTclr x s
  | .trslv x => Sys2Proof.Machine.execTrslv x s
  | .repf x => Sys2Proof.Machine.execRepf x s
  | .cmov x => Sys2Proof.Machine.execCmov x s
  | .cli x => Sys2Proof.Machine.execCli x s
  | .caddi x => Sys2Proof.Machine.execCaddi x s
  | .cadd x => Sys2Proof.Machine.execCadd x s
  | .csub x => Sys2Proof.Machine.execCsub x s
  | .cand x => Sys2Proof.Machine.execCand x s
  | .cslli x => Sys2Proof.Machine.execCslli x s
  | .csrli x => Sys2Proof.Machine.execCsrli x s
  | .cld x => Sys2Proof.Machine.execCld x s
  | .cst x => Sys2Proof.Machine.execCst x s
  | .cbp x => Sys2Proof.Machine.execCbp x s
  | .cbpn x => Sys2Proof.Machine.execCbpn x s
  | .cvadd x => Sys2Proof.Machine.execCvadd x s
  | .cvmul x => Sys2Proof.Machine.execCvmul x s
  | .cvfadd x => Sys2Proof.Machine.execCvfadd x s
  | .cvfma x => Sys2Proof.Machine.execCvfma x s
  | .dispatch cluster => Sys2Proof.Machine.execDispatch cluster s
  | .launchCompletion launch => Sys2Proof.Machine.execLaunchCompletion launch s
  | .chunkCommit slot => Sys2Proof.Machine.execChunkCommit slot s
  | .externalClusterWrite cluster sector => Sys2Proof.Machine.execExternalClusterWrite cluster sector s
  | .impreciseFaultTrap slot => Sys2Proof.Machine.execImpreciseFaultTrap slot s
  | .pendingResultArrival slot => Sys2Proof.Machine.execPendingResultArrival slot s
  | .loadDataArrival slot => Sys2Proof.Machine.execLoadDataArrival slot s
  | .spanGrant slot => Sys2Proof.Machine.execSpanGrant slot s
  | .icacheFill core => Sys2Proof.Machine.execIcacheFill core s
  | .migrationArrival slot => Sys2Proof.Machine.execMigrationArrival slot s
  | .runQueueFallback slot => Sys2Proof.Machine.execRunQueueFallback slot s
  | .popWaitWake slot => Sys2Proof.Machine.execPopWaitWake slot s
  | .capacityWaitWake slot => Sys2Proof.Machine.execCapacityWaitWake slot s
  | .preemptionRequest cluster => Sys2Proof.Machine.execPreemptionRequest cluster s
  | .timeSliceTrap slot => Sys2Proof.Machine.execTimeSliceTrap slot s
  | .hostInterrupt slot => Sys2Proof.Machine.execHostInterrupt slot s
  | .slotReset slot => Sys2Proof.Machine.execSlotReset slot s
  | .sleepWake slot => Sys2Proof.Machine.execSleepWake slot s
  | .pairPartnerTimeout slot => Sys2Proof.Machine.execPairPartnerTimeout slot s
  | .agingStep queue seq => Sys2Proof.Machine.execAgingStep queue seq s
  | .gangReservationStart queue => Sys2Proof.Machine.execGangReservationStart queue s
  | .closedClusterFallback queue => Sys2Proof.Machine.execClosedClusterFallback queue s
  | .clusterSteal cluster => Sys2Proof.Machine.execClusterSteal cluster s
  | .resumeWaitTimeout queue => Sys2Proof.Machine.execResumeWaitTimeout queue s
  | .homeTakeRequest ctr => Sys2Proof.Machine.execHomeTakeRequest ctr s
  | .homeGive ctr => Sys2Proof.Machine.execHomeGive ctr s
  | .recallMessage ctr cluster => Sys2Proof.Machine.execRecallMessage ctr cluster s
  | .recallExactPoint ctr => Sys2Proof.Machine.execRecallExactPoint ctr s
  | .parkedTakeGrant ctr => Sys2Proof.Machine.execParkedTakeGrant ctr s
  | .recallHolderTimeout ctr cluster => Sys2Proof.Machine.execRecallHolderTimeout ctr cluster s
  | .barwtWake slot => Sys2Proof.Machine.execBarwtWake slot s
  | .hcpy engine => Sys2Proof.Machine.execHcpy engine s
  | .hcpyt engine => Sys2Proof.Machine.execHcpyt engine s
  | .hgth engine => Sys2Proof.Machine.execHgth engine s
  | .hsct engine => Sys2Proof.Machine.execHsct engine s
  | .hfil engine => Sys2Proof.Machine.execHfil engine s
  | .hred engine => Sys2Proof.Machine.execHred engine s
  | .hsig engine => Sys2Proof.Machine.execHsig engine s
  | .engineCommandComplete engine => Sys2Proof.Machine.execEngineCommandComplete engine s
  | .resultRecordPlace engine => Sys2Proof.Machine.execResultRecordPlace engine s
  | .jobCardTile engine => Sys2Proof.Machine.execJobCardTile engine s
  | .redaddPerform => Sys2Proof.Machine.execRedaddPerform s
  | .replayEnqueueRetry => Sys2Proof.Machine.execReplayEnqueueRetry s
  | .queueSwapIn queue => Sys2Proof.Machine.execQueueSwapIn queue s
  | .pendingQueueSwapIn die => Sys2Proof.Machine.execPendingQueueSwapIn die s
  | .qctlMakeResident die asid handle => Sys2Proof.Machine.execQctlMakeResident die asid handle s
  | .qctlEvict die asid handle => Sys2Proof.Machine.execQctlEvict die asid handle s
  | .qctlRetire die asid handle => Sys2Proof.Machine.execQctlRetire die asid handle s
  | .sctlWrite die value => Sys2Proof.Machine.execSctlWrite die value s
  | .hostWindowWrite port fn offset nbytes data => Sys2Proof.Machine.execHostWindowWrite port fn offset nbytes data s
  | .heldWindowWriteDrop => Sys2Proof.Machine.execHeldWindowWriteDrop s
  | .translationRequest host who => Sys2Proof.Machine.execTranslationRequest host who s
  | .pageMove pte frame tier peer => Sys2Proof.Machine.execPageMove pte frame tier peer s
  | .settleExpiry frame => Sys2Proof.Machine.execSettleExpiry frame s
  | .directoryRead sector agent => Sys2Proof.Machine.execDirectoryRead sector agent s
  | .directoryWriteOwnership sector agent => Sys2Proof.Machine.execDirectoryWriteOwnership sector agent s
  | .sectorEvict sector agent => Sys2Proof.Machine.execSectorEvict sector agent s
  | .dieCacheLineEviction line => Sys2Proof.Machine.execDieCacheLineEviction line s
  | .ptbaseWrite slot value => Sys2Proof.Machine.execPtbaseWrite slot value s
  | .vctxWrite slot value => Sys2Proof.Machine.execVctxWrite slot value s
  | .vectorLengthWrite slot reg value => Sys2Proof.Machine.execVectorLengthWrite slot reg value s
  | .tileShapeWrite slot reg value => Sys2Proof.Machine.execTileShapeWrite slot reg value s
  | .pwreqWrite slot value => Sys2Proof.Machine.execPwreqWrite slot value s
  | .leaseWrite slot value => Sys2Proof.Machine.execLeaseWrite slot value s
  | .pwbudWrite slot value => Sys2Proof.Machine.execPwbudWrite slot value s
  | .hmodeWrite part value => Sys2Proof.Machine.execHmodeWrite part value s
  | .registerWrite addr value => Sys2Proof.Machine.execRegisterWrite addr value s
  | .ffaddWrite die tier value => Sys2Proof.Machine.execFfaddWrite die tier value s
  | .frameRecall die value => Sys2Proof.Machine.execFrameRecall die value s
  | .frameRecallComplete die => Sys2Proof.Machine.execFrameRecallComplete die s
  | .modctlWrite value => Sys2Proof.Machine.execModctlWrite value s
  | .modeNormalEntry => Sys2Proof.Machine.execModeNormalEntry s
  | .moduleReset => Sys2Proof.Machine.execModuleReset s
  | .hostPortEnumerated port => Sys2Proof.Machine.execHostPortEnumerated port s
  | .bondFabricTrained => Sys2Proof.Machine.execBondFabricTrained s
  | .dieReady die => Sys2Proof.Machine.execDieReady die s
  | .clusterReady cluster => Sys2Proof.Machine.execClusterReady cluster s
  | .bringupTimeout isDie unit => Sys2Proof.Machine.execBringupTimeout isDie unit s
  | .slowLoopPeriod m => Sys2Proof.Machine.execSlowLoopPeriod m s
  | .leaseExpiry slot => Sys2Proof.Machine.execLeaseExpiry slot s
  | .droopDetected cluster mv => Sys2Proof.Machine.execDroopDetected cluster mv s
  | .railMonitorHold amps => Sys2Proof.Machine.execRailMonitorHold amps s
  | .stepRise cluster => Sys2Proof.Machine.execStepRise cluster s
  | .ccapWrite part cluster value => Sys2Proof.Machine.execCcapWrite part cluster value s
  | .clusterOvertemp cluster temp => Sys2Proof.Machine.execClusterOvertemp cluster temp s
  | .overtempClear cluster temp => Sys2Proof.Machine.execOvertempClear cluster temp s
  | .thermalTrip cluster temp => Sys2Proof.Machine.execThermalTrip cluster temp s
  | .thermalTripReturn cluster temp => Sys2Proof.Machine.execThermalTripReturn cluster temp s
  | .railOvercurrent amps => Sys2Proof.Machine.execRailOvercurrent amps s
  | .powerTrip amps watts => Sys2Proof.Machine.execPowerTrip amps watts s
  | .watchdogExpiry asid => Sys2Proof.Machine.execWatchdogExpiry asid s
  | .correctedError die info => Sys2Proof.Machine.execCorrectedError die info s
  | .uncorrectedError asid reason addr => Sys2Proof.Machine.execUncorrectedError asid reason addr s
  | .persistentError core kind unit => Sys2Proof.Machine.execPersistentError core kind unit s
  | .laneSliceFence core => Sys2Proof.Machine.execLaneSliceFence core s
  | .macroScrub core cell ok => Sys2Proof.Machine.execMacroScrub core cell ok s
  | .birfelFlitReplay link => Sys2Proof.Machine.execBirfelFlitReplay link s
  | .birfelLinkDrop link => Sys2Proof.Machine.execBirfelLinkDrop link s
  | .peerUnreachable peer => Sys2Proof.Machine.execPeerUnreachable peer s
  | .peerFlagMessage stream seq addr value => Sys2Proof.Machine.execPeerFlagMessage stream seq addr value s
  | .bondLinkFailure die => Sys2Proof.Machine.execBondLinkFailure die s
  | .dieUnreachable die => Sys2Proof.Machine.execDieUnreachable die s
  | .dieReturn die => Sys2Proof.Machine.execDieReturn die s
  | .hostPortLinkDown port => Sys2Proof.Machine.execHostPortLinkDown port s
  | .getVersion port => Sys2Proof.Machine.execGetVersion port s
  | .getCapabilities port => Sys2Proof.Machine.execGetCapabilities port s
  | .negotiateAlgorithms port => Sys2Proof.Machine.execNegotiateAlgorithms port s
  | .getDigests port => Sys2Proof.Machine.execGetDigests port s
  | .getCertificate port => Sys2Proof.Machine.execGetCertificate port s
  | .challenge port nonce => Sys2Proof.Machine.execChallenge port nonce s
  | .getMeasurements port => Sys2Proof.Machine.execGetMeasurements port s
  | .mctpReport => Sys2Proof.Machine.execMctpReport s
  | .hctlWrite head value => Sys2Proof.Machine.execHctlWrite head value s
  | .headRaise head => Sys2Proof.Machine.execHeadRaise head s
  | .headDeadline head => Sys2Proof.Machine.execHeadDeadline head s
  | .scanoutReadFault head cause reason addr => Sys2Proof.Machine.execScanoutReadFault head cause reason addr s
  | .commitPacket cluster => Sys2Proof.Machine.execCommitPacket cluster s
  | .resolveCredit => Sys2Proof.Machine.execResolveCredit s
  | .stuckTile cluster tile => Sys2Proof.Machine.execStuckTile cluster tile s
  | .tcskipWrite cluster value => Sys2Proof.Machine.execTcskipWrite cluster value s
  | .vectorUnitDispatch slot => Sys2Proof.Machine.execVectorUnitDispatch slot s
  | .unallocatedEncoding reason => Sys2Proof.Machine.execUnallocatedEncoding reason s
  | .fetchFault reason level addr => Sys2Proof.Machine.execFetchFault reason level addr s
  | .birfelLinkTrained link peer => Sys2Proof.Machine.execBirfelLinkTrained link peer s
  | .presentationHeadUsable head => Sys2Proof.Machine.execPresentationHeadUsable head s

end Sys2Proof.Machine
end

