-- ==== Sys2Proof/Machine/Issue.lean ====
section
/-! DEFINITION. Machine/Issue.lean: a slot's turn: the fetch of its instruction, and the instruction carried out. `issueWord` and
`issueHalf` are `exec` of what `decodeWord` and `decodeHalf` give (Laws/Issue.lean proves it), written over the same fields
and function codes, because the compiler cannot build the late constructors of Instr at run time. -/

namespace Sys2Proof.Machine

/-- What carrying out an instruction comes to. -/
abbrev Ran := Host.Outcome State Fault Refusal

/-- A word of major 0x00, SYS (R87). -/
def runSys (w : BitVec 32) (s : State) : Ran :=
  match (w.extractLsb' 28 4).toNat with
  | 0 => execTrap (fieldsXF w) s
  | 1 => execEret (fieldsXF w) s
  | 2 => execSysrd (fieldsXF w) s
  | 3 => execSyswr (fieldsXF w) s
  | 4 => execSysset (fieldsXF w) s
  | 5 => execSysclr (fieldsXF w) s
  | 6 => execVsave (fieldsXF w) s
  | 7 => execVrstr (fieldsXF w) s
  | 8 => execAsave (fieldsXF w) s
  | 9 => execArstr (fieldsXF w) s
  | 10 => execFrsave (fieldsXF w) s
  | 11 => execFrload (fieldsXF w) s
  | 12 => execHalt (fieldsXF w) s
  | 13 => execBrk (fieldsXF w) s
  | _ => execUnallocatedEncoding 2 s

/-- A word of major 0x01, FENCE (R87). -/
def runFence (w : BitVec 32) (s : State) : Ran :=
  match (w.extractLsb' 25 7).toNat with
  | 0 => execFence (fieldsQF w) s
  | 1 => execFsmp (fieldsQF w) s
  | 2 => execChunk (fieldsQF w) s
  | 3 => execDcwb (fieldsQF w) s
  | 4 => execDcinv (fieldsQF w) s
  | 5 => execIcinv (fieldsQF w) s
  | 6 => execIpf (fieldsQF w) s
  | 7 => execDpf (fieldsQF w) s
  | _ => execUnallocatedEncoding 2 s

/-- A word of major 0x04, BPRED (R87). -/
def runBpred (w : BitVec 32) (s : State) : Ran :=
  match (w.extractLsb' 12 1).toNat with
  | 0 => execBp (fieldsBF w) s
  | _ => execBpn (fieldsBF w) s

/-- A word of major 0x05, IND (R87). -/
def runInd (w : BitVec 32) (s : State) : Ran :=
  match (w.extractLsb' 22 10).toNat with
  | 0 => execJr (fieldsTF w) s
  | 1 => execCallr (fieldsTF w) s
  | _ => execUnallocatedEncoding 2 s

/-- A word of major 0x09, INT (R87). -/
def runInt (w : BitVec 32) (s : State) : Ran :=
  match (w.extractLsb' 22 10).toNat with
  | 0 => execAdd (fieldsTF w) s
  | 1 => execSub (fieldsTF w) s
  | 2 => execMul (fieldsTF w) s
  | 3 => execMulh (fieldsTF w) s
  | 4 => execMulhu (fieldsTF w) s
  | 5 => execDiv (fieldsTF w) s
  | 6 => execDivu (fieldsTF w) s
  | 7 => execRem (fieldsTF w) s
  | 8 => execRemu (fieldsTF w) s
  | 9 => execAnd (fieldsTF w) s
  | 10 => execOr (fieldsTF w) s
  | 11 => execXor (fieldsTF w) s
  | 12 => execSll (fieldsTF w) s
  | 13 => execSrl (fieldsTF w) s
  | 14 => execSra (fieldsTF w) s
  | 15 => execMin (fieldsTF w) s
  | 16 => execMax (fieldsTF w) s
  | 17 => execMinu (fieldsTF w) s
  | 18 => execMaxu (fieldsTF w) s
  | 19 => execClz (fieldsTF w) s
  | 20 => execCtz (fieldsTF w) s
  | 21 => execPopc (fieldsTF w) s
  | 22 => execSel (fieldsTF w) s
  | _ => execUnallocatedEncoding 2 s

/-- A word of major 0x0a, INTI (R87). -/
def runInti (w : BitVec 32) (s : State) : Ran :=
  match (w.extractLsb' 17 3).toNat with
  | 0 => execAddi (fieldsIF w) s
  | 1 => execAndi (fieldsIF w) s
  | 2 => execOri (fieldsIF w) s
  | 3 => execXori (fieldsIF w) s
  | 4 => execSlli (fieldsIF w) s
  | 5 => execSrli (fieldsIF w) s
  | 6 => execSrai (fieldsIF w) s
  | _ => execUnallocatedEncoding 2 s

/-- A word of major 0x0b, CMP (R87). -/
def runCmp (w : BitVec 32) (s : State) : Ran :=
  match (w.extractLsb' 22 10).toNat with
  | 0 => execCmpeq (fieldsTF w) s
  | 1 => execCmpne (fieldsTF w) s
  | 2 => execCmplt (fieldsTF w) s
  | 3 => execCmple (fieldsTF w) s
  | 4 => execCmpltu (fieldsTF w) s
  | 5 => execCmpleu (fieldsTF w) s
  | 6 => execPand (fieldsTF w) s
  | 7 => execPor (fieldsTF w) s
  | 8 => execPxor (fieldsTF w) s
  | 9 => execPnot (fieldsTF w) s
  | 10 => execPrd (fieldsTF w) s
  | 11 => execPwr (fieldsTF w) s
  | _ => execUnallocatedEncoding 2 s

/-- A word of major 0x0c, CMPI (R87). -/
def runCmpi (w : BitVec 32) (s : State) : Ran :=
  match (w.extractLsb' 17 3).toNat with
  | 0 => execCmpeqi (fieldsIF w) s
  | 1 => execCmplti (fieldsIF w) s
  | _ => execUnallocatedEncoding 2 s

/-- A word of major 0x0d, LOAD (R87). -/
def runLoad (w : BitVec 32) (s : State) : Ran :=
  match (w.extractLsb' 17 3).toNat with
  | 0 => execLd8 (fieldsIF w) s
  | 1 => execLd8u (fieldsIF w) s
  | 2 => execLd16 (fieldsIF w) s
  | 3 => execLd16u (fieldsIF w) s
  | 4 => execLd32 (fieldsIF w) s
  | 5 => execLd32u (fieldsIF w) s
  | 6 => execLd64 (fieldsIF w) s
  | _ => execUnallocatedEncoding 2 s

/-- A word of major 0x0e, STORE (R87). -/
def runStore (w : BitVec 32) (s : State) : Ran :=
  match (w.extractLsb' 17 3).toNat with
  | 0 => execSt8 (fieldsSF w) s
  | 1 => execSt16 (fieldsSF w) s
  | 2 => execSt32 (fieldsSF w) s
  | 3 => execSt64 (fieldsSF w) s
  | _ => execUnallocatedEncoding 2 s

/-- A word of major 0x0f, SFP (R87). -/
def runSfp (w : BitVec 32) (s : State) : Ran :=
  match (w.extractLsb' 22 10).toNat with
  | 0 => execFadd (fieldsTF w) s
  | 1 => execFsub (fieldsTF w) s
  | 2 => execFmul (fieldsTF w) s
  | 3 => execFma (fieldsTF w) s
  | 4 => execFdiv (fieldsTF w) s
  | 5 => execFsqrt (fieldsTF w) s
  | 6 => execFcmpeq (fieldsTF w) s
  | 7 => execFcmplt (fieldsTF w) s
  | 8 => execFcmple (fieldsTF w) s
  | 9 => execFcmpun (fieldsTF w) s
  | 10 => execFcvtif (fieldsTF w) s
  | 11 => execFcvtfi (fieldsTF w) s
  | _ => execUnallocatedEncoding 2 s

/-- A word of major 0x10, AMO (R87). -/
def runAmo (w : BitVec 32) (s : State) : Ran :=
  match (w.extractLsb' 25 7).toNat with
  | 0 => execAmoadd (fieldsQF w) s
  | 1 => execAmoand (fieldsQF w) s
  | 2 => execAmoor (fieldsQF w) s
  | 3 => execAmoxor (fieldsQF w) s
  | 4 => execAmomin (fieldsQF w) s
  | 5 => execAmomax (fieldsQF w) s
  | 6 => execAmominu (fieldsQF w) s
  | 7 => execAmomaxu (fieldsQF w) s
  | 8 => execAmoswp (fieldsQF w) s
  | 9 => execAmocas (fieldsQF w) s
  | 10 => execRedadd (fieldsQF w) s
  | 11 => execLda (fieldsQF w) s
  | 12 => execStl (fieldsQF w) s
  | _ => execUnallocatedEncoding 2 s

/-- A word of major 0x11, QUEUE (R87). -/
def runQueue (w : BitVec 32) (s : State) : Ran :=
  match (w.extractLsb' 25 7).toNat with
  | 0 => execQbind (fieldsQF w) s
  | 1 => execQfree (fieldsQF w) s
  | 2 => execQpushn (fieldsQF w) s
  | 3 => execQpopn (fieldsQF w) s
  | 4 => execQstat (fieldsQF w) s
  | _ => execUnallocatedEncoding 2 s

/-- A word of major 0x12, TASK (R87). -/
def runTask (w : BitVec 32) (s : State) : Ran :=
  match (w.extractLsb' 25 7).toNat with
  | 0 => execTqenq (fieldsQF w) s
  | 1 => execJcenq (fieldsQF w) s
  | 2 => execSpawn (fieldsQF w) s
  | 3 => execMigr (fieldsQF w) s
  | 4 => execYield (fieldsQF w) s
  | 5 => execExit (fieldsQF w) s
  | 6 => execSleep (fieldsQF w) s
  | _ => execUnallocatedEncoding 2 s

/-- A word of major 0x13, SCTR (R87). -/
def runSctr (w : BitVec 32) (s : State) : Ran :=
  match (w.extractLsb' 25 7).toNat with
  | 0 => execScarm (fieldsQF w) s
  | 1 => execSctake (fieldsQF w) s
  | 2 => execSctakep (fieldsQF w) s
  | 3 => execScgive (fieldsQF w) s
  | 4 => execScread (fieldsQF w) s
  | 5 => execScset (fieldsQF w) s
  | 6 => execScdsrm (fieldsQF w) s
  | _ => execUnallocatedEncoding 2 s

/-- A word of major 0x14, BAR (R87). -/
def runBar (w : BitVec 32) (s : State) : Ran :=
  match (w.extractLsb' 25 7).toNat with
  | 0 => execBarinit (fieldsQF w) s
  | 1 => execBararr (fieldsQF w) s
  | 2 => execBarexp (fieldsQF w) s
  | 3 => execBarwt (fieldsQF w) s
  | 4 => execBartst (fieldsQF w) s
  | _ => execUnallocatedEncoding 2 s

/-- A word of major 0x18, VCFG (R87). -/
def runVcfg (w : BitVec 32) (s : State) : Ran :=
  match (w.extractLsb' 17 2).toNat with
  | 0 => execSetvl (fieldsGF w) s
  | 1 => execSetvli (fieldsGIF w) s
  | 2 => execVspan (fieldsGF w) s
  | _ => execUnallocatedEncoding 2 s

/-- A word of major 0x19, VLOAD (R87). -/
def runVload (w : BitVec 32) (s : State) : Ran :=
  match (w.extractLsb' 25 7).toNat with
  | 0 => execVld (fieldsVMF w) s
  | 1 => execVlds (fieldsVMF w) s
  | 2 => execVldg (fieldsVMF w) s
  | 3 => execVldff (fieldsVMF w) s
  | 4 => execVldseg (fieldsVMF w) s
  | 5 => execVldb (fieldsVMF w) s
  | 6 => execVldc (fieldsVMF w) s
  | _ => execUnallocatedEncoding 2 s

/-- A word of major 0x1a, VSTORE (R87). -/
def runVstore (w : BitVec 32) (s : State) : Ran :=
  match (w.extractLsb' 25 7).toNat with
  | 0 => execVst (fieldsVMF w) s
  | 1 => execVsts (fieldsVMF w) s
  | 2 => execVstsc (fieldsVMF w) s
  | 3 => execVstseg (fieldsVMF w) s
  | 4 => execVstb (fieldsVMF w) s
  | _ => execUnallocatedEncoding 2 s

/-- A word of major 0x1b, VAMO (R87). -/
def runVamo (w : BitVec 32) (s : State) : Ran :=
  match (w.extractLsb' 28 4).toNat with
  | 0 => execVamoadd (fieldsVAF w) s
  | 1 => execVamomin (fieldsVAF w) s
  | 2 => execVamomax (fieldsVAF w) s
  | 3 => execVamoand (fieldsVAF w) s
  | 4 => execVamoor (fieldsVAF w) s
  | 5 => execVamoxor (fieldsVAF w) s
  | 6 => execVamoswp (fieldsVAF w) s
  | 7 => execVamocas (fieldsVAF w) s
  | 8 => execVamoaddNr (fieldsVAF w) s
  | 9 => execVamominNr (fieldsVAF w) s
  | 10 => execVamomaxNr (fieldsVAF w) s
  | 11 => execVamoandNr (fieldsVAF w) s
  | 12 => execVamoorNr (fieldsVAF w) s
  | 13 => execVamoxorNr (fieldsVAF w) s
  | 14 => execVamoswpNr (fieldsVAF w) s
  | _ => execUnallocatedEncoding 3 s

/-- A word of major 0x1c, VINT (R87). -/
def runVint (w : BitVec 32) (s : State) : Ran :=
  match (w.extractLsb' 27 5).toNat with
  | 0 => execVadd (fieldsVF w) s
  | 1 => execVsub (fieldsVF w) s
  | 2 => execVmul (fieldsVF w) s
  | 3 => execVmulh (fieldsVF w) s
  | 4 => execVmulhu (fieldsVF w) s
  | 5 => execVmacc (fieldsVF w) s
  | 6 => execVand (fieldsVF w) s
  | 7 => execVor (fieldsVF w) s
  | 8 => execVxor (fieldsVF w) s
  | 9 => execVsll (fieldsVF w) s
  | 10 => execVsrl (fieldsVF w) s
  | 11 => execVsra (fieldsVF w) s
  | 12 => execVmin (fieldsVF w) s
  | 13 => execVmax (fieldsVF w) s
  | 14 => execVminu (fieldsVF w) s
  | 15 => execVmaxu (fieldsVF w) s
  | _ => execUnallocatedEncoding 2 s

/-- A word of major 0x1d, VINT2 (R87). -/
def runVint2 (w : BitVec 32) (s : State) : Ran :=
  match (w.extractLsb' 27 5).toNat with
  | 0 => execVsadd (fieldsVF w) s
  | 1 => execVssub (fieldsVF w) s
  | 2 => execVnarrow (fieldsVF w) s
  | 3 => execVwiden (fieldsVF w) s
  | _ => execUnallocatedEncoding 2 s

/-- A word of major 0x1e, VFP (R87). -/
def runVfp (w : BitVec 32) (s : State) : Ran :=
  match (w.extractLsb' 27 5).toNat with
  | 0 => execVfadd (fieldsVF w) s
  | 1 => execVfsub (fieldsVF w) s
  | 2 => execVfmul (fieldsVF w) s
  | 3 => execVfma (fieldsVF w) s
  | 4 => execVfms (fieldsVF w) s
  | 5 => execVfnma (fieldsVF w) s
  | 6 => execVfmin (fieldsVF w) s
  | 7 => execVfmax (fieldsVF w) s
  | 8 => execVfabs (fieldsVF w) s
  | 9 => execVfneg (fieldsVF w) s
  | 10 => execVfdiv (fieldsVF w) s
  | 11 => execVfsqrt (fieldsVF w) s
  | _ => execUnallocatedEncoding 2 s

/-- A word of major 0x1f, VFP2 (R87). -/
def runVfp2 (w : BitVec 32) (s : State) : Ran :=
  match (w.extractLsb' 27 5).toNat with
  | 0 => execVfrcp (fieldsVF w) s
  | 1 => execVfrsq (fieldsVF w) s
  | 2 => execVfexp2 (fieldsVF w) s
  | 3 => execVflog2 (fieldsVF w) s
  | 4 => execVfsin (fieldsVF w) s
  | 5 => execVfcos (fieldsVF w) s
  | 6 => execVfcvt (fieldsVF w) s
  | 7 => execVfcvti (fieldsVF w) s
  | 8 => execVfcvtf (fieldsVF w) s
  | _ => execUnallocatedEncoding 2 s

/-- A word of major 0x20, VCMP (R87). -/
def runVcmp (w : BitVec 32) (s : State) : Ran :=
  match (w.extractLsb' 27 5).toNat with
  | 0 => execVcmpeq (fieldsVF w) s
  | 1 => execVcmpne (fieldsVF w) s
  | 2 => execVcmplt (fieldsVF w) s
  | 3 => execVcmple (fieldsVF w) s
  | 4 => execVcmpltu (fieldsVF w) s
  | 5 => execVcmpleu (fieldsVF w) s
  | 6 => execVfcmpeq (fieldsVF w) s
  | 7 => execVfcmplt (fieldsVF w) s
  | 8 => execVfcmple (fieldsVF w) s
  | 9 => execVfcmpun (fieldsVF w) s
  | _ => execUnallocatedEncoding 2 s

/-- A word of major 0x21, VMASK (R87). -/
def runVmask (w : BitVec 32) (s : State) : Ran :=
  match (w.extractLsb' 27 5).toNat with
  | 0 => execMand (fieldsVF w) s
  | 1 => execMor (fieldsVF w) s
  | 2 => execMxor (fieldsVF w) s
  | 3 => execMnot (fieldsVF w) s
  | 4 => execMffs (fieldsVF w) s
  | 5 => execMpop (fieldsVF w) s
  | 6 => execMset (fieldsVF w) s
  | 7 => execVidx (fieldsVF w) s
  | 8 => execVmsel (fieldsVF w) s
  | _ => execUnallocatedEncoding 2 s

/-- A word of major 0x22, VPERM (R87). -/
def runVperm (w : BitVec 32) (s : State) : Ran :=
  match (w.extractLsb' 27 5).toNat with
  | 0 => execVperm (fieldsVF w) s
  | 1 => execVslup (fieldsVF w) s
  | 2 => execVsldn (fieldsVF w) s
  | 3 => execVcmpr (fieldsVF w) s
  | 4 => execVexpd (fieldsVF w) s
  | 5 => execVbcst (fieldsVF w) s
  | 6 => execVmvxs (fieldsVF w) s
  | 7 => execVmvsx (fieldsVF w) s
  | 8 => execVmov (fieldsVF w) s
  | 9 => execVxchg (fieldsVF w) s
  | 10 => execVkrank (fieldsVF w) s
  | 11 => execVhist (fieldsVF w) s
  | _ => execUnallocatedEncoding 2 s

/-- A word of major 0x23, VRED (R87). -/
def runVred (w : BitVec 32) (s : State) : Ran :=
  match (w.extractLsb' 27 5).toNat with
  | 0 => execVredsum (fieldsVF w) s
  | 1 => execVredmax (fieldsVF w) s
  | 2 => execVredmin (fieldsVF w) s
  | 3 => execVfredo (fieldsVF w) s
  | 4 => execVfredf (fieldsVF w) s
  | 5 => execVfredmax (fieldsVF w) s
  | 6 => execVfredmin (fieldsVF w) s
  | _ => execUnallocatedEncoding 2 s

/-- A word of major 0x24, MAT (R87). -/
def runMat (w : BitVec 32) (s : State) : Ran :=
  match (w.extractLsb' 27 5).toNat with
  | 0 => execTset (fieldsVF w) s
  | 1 => execTldb (fieldsVF w) s
  | 2 => execTmma (fieldsVF w) s
  | 3 => execTmmaf (fieldsVF w) s
  | 4 => execTmmap (fieldsVF w) s
  | 5 => execTmmapf (fieldsVF w) s
  | 6 => execTrda (fieldsVF w) s
  | 7 => execTzacc (fieldsVF w) s
  | 8 => execTadda (fieldsVF w) s
  | 9 => execMmsx (fieldsVF w) s
  | _ => execUnallocatedEncoding 2 s

/-- A word of major 0x25, GFX (R87). -/
def runGfx (w : BitVec 32) (s : State) : Ran :=
  match (w.extractLsb' 27 5).toNat with
  | 0 => execEdge (fieldsVF w) s
  | 1 => execBoxt (fieldsVF w) s
  | 2 => execTrit (fieldsVF w) s
  | 3 => execTexf (fieldsVF w) s
  | 4 => execTexq (fieldsVF w) s
  | 5 => execPxcmt (fieldsVF w) s
  | 6 => execTclr (fieldsVF w) s
  | 7 => execTrslv (fieldsVF w) s
  | _ => execUnallocatedEncoding 2 s

/-- A 32-bit word carried out (R79, R81, R82, R87, R88). -/
def issueWord (w : BitVec 32) (s : State) : Ran :=
  if w = 0xFFFFFFFF then execUnallocatedEncoding 5 s else
  match majorOf w with
  | 0 => runSys w s
  | 1 => runFence w s
  | 2 => execBr (fieldsJF w) s
  | 3 => execCall (fieldsJF w) s
  | 4 => runBpred w s
  | 5 => runInd w s
  | 6 => execSmloop (fieldsLF w) s
  | 7 => execLiw (fieldsWF w) s
  | 8 => execPcadd (fieldsWF w) s
  | 9 => runInt w s
  | 10 => runInti w s
  | 11 => runCmp w s
  | 12 => runCmpi w s
  | 13 => runLoad w s
  | 14 => runStore w s
  | 15 => runSfp w s
  | 16 => runAmo w s
  | 17 => runQueue w s
  | 18 => runTask w s
  | 19 => runSctr w s
  | 20 => runBar w s
  | 24 => runVcfg w s
  | 25 => runVload w s
  | 26 => runVstore w s
  | 27 => runVamo w s
  | 28 => runVint w s
  | 29 => runVint2 w s
  | 30 => runVfp w s
  | 31 => runVfp2 w s
  | 32 => runVcmp w s
  | 33 => runVmask w s
  | 34 => runVperm w s
  | 35 => runVred w s
  | 36 => runMat w s
  | 37 => runGfx w s
  | 38 => execRepf (fieldsPF w) s
  | _ => execUnallocatedEncoding 1 s

/-- A compact instruction carried out (R81, R91 to R93). -/
def issueHalf (h : BitVec 16) (s : State) : Ran :=
  if h = 0 then execUnallocatedEncoding 5 s else
  match (h.extractLsb' 1 5).toNat with
  | 0 => execCmov (fieldsCF h) s
  | 1 => execCli (fieldsCF h) s
  | 2 => execCaddi (fieldsCF h) s
  | 3 => execCadd (fieldsCF h) s
  | 4 => execCsub (fieldsCF h) s
  | 5 => execCand (fieldsCF h) s
  | 6 => execCslli (fieldsCF h) s
  | 7 => execCsrli (fieldsCF h) s
  | 8 => execCld (fieldsCF h) s
  | 9 => execCst (fieldsCF h) s
  | 10 => execCbp (fieldsCF h) s
  | 11 => execCbpn (fieldsCF h) s
  | 12 => execCvadd (fieldsCF h) s
  | 13 => execCvmul (fieldsCF h) s
  | 14 => execCvfadd (fieldsCF h) s
  | 15 => execCvfma (fieldsCF h) s
  | _ => execUnallocatedEncoding 4 s

/-! A slot's turn. -/

/-- What stands at a slot's pc: a halfword, or a word of two. -/
inductive Fetch where
  | half (h : BitVec 16)
  | word (w : BitVec 32)
  deriving DecidableEq, Repr

/-- The instruction at the pc of a slot (R79, R80): the length is decided by bit 0 of the first halfword. -/
def fetchCode (s : State) (k : Nat) : State × Fetched Fetch :=
  let pc := (s.slot k).regs.pc
  match fetchHalf s k pc with
  | (s1, .bad r l a) => (s1, .bad r l a)
  | (s1, .miss set line) => (s1, .miss set line)
  | (s1, .got lo) =>
    if isLong lo = false then (s1, .got (.half lo))
    else match fetchHalf s1 k (pc + 2) with
      | (s2, .bad r l a) => (s2, .bad r l a)
      | (s2, .miss set line) => (s2, .miss set line)
      | (s2, .got hi) => (s2, .got (.word (hi ++ lo)))

/-- What was fetched, carried out by the slot that issues. -/
def runFetch (f : Fetch) (s : State) : Ran :=
  match f with
  | .half h => issueHalf h s
  | .word w => issueWord w s

/-- The thread of a slot is the translator kernel at work, whose instructions the spec does not give (R406). -/
def isTranslator (s : State) (k : Nat) : Bool :=
  match s.launch (s.slot k).task.launch with
  | some l => l.isTranslation
  | none => false

/-- A slot begins its turn: it is the one that issues, and the cycle is noted (R40). -/
def beginTurn (s : State) (k : Nat) : State := ({ s with cur := k }).onSlot k (fun x => { x with last := some s.cycle, wait := .none })

/-- The turn of slot `k`: a fetch fault traps, a miss waits for its line, and an instruction runs (R42, R80, R444, R463). -/
def issueSlot (s : State) (k : Nat) : Ran :=
  if isTranslator s k then execTranslationRequest 0 k s
  else
    match fetchCode (beginTurn s k) k with
    | (s1, .bad r l a) => execFetchFault r l a.toNat s1
    | (s1, .miss set line) => .next (missFetch s1 k set line)
    | (s1, .got f) => runFetch f s1

/-! The barrel (R40 to R42). -/

/-- The protected place of a cluster is taken by an open chunk (R62). -/
def protectedOpen (s : State) (cluster : Nat) : Bool :=
  s.slots.any (fun e => clusterOf e.1 == cluster && e.2.chunk.prot)

/-- A trap waits for the slot: a vector fault, a pre-emption or an interrupt that it may take (R59, R254). -/
def trapWaits (x : Slot) : Bool :=
  x.vfault.isSome || (mayInterrupt x && ((x.preempt.isSome && !x.gfx) || x.irq))

/-- The slot is runnable (R42): it holds a thread, waits for nothing, its chunk is not waiting for its commit, no pass of
it waits for a partner, and its cluster is running. -/
def runnable (s : State) (k : Nat) : Bool :=
  let x := s.slot k
  decide (x.res = .full ∨ x.res = .light) && clusterReadyBit s (clusterOf k) && !(s.cluster (clusterOf k)).stopped &&
  (decide (x.wait = .none) || (decide (x.wait = .protectedChunk) && !protectedOpen s (clusterOf k))) &&
  !x.chunk.closed && x.pairSince.isNone && !trapWaits x

/-- At least 8 cycles have passed since the slot's previous issue (R40). -/
def gapOk (s : State) (k : Nat) : Bool :=
  match (s.slot k).last with
  | some c => decide (c + 8 ≤ s.cycle)
  | none => true

/-- The slot of a core that issues at this cycle, and whether its turn is lent (R40, R41). -/
def turnOf (s : State) (core : Nat) : Option (Nat × Bool) :=
  let own := s.cycle % 16
  let id (i : Nat) : Nat := core * 16 + (own + i) % 16
  if runnable s (id 0) && gapOk s (id 0) then some (id 0, false)
  else ((upFrom 1 15).find? (fun i => runnable s (id i) && gapOk s (id i) && decide (8 ≤ i))).map (fun i => (id i, true))

/-- The cores that hold a slot in use, in ascending order. -/
def distinctCores (s : State) : List Nat :=
  (s.slots.map (fun e => coreOf e.1)).foldl (fun l c => if l.getLast? = some c then l else l ++ [c]) []

/-- The first core, from number `n` on, that issues at this cycle, with its slot. -/
def nextTurn (s : State) (n : Nat) : Option (Nat × Nat × Bool) :=
  ((distinctCores s).filter (fun c => decide (n ≤ c))).findSome? (fun c => (turnOf s c).map (fun t => (c, t)))

/-- A core issues, and the cores behind it come next. -/
def barrelTurn (s : State) (t : Nat × Nat × Bool) : Ran :=
  let s1 := { s with turn := t.1 + 1 }
  issueSlot (if t.2.2 then s1.count t.2.1 6 else s1) t.2.1

end Sys2Proof.Machine
end

