-- ==== Sys2Proof/Machine/Auto.lean ====
section
/-! DEFINITION. Machine/Auto.lean: which step of the part itself comes next. A step bound to a time is taken as soon as its
time has come; of the others, and of the slots' turns, which comes next is open where the spec gives no order. A step that
would leave the state as it is does not come. Commits come at the end of a cycle, behind the writes of R294. -/

namespace Sys2Proof.Machine

/-- The event has an occasion: it changes the state. -/
def changes (s : State) (i : Instr) : Bool :=
  match exec i s with
  | .next t => decide (t ≠ s)
  | .fault _ => false
  | .refused _ => false

/-- A task's limit for its effective class has passed (R324). -/
def ageDue (s : State) (q : QueueSt) (t : QTask) : Bool :=
  let lim := ageLimit s q.home (q.cls - t.aged)
  decide (lim ≠ 0 ∧ t.readyAt + lim ≤ s.cycle)

/-- Tasks that age (R324). -/
def agingEvents (s : State) : List Instr :=
  s.queues.flatMap (fun e => match e.2 with
    | some q => (q.tasks.filter (ageDue s q)).map (fun t => .agingStep e.1 t.seq)
    | none => [])

/-- Timed steps of a queue's leading unit (R328, R329, R333). -/
def leadTimed (s : State) (key : Nat) (q : QueueSt) : List Instr :=
  match leadOf q with
  | none => []
  | some t =>
    (if isGang t && ledFor s t 100 then [.gangReservationStart key] else []) ++
    (if goneFor s t.cand 20 && !t.fallback then [.closedClusterFallback key] else []) ++
    (if q.resume && decide (t.enq + 10000 * usCycles ≤ s.cycle) && !t.overdue then [.resumeWaitTimeout key] else [])

/-- A unit whose reservation now fits is placed at once (R329). -/
def reservedDue (s : State) : List Instr :=
  (s.clusters.filter (fun c => c.2.reserve != [] && turnDue s c.1 && (startReserved s c.1).isSome)).map (fun c => .dispatch c.1)

/-- Timed steps of the queues (R317, R328, R329, R333, R458, R469), and the completion of launches, at once and so in the
order in which they finish (R330). -/
def queueTimed (s : State) : List Instr :=
  s.queues.flatMap (fun e => match e.2 with | some q => leadTimed s e.1 q | none => []) ++
  reservedDue s ++
  s.launches.flatMap (fun e => match e.2 with
    | some l => if l.left = 0 ∨ l.ended ≠ 0 then [.launchCompletion e.1] else []
    | none => []) ++
  s.dies.flatMap (fun d => if d.2.pending = [] then [] else [.pendingQueueSwapIn d.1]) ++
  (if s.heldWrites = [] then [] else [.heldWindowWriteDrop]) ++ (if s.replays = [] then [] else [.replayEnqueueRetry])

/-- Timed steps and traps of the slots (R53, R59, R200, R243, R254). -/
def slotTimed (s : State) : List Instr :=
  s.slots.flatMap (fun e =>
    (if e.2.vfault.isSome then [.impreciseFaultTrap e.1] else []) ++
    (if e.2.preempt.isSome then [.timeSliceTrap e.1] else []) ++
    (if e.2.irq && mayInterrupt e.2 then [.hostInterrupt e.1] else []) ++
    (if e.2.pairSince.isSome then [.pairPartnerTimeout e.1] else []) ++
    (match e.2.wait with
      | .migrate _ _ _ => [.runQueueFallback e.1]
      | .sleep _ _ => [.sleepWake e.1]
      | _ => []))

/-- Timed steps of the units (R288, R334, R372, R381, R488). -/
def unitTimed (s : State) : List Instr :=
  s.moves.map (fun m => .settleExpiry m.frame) ++
  (keysOf s.heads).flatMap (fun h => [.headDeadline h, .headRaise h]) ++
  s.clusters.flatMap (fun c => (if c.2.step < 32 then [.stepRise c.1] else []) ++
    (c.2.tiles.filter (isStuck s)).map (fun t => .stuckTile c.1 t.tile))

/-- The recalls that 12 µs have passed for (R343, R474): a cluster that its die and its own bit of rdy say is there has returned its
allowance by then, and another counts as lost. -/
def recallTimed (s : State) : List Instr :=
  s.ctrs.flatMap (fun e => match e.2 with
    | some c =>
      if c.recalling = true ∧ c.since + 12 * usCycles ≤ s.cycle then
        (c.away.filter (fun a => a.2.isNone)).map (fun a =>
          if (s.die (a.1 / 3)).reachable && clusterReadyBit s a.1 then .recallMessage e.1 a.1 else .recallHolderTimeout e.1 a.1)
      else []
    | none => [])

/-- A set that has more lines than ways gives one up (R280, R281). -/
def crowdedEvents (s : State) : List Instr :=
  (upFrom 0 24).flatMap (fun c => (l1Crowded s c).flatMap (fun line =>
    (upFrom (4 * line) 4).map (fun sec => .sectorEvict sec c))) ++
  (upFrom 0 8).flatMap (fun d => (dieCrowded s d).map .dieCacheLineEviction)

/-- The count of a BARARR that heads a slot's vector instruction queue. -/
def arrivalFirst (x : Slot) : Bool :=
  match x.vq with
  | e :: _ => (match e.work with | .arrive _ _ _ => true | _ => false)
  | [] => false

/-- Queued arrivals reach their words in a cycle in order of slot number, among the updates of the slots that issue (R346): a
slot's when the cores before it have issued, and none behind it. -/
def arrivalEvents (s : State) : List Instr :=
  let ks := keysOf (s.slots.filter (fun e => arrivalFirst e.2 && decide (s.turn ≤ coreOf e.1 + 1)))
  (match nextTurn s s.turn with
    | some t => ks.filter (fun k => decide (k < t.2.1))
    | none => ks).map .vectorUnitDispatch

/-- The steps that come at once: timed ones whose time has come, evictions that a full set needs, and queued arrivals. -/
def timedEvents (s : State) : List Instr :=
  match (arrivalEvents s).filter (changes s) with
  | a :: _ => [a]
  | [] => (agingEvents s ++ queueTimed s ++ slotTimed s ++ unitTimed s ++ recallTimed s ++ crowdedEvents s).filter (changes s)

/-- The sectors that a closed chunk has written and whose cluster does not own them (R281, R293). -/
def unowned (s : State) (k : Nat) : List Nat :=
  let c := (s.slot k).chunk
  if c.closed = false then [] else
  ((c.stores.filter (fun r => decide (r.kind = 0))).flatMap (fun r => sectorsOf r.key r.bytes.length)).filter (fun sec =>
    !decide ((s.dirOf sec).st = .M ∧ (s.dirOf sec).sharers = [clusterOf k]))

/-- The closed chunks that the plumbs accept at the end of a cycle (R293): those that own what they have written and are not
held back, at most four of a cluster, in order of slot number. -/
def dueCommits (s : State) : List Nat :=
  let ks := keysOf (s.slots.filter (fun e => e.2.chunk.closed && !e.2.chunk.back && decide (unowned s e.1 = [])))
  (upFrom 0 24).flatMap (fun c => (ks.filter (fun k => decide (clusterOf k = c))).take 4)

/-- Steps of a slot that come when they can. -/
def slotEvents (s : State) (k : Nat) (x : Slot) : List Instr :=
  (unowned s k).map (fun sec => .directoryWriteOwnership sec (clusterOf k)) ++
  (if x.arrivals = [] then [] else [.pendingResultArrival k]) ++
  (match x.vq with
    | [] => []
    | e :: _ => match e.work with
      | .grant _ _ _ _ => [.spanGrant k]
      | .arrive _ _ _ => []
      | _ => [.vectorUnitDispatch k]) ++
  (match x.wait with
    | .loadData _ _ _ => [.loadDataArrival k]
    | .migrate _ _ _ => [.migrationArrival k]
    | .pop _ => [.popWaitWake k]
    | .capacity _ _ => [.capacityWaitWake k]
    | .barrier _ _ => [.barwtWake k]
    | .queueMiss key _ => [.queueSwapIn key]
    | .exited => [.vectorUnitDispatch k]
    | _ => [])

/-- Steps of the homes of counters (R339 to R341, R502). -/
def counterEvents (s : State) : List Instr :=
  s.ctrs.flatMap (fun e => match e.2 with
    | some c =>
      (if c.asked = [] then [] else [.homeTakeRequest e.1]) ++ (if c.gives = [] ∧ c.away = [] then [] else [.homeGive e.1]) ++
        (if c.recalling then [.recallExactPoint e.1] else []) ++ (if c.parked = [] then [] else [.parkedTakeGrant e.1]) ++
        (c.away.filter (fun a => a.2.isNone)).map (fun a => .recallMessage e.1 a.1)
    | none => [])

/-- A cluster's dispatch unit has something to start, or counts a turn towards stealing, or ends that count (R323, R326); with no
task and no peer anywhere there is nothing to steal. -/
def dispatchDue (s : State) (c : Nat) : Bool :=
  turnDue s c && ((packetCore s c).isSome || !(candidates s c (c / 3)).isEmpty || !(staleDeficits s c).isEmpty ||
    (reserved s c).isSome || (decide ((s.cluster c).idle ≠ 0) && !hasFreeSlot s c) ||
    (hasFreeSlot s c && decide ((s.cluster c).idle < 4) &&
      (s.queues.any (fun e => match e.2 with | some q => !q.tasks.isEmpty | none => false) ||
        s.links.any (fun e => e.2.isSome))))

/-- Steps of the scheduler (R317, R318, R323, R326, R331). -/
def schedEvents (s : State) : List Instr :=
  s.queues.flatMap (fun e => match e.2 with
    | some q => if q.resident then [] else [.queueSwapIn e.1]
    | none => []) ++
  s.heldWrites.map (fun h => .queueSwapIn h.key) ++
  ((upFrom 0 24).filter (fun c => clusterReadyBit s c)).flatMap (fun c =>
    (if dispatchDue s c then [.dispatch c] else []) ++ (if 4 ≤ (s.cluster c).idle then [.clusterSteal c] else []) ++
    (if s.queues.any (fun e => match e.2 with | some q => (leadOf q).isSome | none => false) then [.preemptionRequest c]
      else []))

/-- Evictions that may come at any time (R281, R282). -/
def evictEvents (s : State) : List Instr :=
  s.dir.flatMap (fun e => (e.2.sharers.map (fun a => .sectorEvict e.1 a)) ++ [.dieCacheLineEviction (e.1 / 4)]) ++
  s.clusters.flatMap (fun c => c.2.l1u.map (fun u => .sectorEvict u.sector c.1)) ++
  s.dies.flatMap (fun d => d.2.dcu.map (fun u => .dieCacheLineEviction (u.sector / 4)))

/-- The part of a cycle in which engines and commit units act: behind the slots' updates (R346), and in a cycle that accepts no
commit, since an engine's write comes before a commit of its cycle (R294) and its credit behind it (log 186). -/
def enginePhase : Nat := 4609

/-- Engines and the credits of the commit units. -/
def lastEvents (s : State) : List Instr :=
  if s.turn < enginePhase then []
  else (if s.credits = [] then [] else [.resolveCredit]) ++ (keysOf s.engines).filterMap (engineDue s)

/-- An engine or a commit unit may have something to do. -/
def enginesBusy (s : State) : Bool := !s.credits.isEmpty || (keysOf s.engines).any (fun e => (engineDue s e).isSome)

/-- Steps of the other units (R224, R227, R245, R351, R453, R463, R499). -/
def unitEvents (s : State) : List Instr :=
  s.cores.flatMap (fun c => (if c.2.fills = [] then [] else [.icacheFill c.1]) ++
    (if c.2.fenced = c.2.lanemap then [] else [.laneSliceFence c.1])) ++
  s.clusters.flatMap (fun c => if c.2.packets = [] then [] else [.commitPacket c.1]) ++
  (if s.reds = [] then [] else [.redaddPerform]) ++
  lastEvents s ++ s.dies.flatMap (fun d => if d.2.recalling.isSome then [.frameRecallComplete d.1] else [])

/-- The steps that may come now. -/
def freeEvents (s : State) : List Instr :=
  (s.slots.flatMap (fun e => slotEvents s e.1 e.2) ++ counterEvents s ++ schedEvents s ++ unitEvents s ++
    evictEvents s).filter (changes s)

/-! The clock. -/

/-- A measurement of the module controller: the world's values are free. -/
def measured (s : State) : Meas :=
  ⟨Config.freeNat s.free, Config.freeNat (s.free + 1), Config.freeNat (s.free + 2), Config.freeNat (s.free + 3),
    (upFrom 4 24).map (fun i => Config.freeNat (s.free + i))⟩

/-- A microsecond of a slot in user mode counts its lease down; the last one is its expiry (R380). -/
def leaseTick (s : State) (k : Nat) : State :=
  let x := s.slot k
  if x.spv ∨ leaseTime x.sys.lease = 0 then s
  else if leaseTime x.sys.lease = 1 then { s with agenda := s.agenda ++ [.event (.leaseExpiry k)] }
  else s.onSlot k (fun y => { y with sys := { y.sys with lease := setField y.sys.lease 23 0 (leaseTime y.sys.lease - 1) } })

/-- The level that a context asks for in the domain at bit `lo` of pwreq (R375). -/
def askedLevel (y : SysRegs) (lo : Nat) : Nat :=
  let r := min (fieldOf y.pwreq (lo + 2) lo) (budLvl y.pwbud)
  if r ≤ 5 then r else if leaseTime y.lease = 0 then 5 else min r (leaseLvl y.lease)

/-- The levels of a core's domains (R375): what its resident contexts ask for, under its cluster's cap; 5 for light threads
alone, 0 for none. -/
def coreLevels (s : State) (core : Nat) : Nat :=
  let fulls := ((slotsOf core).filter (fun k => decide ((s.slot k).res = .full))).map (fun k => (s.slot k).sys)
  let light := (slotsOf core).any (fun k => decide ((s.slot k).res = .light))
  let level (lo : Nat) : Nat :=
    if fulls = [] then (if light then 5 else 0)
    else min ((fulls.map (fun y => askedLevel y lo)).foldl max 0) (bits (s.cluster (core / 192)).cap (lo + 2) lo)
  level 0 + 8 * level 3 + 64 * level 6

/-- Every core that holds a thread, or has run at a level, takes its new levels: within 20 µs of the decision (R374), here
at the next microsecond. -/
def setLevels (s : State) : State :=
  let cores := distinct ((keysOf (s.slots.filter (fun e => decide (e.2.res ≠ .empty)))).map coreOf ++
    keysOf (s.cores.filter (fun c => c.2.levels != 0)))
  cores.foldl (fun s c => s.onCore c (fun y => { y with levels := coreLevels s c })) s

/-- One scalar cycle passes: resident threads count it (R75), leases run (R380), levels follow (R374), waiting units are
noted (R328, R331), peers take units and report ends (R327), and every 100 µs the slow loop comes (R382). -/
def tick (s : State) : State :=
  let held := keysOf (s.slots.filter (fun e => decide (e.2.res = .full ∨ e.2.res = .light)))
  let s1 := { s with cycle := s.cycle + 1, turn := 0 }
  let s2 := held.foldl (fun s k => s.count k 1) s1
  let s3 := peerTurn (markLeads (if s2.cycle % usCycles = 0 then setLevels (held.foldl leaseTick s2) else s2))
  if s3.cycle % (100 * usCycles) = 0 then
    { s3 with agenda := s3.agenda ++ [.event (.slowLoopPeriod (measured s3))], free := s3.free + 28 }
  else s3

/-- Member `n` of a list counted round, and the state with the free value consumed. -/
def pickEvent (s : State) (l : List Instr) (n : Nat) : Option Instr := l[Config.freeNat s.free % n]?

end Sys2Proof.Machine
end

