-- ==== Sys2Proof/Machine/Step.lean ====
section
/-! DEFINITION. Machine/Step.lean: one step of the machine, and placing an instruction where the next step fetches it. -/

namespace Sys2Proof.Machine

/-- What stands on the agenda, carried out; a store to a device register is the write of that register, and one behind it
performs (R292). -/
def runActor (a : Actor) (s : State) : Ran :=
  match a with
  | .slot k => issueSlot s k
  | .event i => exec i s
  | .store cluster key kind bs => .next (pokeLoc s cluster key kind bs)
  | .reg a bs => exec (devStore s a bs) s
  | .destroyed a => .next (destroyProcess s a)
  | .clock => .next (tick s)

/-- The barrel moves: the next core that issues at this cycle, or else the cycle's commits and the clock (R40, R293), or what the
engines and commit units do in a cycle without a commit, and the clock behind it (R294, R346). -/
def barrelStep (s : State) : Ran :=
  match nextTurn s s.turn with
  | some t => barrelTurn s t
  | none => match (if s.turn < enginePhase then dueCommits s else []) with
    | [] => .next (if s.turn < enginePhase ∧ enginesBusy s = true then { s with turn := enginePhase } else tick s)
    | ks => .next { s with agenda := ks.map (fun k => .event (.chunkCommit k)) ++ [.clock] }

/-- A step when nothing stands on the agenda. -/
def autoStep (s : State) : Ran :=
  let s1 := { s with free := s.free + 1 }
  match timedEvents s with
  | t :: ts => match pickEvent s (t :: ts) (t :: ts).length with
    | some i => exec i s1
    | none => barrelStep s1
  | [] => match freeEvents s with
    | [] => barrelStep s
    | f :: fs => match pickEvent s (f :: fs) ((f :: fs).length + 1) with
      | some i => exec i s1
      | none => barrelStep s1

/-- One step: what stands first on the agenda, and otherwise a step of the part or a turn of the barrel. -/
def step (s : State) : Host.Outcome State Fault Refusal :=
  match s.agenda with
  | a :: rest => runActor a { s with agenda := rest }
  | [] => autoStep s

/-! Placing an instruction. -/

/-- Physical base of the page tables that `withFetchWord` builds, one page for each level. -/
def placeTables : Nat := 0x10000
/-- Physical address, and virtual address, of the instruction it places. -/
def placeCode : Nat := 0x20000

/-- The entries that map the page of the placed instruction: four pointers and an executable leaf. -/
def placeEntries : List (Nat × Nat) :=
  [(placeTables, (placeTables / 4096 + 1) * 65536 + 1),
   (placeTables + 0x1000, (placeTables / 4096 + 2) * 65536 + 1),
   (placeTables + 0x2000, (placeTables / 4096 + 3) * 65536 + 1),
   (placeTables + 0x3000, (placeTables / 4096 + 4) * 65536 + 1),
   (placeTables + 0x4000 + 8 * (placeCode / 4096), placeCode / 4096 * 65536 + 0xBF)]

/-- A full thread in supervisor mode at the placed instruction, its vector state clean. -/
def placeSlot : Slot :=
  { Slot.empty with
    res := .full
    regs := { Regs.zero with pc := word placeCode }
    sys := { SysRegs.zero with status := 5, ptbase := word placeTables }
    vec := { Vec.zero with split := 4, vstate := 0x15 } }

/-- The state with an instruction of `nbits` bits stored where the next step fetches: in memory and in the instruction
cache of core 0, before a full supervisor thread in slot 0 of a ready cluster, whose turn is next. -/
def State.withFetchWord (s : State) (nbits w : Nat) : State :=
  let code := toLe 4 (w % 2 ^ nbits)
  let s1 := placeEntries.foldl (fun s e => s.putLe e.1 8 e.2) s
  let s2 := (s1.putBytes placeCode code).putSlot 0 placeSlot
  let s3 := s2.onCore 0 (fun c => { c with
    split := some 4, owner := some 0, mown := 0
    icache := [⟨placeCode / 64 % 128, placeCode / 64, code ++ List.replicate 60 0⟩] })
  { s3 with rdy := s3.rdy ||| 1, agenda := [.slot 0] }

end Sys2Proof.Machine
end

