-- ==== Sys2Proof/Safety.lean ====
section
/-! DEFINITION. Safety.lean: the terms in which claims are stated: a machine that goes on, the invariant of the state, a
thread that may issue an instruction, and the two ways an instruction retires. -/

namespace Sys2Proof.Machine

/-- The step answers a next state: the machine neither stops nor refuses. -/
def StepsOn (s : State) : Prop := ∃ t, step s = .next t

/-- The invariant that every step keeps: memory is in its canonical form. -/
def Inv (s : State) : Prop := Memory.wf s.mem = true

/-- The issuing slot runs a thread (R33). -/
def RunsThread (s : State) : Prop := s.me.res = .full ∨ s.me.res = .light

/-- A light thread has the register: s0 to s9 and zr (R33). -/
def HasRegister (x : Slot) (r : Reg) : Prop := x.light = true → r.toNat < 10 ∨ r = 31

/-- A thread that may issue an instruction naming the registers `rs`: it has them, none of them waits for a result of the
vector unit (R45) or will by an instruction of the open chunk (R47), and none of them is bound to a queue (R74). -/
structure Ready (s : State) (rs : List Reg) : Prop where
  thread : RunsThread s
  has : ∀ r ∈ rs, HasRegister s.me r
  arrived : ∀ r ∈ rs, r ∉ pendingRegs s.me
  promised : ∀ r ∈ rs, r ∉ chunkPending s.me
  unbound : ∀ r ∈ rs, isBound s.me r = false

/-- A ready thread that holds every register of a full thread (R33). -/
structure ReadyFull (s : State) (rs : List Reg) : Prop extends Ready s rs where
  full : s.me.light = false

/-- A ready full thread whose vector context is in use and whose vector unit holds no frame back (R72, R260). -/
structure ReadyVec (s : State) (rs : List Reg) : Prop extends ReadyFull s rs where
  live : s.me.vec.vecField ≠ 0
  released : s.me.spv = false ∨ s.me.held = []

/-- The open chunk of the issuing slot holds nothing, so that an irrevocable instruction may issue (R291). -/
def NoChunk (s : State) : Prop := s.me.chunk = .empty

/-- An instruction whose whole effect is on the scalar registers retires into the open chunk (R289, R290). -/
def retires (s : State) (f : Regs → Regs) : State := joinChunk s (s.onMe (fun x => { x with regs := f x.regs })) 1

/-- A deferred effect of the issuing slot's chunk with the move of its registers (R291). -/
def promises (s : State) (d : Deferred) (f : Regs → Regs) : State :=
  s.onMe (fun x => { x with chunk := { x.chunk with deferred := x.chunk.deferred ++ [d] }, regs := f x.regs })

/-- An aligned access of `n` bytes by the issuing slot reaches a location, the state then being `s1`, is not one that sends a
migrating thread away (R139, R50), and no acquire of the vector unit is queued before it (R300). -/
structure Locates (s : State) (va : Word) (n : Nat) (w : Want) (l : Loc) (s1 : State) : Prop where
  aligned : va.toNat % n = 0
  reached : resolveFor s s.cur va w = (s1, .ok l)
  stays : mustMigrate s va = none
  acquired : acquireQueued s.me = false

/-- Slot `k` has entered its trap handler from `s` to `t` (R253, R71): the exception registers hold the cause, and epc the
instruction to return to; the privilege and the interrupt enable move to their saved bits; the pc is svec; the
undispatched vector instructions are held. -/
def TrapTaken (s t : State) (k code : Nat) (addr info epc : Word) : Prop :=
  let x := s.slot k
  let y := t.slot k
  y.sys.ecause = word code ∧ y.sys.eaddr = addr ∧ y.sys.einfo = info ∧ y.sys.epc = epc ∧
  (∀ i < 64, y.sys.status.getLsbD i =
    (if i = 0 then true else if i = 1 then x.sys.status.getLsbD 0 else if i = 2 then false
      else if i = 3 then x.sys.status.getLsbD 2 else x.sys.status.getLsbD i)) ∧
  y.regs.pc = x.sys.svec ∧ y.vq = [] ∧ y.held.map QEntry.work = (x.held ++ x.vq).map QEntry.work

/-- The machine lists slot `k`, once. -/
def Listed (s : State) (k : Nat) : Prop := s.slots.filter (fun e => e.1 == k) = [(k, s.slot k)]

/-- The byte at an address of physical memory. -/
def byteAt (s : State) (a : Nat) : Byte := rd unlistedByte s.mem a

/-- Nothing of the machine but slots and clusters differs. -/
def SameBesideSlots (s t : State) : Prop := { t with slots := s.slots, clusters := s.clusters } = s

/-- No fault log is set up, so that a record goes nowhere (R425, R426). -/
def NoLog (s : State) : Prop := s.dreg dlbaseA = 0 ∧ ∀ p, s.dreg (clbaseA p) = 0

/-- The machine as an engine's step finds it: free places are taken, and the free value of this step is spent. -/
def engineNow (s : State) (e : Nat) : State := { startAll s e with free := s.free + 1 }

/-- An engine differs from another at most in the translations that its commands hold (R351). -/
def SameWork (y z : EngineSt) : Prop := { y with pages := z.pages } = z

/-- Command `c` is alone at engine `e`, in flight and begun. -/
structure EngineHas (s : State) (e : Nat) (c : Cmd) : Prop where
  fly : (s.engine e).fly = [c]
  waiting : (s.engine e).cmds = [] ∧ (s.engine e).tiles = []
  begun : c.begun = true

/-- The run of `n` bytes at a side lies in one page of 4 KiB. -/
def InPage (x : Side) (n : Nat) : Prop := x.num % 4096 + n ≤ 4096

/-- The `n` bytes at a virtual address lie in a window of the cluster of slot `k` that the process owns, which needs no
translation, and hold `v`. -/
def OwnBytes (s : State) (k asid : Nat) (va : Word) (n v : Nat) : Prop :=
  canonical va = true ∧ inWindowRegion va = true ∧ ∃ o, windowOff k va = some o ∧
    (s.core (windowCore (clusterOf k) o)).owner = some asid ∧ v = s.le (winKey (clusterOf k) o) n

/-- A handle of a process stands (R311, R312): its table's header, in a window, covers it, and its entry `e`, as a resident
queue's home last read it or else in a window, is valid, of its generation, and without a reserved value. -/
structure HandleStands (s : State) (k asid : Nat) (qtbase : Word) (handle : Nat) (e : QEnt) : Prop where
  header : ∃ h, OwnBytes s k asid qtbase 64 h ∧ h % 256 ≠ 0 ∧ bits h 511 24 = 0 ∧
    handle % 65536 ≠ 0 ∧ handle % 65536 ≤ bits h 23 8
  entry : (∃ q, s.queue (queueKey asid handle) = some q ∧ q.resident = true ∧ q.qtbase = qtbase ∧ q.entry = e.raw) ∨
    ((∀ q, s.queue (queueKey asid handle) = some q → q.resident = false) ∧
      OwnBytes s k asid (qtbase + word (64 * (handle % 65536))) 64 e.raw)
  valid : e.f 163 163 = 1 ∧ e.f 191 176 = handle / 65536 % 65536 ∧ e.ok = true

/-- A side lies at `key` in a window of its process, which needs no translation: by its offset, or by an address in the
windows of the cluster at which the engine's translations run. -/
def InOwnWindow (s : State) (e : Nat) (c : Cmd) (x : Side) (key : Nat) : Prop :=
  match x.win with
  | some cl => (s.core (windowCore cl x.num)).owner = some c.asid ∧ key = winKey cl x.num
  | none => canonical x.va = true ∧ inWindowRegion x.va = true ∧ ∃ o,
      windowOff (engineCluster e * 3072) x.va = some o ∧
      (s.core (windowCore (engineCluster e) o)).owner = some c.asid ∧ key = winKey (engineCluster e) o

/-- Bytes of memory or of a window are `bs` from a location on, and every other byte is as it was in `s1`. -/
def Placed (s1 t : State) (l : Loc) (bs : List Byte) : Prop :=
  (∀ i < bs.length, byteAt t (l.key + i) = bs.getD i 0) ∧
  ∀ a, a < l.key ∨ l.key + bs.length ≤ a → byteAt t a = byteAt s1 a

/-- The only queue of the machine holds one light task, which leads it: it starts at once on any core of its partition that
has a free slot, and cluster `c` of that partition, which takes work, is open, and holds no reservation and no packet, has
such a core. -/
structure LightTaskWaits (s : State) (c key : Nat) (q : QueueSt) (u : QTask) : Prop where
  only : s.queues = [(key, some q)]
  queue : q.resident = true ∧ q.kind = 0 ∧ q.home < 8 ∧ q.tasks = [u]
  task : dLight u.desc = true ∧ dLaunch u.desc = false ∧ u.tiles = 0 ∧ u.core = none
  launch : ∃ l, s.launch u.launch = some l ∧ l.dies = [] ∧ l.isTranslation = false
  cluster : c < 24 ∧ (s.cluster c).isOpen = true ∧ (s.cluster c).reserve = [] ∧ partOf s c = partOf s (3 * q.home)
  packets : ∀ e ∈ s.cores, e.1 / 192 = c → e.2.runq = []
  place : ∃ core, core / 192 = c ∧ takesWork (s.core core) = true ∧ ∃ k, k / 16 = core ∧ (s.slot k).res = .empty

/-! The vector unit. -/

/-- Element `i` of the vector that the `n` registers from `r` on hold. -/
def groupEl (sh : Shape) (ew : Nat) (v : Vec) (r n i : Nat) : Nat := elAt sh ew (v.grps sh r n) i

/-- The vector instruction `code` stands first in the queue of slot `k`, before `rest`, with no fault waiting; none of its
vector registers is bound, no lane of its cores is retired (R499), and no check of R434 refuses it. -/
structure AtLanes (s : State) (k : Nat) (e : QEntry) (rest : List QEntry) (code : BitVec 32) : Prop where
  thread : (s.slot k).res = .full ∨ (s.slot k).res = .light
  quiet : (s.slot k).vfault = none
  first : (s.slot k).vq = e :: rest
  work : e.work = .vector code
  unbound : ∀ r, boundVec (s.slot k) r = none
  whole : ∀ j ∈ k :: (s.slot k).vec.segs, (s.core (coreOf j)).fenced = 0xFFFFFFFF
  passes : laneReason (s.slot k) (shapeOf (s.slot k).vec e.cap)
    (laneSpec s k (shapeOf (s.slot k).vec e.cap) (VOp.of code e.vals e.fmt e.pc) code) = none

/-- Element processing (R170) of the `n` registers from `d` on into elements of width `ew`: an element from vstart on takes its
result where the mask `m` selects it and follows mz where it does not; the tail follows tz; with vl = 0 nothing
changes. No other register and no mask changes, and vstart is zero afterwards. -/
structure Processed (sh : Shape) (v t : Vec) (m d n ew : Nat) (f : Nat → Nat) : Prop where
  elements : ∀ i < sh.max, groupEl sh ew t d n i =
    (if sh.vl = 0 then groupEl sh ew v d n i
      else if sh.vl ≤ i then (if sh.tz then 0 else groupEl sh ew v d n i)
      else if i < sh.vstart then groupEl sh ew v d n i
      else if maskBit v sh m i then f i % 2 ^ ew
      else if sh.mz then 0 else groupEl sh ew v d n i)
  others : ∀ j r, r < 32 → r < d ∨ d + n ≤ r → rd 0 t.v (32 * j + r) = rd 0 v.v (32 * j + r)
  masks : t.m = v.m
  start : t.vstart = 0
  length : t.vl = v.vl ∧ t.vtype = v.vtype

/-- Element processing into the bits of mask `d` (R170, R183, R184); no vector register and no other mask changes. -/
structure ProcessedMask (sh : Shape) (v t : Vec) (m d : Nat) (f : Nat → Bool) : Prop where
  bits : ∀ i < sh.max, (rd 0 t.m (8 * (i / sh.seg) + d)).testBit (i % sh.seg) =
    (let old := (rd 0 v.m (8 * (i / sh.seg) + d)).testBit (i % sh.seg)
      if sh.vl = 0 then old else if sh.vl ≤ i then (if sh.tz then false else old) else if i < sh.vstart then old
      else if maskBit v sh m i then f i else if sh.mz then false else old)
  others : ∀ j r, r < 8 → r ≠ d → rd 0 t.m (8 * j + r) = rd 0 v.m (8 * j + r)
  registers : t.v = v.v
  start : t.vstart = 0
  length : t.vl = v.vl ∧ t.vtype = v.vtype

/-- The vector unit has finished the entry `e` of slot `k` with the results `res`, which are on their way to the scalar side
(R45); no scalar register and no byte of memory has changed. -/
structure Finished (s t : State) (k : Nat) (e : QEntry) (rest : List QEntry) (res : List Word) : Prop where
  queue : (t.slot k).vq = rest
  results : (t.slot k).arrivals = (s.slot k).arrivals ++ e.dst.zip res
  quiet : (t.slot k).vfault = none
  registers : (t.slot k).regs = (s.slot k).regs
  memory : t.mem = s.mem

end Sys2Proof.Machine
end

