-- ==== Sys2Proof/Certificates/Slice0/Obligations.lean ====
section
/-! DEFINITION. Certificates/Slice0/Obligations.lean: what is claimed of the model, rule by rule. -/

open Sys2Proof Sys2Proof.Machine

/-! ### Issue and retirement of scalar instructions -/

/-- R289, R290: an instruction that retires into the chunk leaves the slot with its new registers and one more instruction
in its open chunk, whose checkpoint is the registers before its first instruction; the chunk closes at 256 instructions
(one after a squashed protected chunk); nothing else of the machine changes but the slot's place in the protection
order. -/
def Obligations.RetiringInstructionJoinsChunk : Prop :=
  ∀ (s : State) (f : Regs → Regs),
    let t := retires s f
    t.me.regs = f s.me.regs ∧
    t.me.chunk.count = s.me.chunk.count + 1 ∧
    t.me.chunk.ckpt = (if s.me.chunk.count = 0 then some s.me.regs else s.me.chunk.ckpt) ∧
    t.me.chunk.closed = (s.me.chunk.closed ||
      decide ((if 0 < s.me.single then 1 else 256) ≤ s.me.chunk.count + 1)) ∧
    t.me.chunk.stores = s.me.chunk.stores ∧ t.me.chunk.deferred = s.me.chunk.deferred ∧
    t.me.chunk.rset = s.me.chunk.rset ∧ t.me.chunk.wset = s.me.chunk.wset ∧
    t.me.vec = s.me.vec ∧ t.me.vq = s.me.vq ∧ t.me.wait = s.me.wait ∧ t.me.ports = s.me.ports ∧
    t.me.sys.status = s.me.sys.status ∧ t.me.sys.epc = s.me.sys.epc ∧ t.me.sys.qmap = s.me.sys.qmap ∧
    t.me.sys.instret = s.me.sys.instret ∧
    (∀ k, k ≠ s.cur → t.slot k = s.slot k) ∧ SameBesideSlots s t

/-! ### Scalar operations -/

/-- R136: the register operations write s[d] with the result of the table and move the pc by four. -/
def Claim.RegisterOperationsWriteResult : Prop :=
  ∀ (x : TF) (s : State),
    let a := s.me.regs.get x.a
    let b := s.me.regs.get x.b
    let done (v : Word) := Host.Outcome.next (retires s (fun r => (r.set x.d v).skip 4))
    Ready s [x.a, x.b, x.d] →
      exec (.add x) s = done (BitVec.ofNat 64 (a.toNat + b.toNat)) ∧
      exec (.sub x) s = done (BitVec.ofInt 64 (a.toInt - b.toInt)) ∧
      exec (.mul x) s = done (BitVec.ofInt 64 (a.toInt * b.toInt)) ∧
      exec (.mulh x) s = done (BitVec.ofInt 64 (a.toInt * b.toInt / 2 ^ 64)) ∧
      exec (.mulhu x) s = done (BitVec.ofNat 64 (a.toNat * b.toNat / 2 ^ 64)) ∧
      exec (.div x) s = done (if b = 0 then BitVec.allOnes 64 else BitVec.ofInt 64 (a.toInt.tdiv b.toInt)) ∧
      exec (.rem x) s = done (if b = 0 then a else BitVec.ofInt 64 (a.toInt.tmod b.toInt)) ∧
      exec (.divu x) s = done (if b = 0 then BitVec.allOnes 64 else BitVec.ofNat 64 (a.toNat / b.toNat)) ∧
      exec (.remu x) s = done (if b = 0 then a else BitVec.ofNat 64 (a.toNat % b.toNat)) ∧
      exec (.and x) s = done (a &&& b) ∧
      exec (.or x) s = done (a ||| b) ∧
      exec (.xor x) s = done (a ^^^ b) ∧
      exec (.sll x) s = done (a <<< (b.toNat % 64)) ∧
      exec (.srl x) s = done (a >>> (b.toNat % 64)) ∧
      exec (.sra x) s = done (a.sshiftRight (b.toNat % 64)) ∧
      exec (.min x) s = done (if a.toInt ≤ b.toInt then a else b) ∧
      exec (.max x) s = done (if a.toInt ≤ b.toInt then b else a) ∧
      exec (.minu x) s = done (if a.toNat ≤ b.toNat then a else b) ∧
      exec (.maxu x) s = done (if a.toNat ≤ b.toNat then b else a) ∧
      exec (.sel x) s = done (if s.me.regs.p.getLsbD x.d.toNat then a else b)

/-- R136: CLZ, CTZ and POPC count the leading zero bits, the trailing zero bits and the one bits of s[a], 64 when there is no
one bit for the first two. -/
def Claim.BitCountsWriteResult : Prop :=
  ∀ (x : TF) (s : State), x.b = 0 → Ready s [x.a, x.d] →
    let a := s.me.regs.get x.a
    let done (n : Nat) := Host.Outcome.next (retires s (fun r => (r.set x.d (BitVec.ofNat 64 n)).skip 4))
    (∃ n, exec (.clz x) s = done n ∧ n ≤ 64 ∧ (∀ i < 64, 64 - n ≤ i → a.getLsbD i = false) ∧
      (n < 64 → a.getLsbD (63 - n) = true)) ∧
    (∃ n, exec (.ctz x) s = done n ∧ n ≤ 64 ∧ (∀ i < n, a.getLsbD i = false) ∧ (n < 64 → a.getLsbD n = true)) ∧
    exec (.popc x) s = done ((List.range 64).countP (fun i => a.getLsbD i))

/-- R137: the immediate operations take y = sext(imm12, 12); the shifts take imm12[5:0]
when imm12[11:6] is zero and otherwise trap with ecause 0x12. -/
def Claim.ImmediateOperationsWriteResult : Prop :=
  ∀ (x : IF) (s : State), Ready s [x.a, x.d] →
    let a := s.me.regs.get x.a
    let y : Word := x.imm.signExtend 64
    let done (v : Word) := Host.Outcome.next (retires s (fun r => (r.set x.d v).skip 4))
    exec (.addi x) s = done (BitVec.ofInt 64 (a.toInt + x.imm.toInt)) ∧
    exec (.andi x) s = done (a &&& y) ∧
    exec (.ori x) s = done (a ||| y) ∧
    exec (.xori x) s = done (a ^^^ y) ∧
    (x.imm.toNat < 64 →
      exec (.slli x) s = done (a <<< x.imm.toNat) ∧
      exec (.srli x) s = done (a >>> x.imm.toNat) ∧
      exec (.srai x) s = done (a.sshiftRight x.imm.toNat)) ∧
    (64 ≤ x.imm.toNat → NoChunk s → s.me.vq = [] → s.me.held = [] →
      ∀ i ∈ [Instr.slli x, .srli x, .srai x], ∃ t, exec i s = .next t ∧
        TrapTaken s t s.cur 0x12 s.me.regs.pc 24 s.me.regs.pc)

/-- The scalar integer operations, on registers and with an immediate, write the result that their rule gives, and the
bit counts theirs. Each part above says which rules. -/
def Obligations.IntegerOperationsWriteResult : Prop :=
  Claim.RegisterOperationsWriteResult ∧ Claim.BitCountsWriteResult ∧ Claim.ImmediateOperationsWriteResult

/-- R138: the compares write p[d] with the relation, the logical operations combine predicate bits, PRD reads the predicate
word and PWR replaces it; only PRD writes a scalar register. -/
def Claim.ComparesAndPredicatesWriteResult : Prop :=
  (∀ (x : TF) (s : State), Ready s [x.a, x.b] →
    let a := s.me.regs.get x.a
    let b := s.me.regs.get x.b
    let done (v : Bool) := Host.Outcome.next (retires s (fun r => (r.setP x.d v).skip 4))
    exec (.cmpeq x) s = done (decide (a = b)) ∧
    exec (.cmpne x) s = done (decide (a ≠ b)) ∧
    exec (.cmplt x) s = done (decide (a.toInt < b.toInt)) ∧
    exec (.cmple x) s = done (decide (a.toInt ≤ b.toInt)) ∧
    exec (.cmpltu x) s = done (decide (a.toNat < b.toNat)) ∧
    exec (.cmpleu x) s = done (decide (a.toNat ≤ b.toNat))) ∧
  (∀ (x : IF) (s : State), Ready s [x.a] →
    let a := s.me.regs.get x.a
    let done (v : Bool) := Host.Outcome.next (retires s (fun r => (r.setP x.d v).skip 4))
    exec (.cmpeqi x) s = done (decide (a.toInt = x.imm.toInt)) ∧
    exec (.cmplti x) s = done (decide (a.toInt < x.imm.toInt))) ∧
  (∀ (x : TF) (s : State), RunsThread s →
    let p (r : Reg) := s.me.regs.p.getLsbD r.toNat
    let done (v : Bool) := Host.Outcome.next (retires s (fun r => (r.setP x.d v).skip 4))
    exec (.pand x) s = done (p x.a && p x.b) ∧
    exec (.por x) s = done (p x.a || p x.b) ∧
    exec (.pxor x) s = done (p x.a ^^ p x.b) ∧
    (x.b = 0 → exec (.pnot x) s = done (!p x.a))) ∧
  (∀ (x : TF) (s : State), x.b = 0 → x.a = 0 → Ready s [x.d] →
    exec (.prd x) s = .next (retires s (fun r => (r.set x.d (r.p.setWidth 64)).skip 4))) ∧
  (∀ (x : TF) (s : State), x.b = 0 → x.d = 0 → Ready s [x.a] →
    exec (.pwr x) s = .next (retires s (fun r => { r with p := (r.get x.a).setWidth 32, pc := r.pc + 4 })))

/-- R141, R142: LIW and PCADD write their wide immediates; the branches move the pc to pc + 2 × the offset when they are
taken, and past themselves otherwise; CALL and CALLR write pc + 4 to their link register, CALLR after its target is
read; JR and CALLR to an odd target trap with ecause 0x13 instead. -/
def Claim.WideImmediatesAndControlTransfer : Prop :=
  (∀ (x : WF) (s : State), Ready s [x.d] →
    let y : Word := (x.imm ++ 0#12).signExtend 64
    exec (.liw x) s = .next (retires s (fun r => (r.set x.d y).skip 4)) ∧
    exec (.pcadd x) s = .next (retires s (fun r => (r.set x.d (r.pc + y)).skip 4))) ∧
  (∀ (x : JF) (s : State),
    let target (pc : Word) : Word := pc + BitVec.ofInt 64 (2 * x.off.toInt)
    (RunsThread s → exec (.br x) s = .next (retires s (fun r => { r with pc := target r.pc }))) ∧
    (Ready s [30] → exec (.call x) s = .next (retires s (fun r => { r.set 30 (r.pc + 4) with pc := target r.pc })))) ∧
  (∀ (x : BF) (s : State), RunsThread s →
    let target (pc : Word) : Word := pc + BitVec.ofInt 64 (2 * x.off.toInt)
    exec (.bp x) s = .next (retires s (fun r => { r with pc := if r.p.getLsbD x.p.toNat then target r.pc else r.pc + 4 })) ∧
    exec (.bpn x) s =
      .next (retires s (fun r => { r with pc := if r.p.getLsbD x.p.toNat then r.pc + 4 else target r.pc }))) ∧
  (∀ (x : TF) (s : State), x.b = 0 → (s.me.regs.get x.a).getLsbD 0 = false →
    (x.d = 0 → Ready s [x.a] → exec (.jr x) s = .next (retires s (fun r => { r with pc := r.get x.a }))) ∧
    (Ready s [x.a, x.d] →
      exec (.callr x) s = .next (retires s (fun r => { r.set x.d (r.pc + 4) with pc := r.get x.a })))) ∧
  (∀ (x : TF) (s : State), x.b = 0 → (s.me.regs.get x.a).getLsbD 0 = true → NoChunk s → s.me.vq = [] → s.me.held = [] →
    let traps (i : Instr) : Prop := ∃ t, exec i s = .next t ∧
      TrapTaken s t s.cur 0x13 (s.me.regs.get x.a) 2 s.me.regs.pc
    (x.d = 0 → Ready s [x.a] → traps (.jr x)) ∧ (Ready s [x.a, x.d] → traps (.callr x)))

/-- R92: a scalar compact operation has the effect of its 32-bit form on the register that cdst names and the register of its
r field, and moves the pc by two; a compact branch goes forward from pc + 2. -/
def Claim.CompactOperationsWriteResult : Prop :=
  ∀ (x : CF) (s : State),
    let c := s.me.regs.cdst
    let a := s.me.regs.get c
    let b := s.me.regs.get x.r
    let done (v : Word) := Host.Outcome.next (retires s (fun r => (r.set x.r v).skip 2))
    (Ready s [31, x.r] → exec (.cli x) s = done (BitVec.ofInt 64 x.imm.toInt)) ∧
    (Ready s [c, x.r] →
      exec (.caddi x) s = done (BitVec.ofInt 64 (a.toInt + x.imm.toInt)) ∧
      exec (.cslli x) s = done (a <<< x.imm.toNat) ∧
      exec (.csrli x) s = done (a >>> x.imm.toNat) ∧
      (x.imm = 0 →
        exec (.cadd x) s = done (a + b) ∧
        exec (.csub x) s = done (a - b) ∧
        exec (.cand x) s = done (a &&& b))) ∧
    (Ready s [c, 31, x.r] → x.imm = 0 → exec (.cmov x) s = done a) ∧
    (RunsThread s →
      let target (pc : Word) : Word := pc + BitVec.ofNat 64 (2 + 2 * x.imm.toNat)
      exec (.cbp x) s =
        .next (retires s (fun r => { r with pc := if r.p.getLsbD x.r.toNat then target r.pc else r.pc + 2 })) ∧
      exec (.cbpn x) s =
        .next (retires s (fun r => { r with pc := if r.p.getLsbD x.r.toNat then r.pc + 2 else target r.pc })))

/-- The compares, the predicate operations, the wide immediates, the transfers of control and the compact forms do
what their rules say. Each part above says which rules. -/
def Obligations.PredicatesTransfersAndCompactForms : Prop :=
  Claim.ComparesAndPredicatesWriteResult ∧ Claim.WideImmediatesAndControlTransfer ∧ Claim.CompactOperationsWriteResult


/-! ### Memory -/

/-- R139, R43: a scalar load of an aligned address that its process reaches returns the bytes there, extended as the mnemonic
says: at once when they are near, and otherwise when the data arrives, the slot waiting for it; cdst names the
destination at issue. Memory, and every other slot, stay as the access found them. CLD loads from s[cdst] + 8 × imm5.
The model's choices in it: log 141. -/
def Obligations.LoadsReturnMemory : Prop :=
  ∀ (s s1 : State) (va : Word) (n len : Nat) (d : Reg) (sgn : Bool) (l : Loc) (i : Instr),
    (∃ x : IF, x.d = d ∧ Ready s [x.a, x.d] ∧ va = s.me.regs.get x.a + x.imm.signExtend 64 ∧ len = 4 ∧
      (i, n, sgn) ∈ [(Instr.ld8 x, 1, true), (.ld8u x, 1, false), (.ld16 x, 2, true), (.ld16u x, 2, false),
        (.ld32 x, 4, true), (.ld32u x, 4, false), (.ld64 x, 8, true)]) ∨
    (∃ x : CF, x.r = d ∧ Ready s [s.me.regs.cdst, x.r] ∧ len = 2 ∧
      va = s.me.regs.get s.me.regs.cdst + BitVec.ofNat 64 (8 * x.imm.toNat) ∧ (i, n, sgn) = (.cld x, 8, true)) →
    Locates s va n wantRead l s1 → s1.me.squashes = s.me.squashes →
    let bytes := ofLe (loadBytes s1 s.cur l n)
    let v : Word := if sgn then BitVec.ofInt 64 (if 2 ^ (8 * n) ≤ 2 * bytes then bytes - 2 ^ (8 * n) else bytes) else
      BitVec.ofNat 64 bytes
    ∃ t, exec i s = .next t ∧ t.mem = s1.mem ∧ (∀ k, k ≠ s.cur → t.slot k = s1.slot k) ∧
      t.me.chunk.count = s.me.chunk.count + 1 ∧ t.me.chunk.stores = s.me.chunk.stores ∧
      (nearLoc s1 s.cur l n = true → t.me.regs = (s.me.regs.set d v).skip len ∧ t.me.wait = s.me.wait) ∧
      (nearLoc s1 s.cur l n = false → t.me.regs = { s.me.regs with pc := s.me.regs.pc + word len, cdst := d } ∧
        t.me.wait = .loadData d v l.key ∧
        ∃ u, exec (.loadDataArrival s.cur) t = .next u ∧ u.me.wait = .none ∧
          u.me.regs = (s.me.regs.set d v).skip len)

/-- R139, R140: a scalar store of an aligned address that its process reaches takes an entry of the chunk's store buffer with
the low bytes of its register, and memory keeps its bytes until the chunk commits. CST stores at s[cdst] + 8 × imm5.
The model's choices in it: log 17. -/
def Claim.StoresEnterStoreBuffer : Prop :=
  ∀ (s s1 : State) (va : Word) (n len : Nat) (c : Reg) (l : Loc) (i : Instr),
    (∃ x : SF, x.c = c ∧ Ready s [x.a, x.c] ∧ va = s.me.regs.get x.a + x.imm.signExtend 64 ∧ len = 4 ∧
      (i, n) ∈ [(Instr.st8 x, 1), (.st16 x, 2), (.st32 x, 4), (.st64 x, 8)]) ∨
    (∃ x : CF, x.r = c ∧ Ready s [s.me.regs.cdst, x.r] ∧ len = 2 ∧
      va = s.me.regs.get s.me.regs.cdst + BitVec.ofNat 64 (8 * x.imm.toNat) ∧ (i, n) = (.cst x, 8)) →
    Locates s va n wantWrite l s1 → s1.me.squashes = s.me.squashes → s.me.chunk.stores.length < 32 →
    (l.kind = 4 → storeRefused s1 s1.me.chunk.stores l.key (toLe n (s.me.regs.get c).toNat) = false) →
    ∃ t, exec i s = .next t ∧ t.mem = s1.mem ∧ (∀ k, k ≠ s.cur → t.slot k = s1.slot k) ∧
      t.me.regs = s1.me.regs.skip len ∧ t.me.chunk.count = s1.me.chunk.count + 1 ∧
      t.me.chunk.stores = s1.me.chunk.stores ++
        [⟨l.key, (List.range n).map (fun j => ((s.me.regs.get c).extractLsb' (8 * j) 8)), l.kind⟩]

/-- R140: a load returns the bytes of its own chunk's latest earlier store to them, and the cluster's bytes where no store of
the chunk lies. -/
def Claim.LoadReturnsOwnLatestStore : Prop :=
  ∀ (s : State) (k : Nat) (l : Loc) (n i : Nat), l.disc = false → l.kind ≤ 1 ∨ l.kind = 3 → i < n →
    ((loadBytes s k l n)[i]? = some (byteAt s (l.key + i)) ∧
      (∀ r ∈ (s.slot k).chunk.stores, l.key + i < r.key ∨ r.key + r.bytes.length ≤ l.key + i)) ∨
    ∃ before r after, (s.slot k).chunk.stores = before ++ r :: after ∧
      r.key ≤ l.key + i ∧ l.key + i < r.key + r.bytes.length ∧
      (∀ q ∈ after, l.key + i < q.key ∨ q.key + q.bytes.length ≤ l.key + i) ∧
      (loadBytes s k l n)[i]? = r.bytes[l.key + i - r.key]?

/-- A scalar store enters the store buffer and no byte of memory changes; the thread that stored reads its own latest
store. Each part above says which rules. -/
def Obligations.StoresAreSeenByTheirThread : Prop :=
  Claim.StoresEnterStoreBuffer ∧ Claim.LoadReturnsOwnLatestStore

/-- R293: when the plumb accepts a closed chunk whose stores go to memory that its cluster holds, its stores are performed in
their order as one event and every other byte of memory keeps its value; the chunk is empty, instret counts its
instructions, and its vector instructions stand in the slot's queue in their order. -/
def Obligations.CommitPerformsStores : Prop :=
  ∀ (s : State) (k : Nat), (s.slot k).chunk.closed = true → (s.slot k).chunk.count ≠ 0 → heldBack s k = false →
    (∀ r ∈ (s.slot k).chunk.stores, r.kind ≤ 1 ∨ r.kind = 3) →
    (∀ d ∈ (s.slot k).chunk.deferred, ∃ e, d = .vec e) →
    ∃ t, exec (.chunkCommit k) s = .next t ∧
      t.mem = (s.slot k).chunk.stores.foldl (fun m r => wrMany unlistedByte m r.key r.bytes) s.mem ∧
      (t.slot k).regs = (s.slot k).regs ∧ (t.slot k).chunk = .empty ∧ (t.slot k).squashes = 0 ∧
      (t.slot k).sys.instret = (s.slot k).sys.instret + word (s.slot k).chunk.count ∧
      (t.slot k).vq = (s.slot k).vq ++
        (s.slot k).chunk.deferred.filterMap (fun d => match d with | .vec e => some e | _ => none)

/-- R244: an atomic on the aligned word of a location in its scope, with no protected chunk in its way, reads the old word
into s[d] and writes the new one, performed at once: the word of memory holds it, and every other byte keeps its value.
LDA reads the word and writes no memory; STL writes s[b] and no register. Each is a chunk of its own. -/
def Claim.AtomicsReadAndWriteWord : Prop :=
  ∀ (x : QF) (s s1 : State) (l : Loc),
    let va := s.me.regs.get x.a
    let b := s.me.regs.get x.b
    let d := s.me.regs.get x.d
    let old := word (s1.le l.key 8)
    NoChunk s → s.me.chunk.deferred = [] → s.me.chunk.stores = [] → 1 ≤ x.sc.toNat → x.sc.toNat ≤ 5 →
    l.kind ≤ 1 → l.disc = false → l.tracked = true → contains s.cur x.sc.toNat l = true →
    badByte s1 l.key 8 = none → heldByProtected s1 s.cur l.key 8 = false →
    (Locates s va 8 wantWrite l s1 → Ready s [x.a, x.b, x.d] →
      ∀ i v, (i, v) ∈ [(Instr.amoadd x, old + b), (.amoand x, old &&& b), (.amoor x, old ||| b), (.amoxor x, old ^^^ b),
        (.amomin x, if old.toInt ≤ b.toInt then old else b), (.amomax x, if old.toInt ≤ b.toInt then b else old),
        (.amominu x, if old.toNat ≤ b.toNat then old else b), (.amomaxu x, if old.toNat ≤ b.toNat then b else old),
        (.amoswp x, b), (.amocas x, if old = d then b else old)] →
      ∃ t, exec i s = .next t ∧ t.mem = wrMany unlistedByte s1.mem l.key (toLe 8 v.toNat) ∧
        t.me.sys.instret = s.me.sys.instret + 1 ∧ t.me.chunk = .empty ∧
        (nearLoc s1 s.cur l 8 = true → t.me.regs = (s.me.regs.set x.d old).skip 4) ∧
        (nearLoc s1 s.cur l 8 = false → t.me.regs = { s.me.regs with pc := s.me.regs.pc + 4, cdst := x.d } ∧
          t.me.wait = .loadData x.d old l.key)) ∧
    (Locates s va 8 wantRead l s1 → Ready s [x.a, x.d] → x.b = 0 →
      ∃ t, exec (.lda x) s = .next t ∧ t.mem = s1.mem ∧ t.me.chunk = .empty ∧
        t.me.sys.instret = s.me.sys.instret + 1 ∧
        (nearLoc s1 s.cur l 8 = true → t.me.regs = (s.me.regs.set x.d old).skip 4) ∧
        (nearLoc s1 s.cur l 8 = false → t.me.regs = { s.me.regs with pc := s.me.regs.pc + 4, cdst := x.d } ∧
          t.me.wait = .loadData x.d old l.key)) ∧
    (Locates s va 8 wantWrite l s1 → Ready s [x.a, x.b] → x.d = 0 → storesQueued s1 s.cur = false →
      ∃ t, exec (.stl x) s = .next t ∧ t.mem = wrMany unlistedByte s1.mem l.key (toLe 8 b.toNat) ∧
        t.me.chunk = .empty ∧ t.me.regs = s.me.regs.skip 4)

/-- R245: REDADD checks alignment and canonical form at issue and promises its add; REDADD_PERFORM carries out the oldest add
that is not held: the word of memory at the translated address grows by s[b], wrapping, and no other byte changes.
The model's choices in it: log 90. -/
def Claim.ReductionAddsAfterCommit : Prop :=
  (∀ (x : QF) (s : State), x.d = 0 → 1 ≤ x.sc.toNat → x.sc.toNat ≤ 5 → Ready s [x.a, x.b] →
    (s.me.regs.get x.a).toNat % 8 = 0 → acquireQueued s.me = false →
    ((s.me.regs.get x.a).toNat / 2 ^ 56 = 0 ∨ (s.me.regs.get x.a).toNat / 2 ^ 56 = 255) →
    exec (.redadd x) s = .next (joinChunk s (promises s (.redadd (s.me.regs.get x.a) (s.me.regs.get x.b) x.sc.toNat)
      (fun r => r.skip 4)) 1)) ∧
  (∀ (s s1 : State) (r : Red) (l : Loc), s.reds.find? (fun q => !q.held) = some r → r.op = 0 → r.narrow = false →
    resolve { s with reds := s.reds.erase r } r.slot r.asid r.ptbase r.va { wantWrite with user := r.user } = (s1, .ok l) →
    l.kind ≤ 1 ∨ l.kind = 3 → l.disc = false →
    ∃ t, exec .redaddPerform s = .next t ∧ t.reds = s.reds.erase r ∧
      t.mem = wrMany unlistedByte s1.mem l.key (toLe 8 ((s1.le l.key 8 + r.value.toNat) % 2 ^ 64)))

/-- A scalar atomic reads its word, writes it once and returns the old value; a reduction add returns nothing and is
performed after its chunk commits. Each part above says which rules. -/
def Obligations.AtomicsAndReductions : Prop :=
  Claim.AtomicsReadAndWriteWord ∧ Claim.ReductionAddsAfterCommit


/-! ### Barriers and split counters -/

/-- R249, R250, R349: the barrier instructions on the aligned word of a window that the process owns. The word after an update
is that of the table, advanced when arrivals and bytes have reached their targets; every byte outside it stays. A BARARR
with element stores queued before it waits behind them in the vector instruction queue. BARWT gives the generation when
it differs from s[b][31:0] and otherwise waits, and BARWT_WAKE ends the wait once the generation has changed. -/
def Obligations.BarrierInstructionsUpdateWord : Prop :=
  (∀ (x : QF) (s : State) (o : Nat),
    let va := s.me.regs.get x.a
    let b := s.me.regs.get x.b
    let core := windowCore (clusterOf s.cur) o
    let key := winKey (clusterOf s.cur) o
    let w := barRead s key
    let advanced (w : BarWord) : BarWord :=
      if w.target ≤ w.arrivals ∧ w.targetBytes ≤ w.bytes then
        { w with gen := (w.gen + 1) % 2 ^ 32, arrivals := 0, bytes := 0, targetBytes := 0 }
      else w
    let updates (i : Instr) (w' : BarWord) : Prop := ∃ t, exec i s = .next t ∧ barRead t key = advanced w' ∧
      (∀ a, a < key ∨ key + 32 ≤ a → byteAt t a = byteAt s a) ∧ t.me.regs = s.me.regs.skip 4 ∧ t.me.chunk = .empty
    NoChunk s → va.toNat % 32 = 0 → inWindowRegion va = true → windowOff s.cur va = some o →
    (s.core core).owner = some s.me.asidN → heldByProtected s s.cur key 32 = false → w.bad = false →
    acquireQueued s.me = false →
    (x.sc = 0 → x.d = 0 → Ready s [x.a, x.b] →
      (b.toNat < 65536 → updates (.barinit x) { w with target := b.toNat, arrivals := 0, targetBytes := 0, bytes := 0 }) ∧
      (w.targetBytes + b.toNat < 2 ^ 56 → updates (.barexp x) { w with targetBytes := w.targetBytes + b.toNat })) ∧
    (1 ≤ x.sc.toNat → x.sc.toNat ≤ 5 → (x.sc = 1 → core = coreOf s.cur) →
      (x.d = 0 → Ready s [x.a, x.b] →
        (storesQueued s s.cur = false → w.arrivals < 65535 → w.bytes + b.toNat < 2 ^ 56 →
          updates (.bararr x) { w with arrivals := w.arrivals + 1, bytes := w.bytes + b.toNat }) ∧
        (storesQueued s s.cur = true → s.me.vq.length < 32 →
          ∃ t e, exec (.bararr x) s = .next t ∧ t.mem = s.mem ∧ t.me.regs = s.me.regs.skip 4 ∧
            t.me.vq = s.me.vq ++ [e] ∧ e.work = .arrive va b x.sc.toNat)) ∧
      (Ready s [x.a, x.b, x.d] → arrivalQueued s key = false →
        (w.gen ≠ b.toNat % 2 ^ 32 →
          ∃ t, exec (.barwt x) s = .next t ∧ t.mem = s.mem ∧ t.me.regs = (s.me.regs.set x.d (word w.gen)).skip 4) ∧
        (w.gen = b.toNat % 2 ^ 32 →
          exec (.barwt x) s = .next (s.onMe (fun y => { y with wait := .barrier key (word w.gen) })))) ∧
      (x.b = 0 → Ready s [x.a, x.d] →
        ∃ t, exec (.bartst x) s = .next t ∧ t.mem = s.mem ∧
          t.me.regs = (s.me.regs.set x.d (word (w.arrivals * 2 ^ 32 + w.gen))).skip 4))) ∧
  (∀ (s : State) (k key : Nat) (gen : Word), (s.slot k).wait = .barrier key gen → (barRead s key).gen ≠ gen.toNat →
    (∀ e ∈ s.slots, ∀ till d, e.2.wait ≠ .sleep till d) →
    exec (.barwtWake k) s = .next (s.onSlot k (fun y => { y with wait := .none })))

/-- R247, R248, R336, R339 to R341: the split-counter instructions on a 64-byte aligned object of a tracked page. SCARM arms
it with s[b] units (1), leaves one that the process has armed alone (2), and gives 0 when 65,536 counters are armed. A
take that the cluster's allowance covers is served from it, and a give joins the allowance that covers it. Everything
else asks the home and waits, and the home's answer becomes s[d].
The model's choices in it: log 71. -/
def Obligations.SplitCounterInstructions : Prop :=
  ∀ (x : QF) (s s1 : State) (l : Loc),
    let va := s.me.regs.get x.a
    let b := s.me.regs.get x.b
    let cl := clusterOf s.cur
    let gives (i : Instr) (v : Word) (P : State → Prop) : Prop :=
      ∃ t, exec i s = .next t ∧ t.me.regs = (s.me.regs.set x.d v).skip 4 ∧ t.me.chunk = .empty ∧ t.mem = s1.mem ∧ P t
    let asks (i : Instr) (kind value : Nat) : Prop :=
      ∀ a, (∀ y, s.ctr l.key = some y → a = y.asked.filter (fun r => !(r.slot == s.cur))) →
      ∃ t y, exec i s = .next t ∧ t.me.regs = s.me.regs ∧ t.me.wait = .counter l.key ∧ t.ctr l.key = some y ∧
        y.asked = a ++ [⟨s.cur, kind, value, cl, ((allowOf s cl l.key).map Prod.fst).getD 0⟩]
    NoChunk s → x.sc = 0 → va.toNat % 64 = 0 → inWindowRegion va = false → l.tracked = true →
    (resolveFor s s.cur va wantRead = (s1, .ok l) →
      (Ready s [x.a, x.b, x.d] →
        (b.toNat < 2 ^ 63 →
          (s1.ctr l.key = none → s1.ctrs.length < 65536 →
            gives (.scarm x) 1 (fun t => t.ctr l.key = some ⟨s.me.asidN, b.toNat, [], false, [], [], [], [], [], 0⟩)) ∧
          (s1.ctr l.key = none → 65536 ≤ s1.ctrs.length → gives (.scarm x) 0 (fun t => t.ctr l.key = none)) ∧
          (∀ y, s1.ctr l.key = some y → y.asid = s.me.asidN →
            gives (.scarm x) 2 (fun t => t.ctr l.key = some y))) ∧
        (∀ y, s1.ctr l.key = some y → y.asid = s.me.asidN →
          (s.me.answer = none → b ≠ 0 →
            (∀ a g, allowOf s1 cl l.key = some (a, g) → b.toNat ≤ a → y.parked = [] →
              gives (.sctake x) b (fun t => allowOf t cl l.key = some (a - b.toNat, g)) ∧
              gives (.sctakep x) b (fun t => allowOf t cl l.key = some (a - b.toNat, g))) ∧
            (allowOf s1 cl l.key = none → s1 = s → asks (.sctake x) 0 b.toNat ∧ asks (.sctakep x) 1 b.toNat)) ∧
          (s.me.answer = none → b.toNat < 2 ^ 63 → s1 = s → asks (.scset x) 4 b.toNat) ∧
          (∀ a, s.me.answer = some a → a.reason = 0 → b ≠ 0 → b.toNat < 2 ^ 63 →
            gives (.sctake x) a.value (fun t => t.me.answer = none) ∧
            gives (.sctakep x) a.value (fun t => t.me.answer = none) ∧
            gives (.scset x) a.value (fun t => t.me.answer = none)))) ∧
      (Ready s [x.a, x.d] → x.b = 0 → ∀ y, s1.ctr l.key = some y → y.asid = s.me.asidN →
        (s.me.answer = none → s1 = s → asks (.scread x) 3 0) ∧
        (∀ a, s.me.answer = some a → a.reason = 0 → gives (.scread x) a.value (fun t => t.me.answer = none))) ∧
      (Ready s [x.a, x.b] → x.d = 0 → ∀ y, s1.ctr l.key = some y → y.asid = s.me.asidN →
        let given (P : State → Prop) : Prop := ∃ t, exec (.scgive x) s = .next t ∧ t.me.regs = s.me.regs.skip 4 ∧
          t.me.chunk = .empty ∧ t.mem = s1.mem ∧ P t
        (s.me.answer = none →
          (∀ a g, allowOf s1 cl l.key = some (a, g) → a + b.toNat ≤ g → y.parked = [] →
            given (fun t => allowOf t cl l.key = some (a + b.toNat, g) ∧ t.ctr l.key = some y)) ∧
          (s1 = s → (∀ a g, allowOf s1 cl l.key = some (a, g) → g < a + b.toNat ∨ y.parked ≠ []) →
            asks (.scgive x) 2 b.toNat)) ∧
        (∀ a, s.me.answer = some a → a.reason = 0 → given (fun t => t.me.answer = none)))) ∧
    (resolveFor s s.cur va wantWrite = (s1, .ok l) → Ready s [x.a, x.d] → x.b = 0 →
      ∀ y, s1.ctr l.key = some y → y.asid = s.me.asidN →
      (s.me.answer = none → s1 = s → asks (.scdsrm x) 5 0) ∧
      (∀ a, s.me.answer = some a → a.reason = 0 → gives (.scdsrm x) a.value (fun t => t.me.answer = none)))

/-! ### Queues and bindings -/

/-- R234, R235: QBIND binds a window register to the queue of its handle, whose table entry stands in a window, is of a kind
that the register takes, and, for a data queue, belongs to a resident queue: with s[b] as its option, and new state for a
handle that no port holds. QFREE clears the binding of its register and leaves every other. Both wait instead while queued
vector work still pushes or pops through the binding that goes. QSTAT gives zero for a register that is not bound, bit 63
set for one that is, and for a scalar queue the capacity eight and the entries present. -/
def Obligations.BindingsAreMadeFreedAndRead : Prop :=
  (∀ (x : QF) (s : State) (e : QEnt),
    let handle := (s.me.regs.get x.a).toNat % 2 ^ 32
    NoChunk s → reasonQbind x = none → ReadyFull s [x.a, x.b] →
    HandleStands s s.cur s.me.asidN s.me.sys.qtbase handle e → kindAllowed x.sc e.kind = true → (e.kind ≠ 4 → x.b = 31) →
    (windowBusy s.me (windowNo x.sc x.d) = true →
      exec (.qbind x) s = .next (s.onMe (fun y => { y with wait := .drain }))) ∧
    (windowBusy s.me (windowNo x.sc x.d) = false → (∃ p < 32, s.me.port p = none) →
      (e.kind = 1 → residentQ s (queueKey s.me.asidN handle) = true) →
      ∃ t p q, exec (.qbind x) s = .next t ∧ t.me.regs = s.me.regs.skip 4 ∧ t.mem = s.mem ∧ t.me.chunk = .empty ∧
        windowPort t.me (windowNo x.sc x.d) = some p ∧ t.me.port p = some q ∧
        q.handle = handle ∧ q.opt = s.me.regs.get x.b ∧ q.stale = false ∧
        ((∀ j, (∀ y, s.me.port j = some y → y.handle ≠ handle)) → q.kind = e.kind ∧ q.low = none ∧ q.half = none))) ∧
  (∀ (x : QF) (s : State), NoChunk s → reasonQfree x = none → ReadyFull s [] →
    (windowBusy s.me (windowNo x.sc x.a) = true →
      exec (.qfree x) s = .next (s.onMe (fun y => { y with wait := .drain }))) ∧
    (windowBusy s.me (windowNo x.sc x.a) = false →
      ∃ t, exec (.qfree x) s = .next t ∧ t.me.regs = s.me.regs.skip 4 ∧ t.mem = s.mem ∧ t.me.chunk = .empty ∧
        windowPort t.me (windowNo x.sc x.a) = none ∧
        ∀ w < 10, w ≠ windowNo x.sc x.a → windowPort t.me w = windowPort s.me w)) ∧
  (∀ (x : QF) (s : State), reasonQstat x = none → ReadyFull s [x.d] →
    (windowPort s.me (windowNo x.sc x.a) = none →
      ∃ t, exec (.qstat x) s = .next t ∧ t.me.regs = (s.me.regs.set x.d 0).skip 4) ∧
    (∀ p q, windowPort s.me (windowNo x.sc x.a) = some p → s.me.port p = some q →
      ∃ t v, exec (.qstat x) s = .next t ∧ t.me.regs = (s.me.regs.set x.d v).skip 4 ∧ v.getLsbD 63 = true) ∧
    (∀ p q, windowPort s.me (windowNo x.sc x.a) = some p → s.me.port p = some q → q.kind = 2 → q.low = none →
      s.me.chunk.deferred = [] →
      let entries := (rd ScalarQ.empty (s.core (coreOf s.cur)).sq q.base).elems.length
      entries < 65536 →
      ∃ t, exec (.qstat x) s = .next t ∧
        t.me.regs = (s.me.regs.set x.d (BitVec.ofNat 64 (2 ^ 63 + 8 * 65536 + entries))).skip 4))

/-- R235, R231: a push to a bound scalar queue reserves one of its eight places at issue and promises the value; QPUSHN says in
p[d] whether there was one, and an instruction that writes the register waits until there is one. A pop takes the oldest
entry; QPOPN says in p[b] whether there was one, and an instruction that reads the register waits until there is
one. -/
def Obligations.BoundRegistersPushAndPop : Prop :=
  ∀ (s : State) (r : Reg) (p : Nat) (q : Port), boundPort s.me r = some p → s.me.port p = some q → q.stale = false →
    q.kind = 2 →
    let c := coreOf s.cur
    let sq := rd ScalarQ.empty (s.core c).sq q.base
    let popped (rest : List Word) (t : State) : Prop :=
      rd ScalarQ.empty (t.core c).sq q.base = { sq with elems := rest }
    let pushed (v : Word) (t : State) : Prop :=
      rd ScalarQ.empty (t.core c).sq q.base = { sq with resv := sq.resv + 1 } ∧
      t.me.chunk.deferred = s.me.chunk.deferred ++ [.release (.push (.scalarQ c q.base q.handle) v)]
    (∀ x : QF, reasonQpushn x = none → x.a = r →
      (ReadyFull s [x.b] →
        (sq.elems.length + sq.resv < 8 → ∃ t, exec (.qpushn x) s = .next t ∧ pushed (s.me.regs.get x.b) t ∧
          t.me.regs = (s.me.regs.setP x.d true).skip 4) ∧
        (8 ≤ sq.elems.length + sq.resv →
          exec (.qpushn x) s = .next (retires s (fun y => (y.setP x.d false).skip 4)))) ∧
      (ReadyFull s [x.d] → NoChunk s →
        (∀ v rest, sq.elems = v :: rest → ∃ t, exec (.qpopn x) s = .next t ∧ popped rest t ∧
          t.me.regs = ((s.me.regs.set x.d v).setP x.b true).skip 4) ∧
        (sq.elems = [] → ∃ t, exec (.qpopn x) s = .next t ∧ t.core c = s.core c ∧
          t.me.regs = (s.me.regs.setP x.b false).skip 4))) ∧
    (∀ x : IF, s.me.light = false → r ∉ pendingRegs s.me → r ∉ chunkPending s.me →
      (x.a = r → Ready s [x.d] → NoChunk s →
        (∀ v rest, sq.elems = v :: rest → ∃ t, exec (.addi x) s = .next t ∧ popped rest t ∧
          t.me.regs = (s.me.regs.set x.d (v + x.imm.signExtend 64)).skip 4) ∧
        (sq.elems = [] → exec (.addi x) s = .next (s.onMe (fun y => { y with wait := .pop p })))) ∧
      (x.d = r → Ready s [x.a] →
        (sq.elems.length + sq.resv < 8 → ∃ t, exec (.addi x) s = .next t ∧
          pushed (s.me.regs.get x.a + x.imm.signExtend 64) t ∧
          t.me.regs = { s.me.regs with cdst := r, pc := s.me.regs.pc + 4 }) ∧
        (8 ≤ sq.elems.length + sq.resv → NoChunk s →
          exec (.addi x) s = .next (s.onMe (fun y => { y with wait := .capacity 1 q.base })))))

/-! ### Tasks -/

/-- R239 to R241: an enqueue whose descriptor, or job card, lies in a window of the process and is good, and whose handle
names a resident task queue, with a unit of its capacity in the cluster's allowance, promises the task, and s[d] becomes 1 unless
d is zr. A spawn reserves a place of its core's run queue and promises the thread, with s[d] the same; without a free place s[d]
becomes 0. -/
def Claim.EnqueuesPromiseTheirTask : Prop :=
  (∀ (x : QF) (s : State) (raw : Nat) (e : QEnt) (q : QueueSt) (c : Ctr) (a g : Nat),
    let va := s.me.regs.get x.a
    let handle := (s.me.regs.get x.b).toNat % 2 ^ 32
    let promised (i : Instr) (d : BitVec 512) (tiles : List (Word × Nat × Nat)) : Prop :=
      ∃ t, exec i s = .next t ∧ t.me.regs = (if x.d = 31 then s.me.regs else s.me.regs.set x.d 1).skip 4 ∧
        t.me.chunk.deferred = s.me.chunk.deferred ++ [.release (.task (queueKey s.me.asidN handle) d q.ctr tiles)]
    x.sc = 0 → Ready s [x.a, x.b, x.d] → s.me.answer = none → s.me.chunk.stores = [] → acquireQueued s.me = false →
    s.poison = [] → HandleStands s s.cur s.me.asidN s.me.sys.qtbase handle e → e.kind ≤ 1 →
    s.queue (queueKey s.me.asidN handle) = some q → q.resident = true → q.kind = 0 →
    s.ctr q.ctr = some c → c.asid = s.me.asidN → c.parked = [] →
    allowOf s (clusterOf s.cur) q.ctr = some (a, g) → 1 ≤ a →
    (va.toNat % 64 = 0 → OwnBytes s s.cur s.me.asidN va 64 raw → descOk (BitVec.ofNat 512 raw) = true →
      promised (.tqenq x) (BitVec.ofNat 512 raw) []) ∧
    (va.toNat % 128 = 0 → OwnBytes s s.cur s.me.asidN va 128 raw →
      let d := dSet (dSet (BitVec.ofNat 512 raw) 229 229 0) 511 448 0
      ∀ tiles, cardTiles (raw / 2 ^ 512) = some tiles → descOk d = true → dLaunch d = false → dGlevel d ≤ 1 →
        promised (.jcenq x) (dSet (dSet d 229 229 1) 511 448 (va + 64).toNat) tiles)) ∧
  (∀ (x : QF) (s : State),
    let c := coreOf s.cur
    let a := s.me.regs.get x.a
    x.sc = 0 → Ready s [x.a, x.b, x.d] →
    ((s.core c).runq.length + (s.core c).runResv < 64 →
      ∃ t, exec (.spawn x) s = .next t ∧ t.me.regs = (if x.d = 31 then s.me.regs else s.me.regs.set x.d 1).skip 4 ∧
        t.core c = { s.core c with runResv := (s.core c).runResv + 1 } ∧
        t.me.chunk.deferred = s.me.chunk.deferred ++
          [.release (.spawn c (a &&& ~~~1) (s.me.regs.get x.b) (a.getLsbD 0))]) ∧
    (64 ≤ (s.core c).runq.length + (s.core c).runResv → x.d ≠ 31 →
      exec (.spawn x) s = .next (retires s (fun y => (y.set x.d 0).skip 4))))

/-- R242, R243: MIGR leaves the rotation for its target, whose run queue the thread joins with its pc behind MIGR when the
target takes it; YIELD goes on, or takes the pending pre-emption as ecause 0x03 with epc behind itself; EXIT leaves the
rotation for good, and its slot is free once the vector unit has finished; SLEEP leaves it until its time or an event
comes, and with an event pending gives 1 at once.
The model's choices in it: log 19 and 149. -/
def Claim.ThreadsMigrateYieldExitAndSleep : Prop :=
  ∀ (x : QF) (s : State), NoChunk s → x.sc = 0 → x.b = 0 →
    (x.d = 0 → Ready s [x.a] → s.me.light = true → migrTarget s s.cur (s.me.regs.get x.a).toNat = true →
      let n := (s.me.regs.get x.a).toNat
      let t := s.onMe (fun y => { y with wait := .migrate n s.cycle false })
      exec (.migr x) s = .next t ∧
        (takesPacket s n = true → storesQueued s s.cur = false → ∃ u p, exec (.migrationArrival s.cur) t = .next u ∧
          u.mem = s.mem ∧ u.slot s.cur = .empty ∧ (u.core n).runq = (s.core n).runq ++ [p] ∧ p.pc = s.me.regs.pc + 4 ∧
          p.origin = s.cur ∧ p.regs = (List.range 10).map (rd 0 s.me.regs.s) ∧ p.p = s.me.regs.p)) ∧
    (x.a = 0 → x.d = 0 → RunsThread s →
      (s.me.preempt = none ∨ s.me.ie = false →
        ∃ t, exec (.yield x) s = .next t ∧ t.mem = s.mem ∧ t.me.regs = s.me.regs.skip 4 ∧ t.me.wait = s.me.wait) ∧
      (∀ i, s.me.preempt = some i → s.me.ie = true →
        ∃ t, exec (.yield x) s = .next t ∧ TrapTaken s t s.cur 3 0 (word i) (s.me.regs.pc + 4) ∧ t.me.preempt = none) ∧
      (∃ t, exec (.exit x) s = .next t ∧ t.mem = s.mem ∧ t.me.regs = s.me.regs ∧ t.me.wait = .exited ∧
        t.me.sys.lease = 0 ∧ (s.me.vq = [] → s.me.arrivals = [] →
          ∃ u, exec (.vectorUnitDispatch s.cur) t = .next u ∧ u.slot s.cur = .empty))) ∧
    (Ready s [x.a, x.d] →
      (sleepEvent s s.cur = true →
        ∃ t, exec (.sleep x) s = .next t ∧ t.mem = s.mem ∧ t.me.regs = (s.me.regs.set x.d 1).skip 4) ∧
      (sleepEvent s s.cur = false →
        let n := (s.me.regs.get x.a).toNat
        exec (.sleep x) s =
          .next (s.onMe (fun y => { y with wait := .sleep (if n = 0 then none else some (s.cycle + n)) x.d }))))

/-- The task instructions promise the task that they enqueue; migration, yield, exit and sleep leave the slot as their
rules say. Each part above says which rules. -/
def Obligations.TasksAreEnqueuedAndThreadsMove : Prop :=
  Claim.EnqueuesPromiseTheirTask ∧ Claim.ThreadsMigrateYieldExitAndSleep

/-! ### Exceptions and system registers -/

/-- R253, R254, R71: TRAP enters the handler with ecause 0x01, the code in einfo and epc behind itself; BRK with 0x02 and epc
at itself. The saved registers, status and pc are as the entry says, the undispatched vector instructions become the held
frame, and memory stays. -/
def Claim.TrapAndBreakEnterHandler : Prop :=
  ∀ (x : XF) (s : State), NoChunk s → x.a = 0 → x.d = 0 → RunsThread s →
    (∃ t, exec (.trap x) s = .next t ∧ TrapTaken s t s.cur 1 0 (x.imm.setWidth 64) (s.me.regs.pc + 4) ∧ t.mem = s.mem) ∧
    (∃ t, exec (.brk x) s = .next t ∧ TrapTaken s t s.cur 2 0 (x.imm.setWidth 64) s.me.regs.pc ∧ t.mem = s.mem)

/-- R255, R256: ERET of a supervisor returns to an even epc, gives spv and ie the values of pspv and pie and leaves the other
bits of status, and the held frame goes back to the head of the vector instruction queue; HALT leaves the rotation
unless an interrupt or a pre-emption is pending. -/
def Claim.ReturnAndHalt : Prop :=
  ∀ (x : XF) (s : State), NoChunk s → x.imm = 0 → x.a = 0 → x.d = 0 → RunsThread s → s.me.spv = true →
    (s.me.sys.epc.getLsbD 0 = false →
      ∃ t, exec (.eret x) s = .next t ∧ t.mem = s.mem ∧ t.me.regs = { s.me.regs with pc := s.me.sys.epc } ∧
        t.me.vq = s.me.held ++ s.me.vq ∧ t.me.held = [] ∧
        (∀ i < 64, t.me.sys.status.getLsbD i =
          s.me.sys.status.getLsbD (if i = 0 then 1 else if i = 2 then 3 else i)) ∧
        t.me.sys.epc = s.me.sys.epc ∧ t.me.sys.ecause = s.me.sys.ecause ∧ t.me.sys.instret = s.me.sys.instret + 1) ∧
    (∃ t, exec (.halt x) s = .next t ∧ t.mem = s.mem ∧ t.me.regs = s.me.regs.skip 4 ∧
      t.me.wait = (if s.me.irq = true ∨ s.me.preempt.isSome = true then s.me.wait else .halt))

/-- TRAP and BRK enter the handler with the saved registers written; ERET undoes an entry and HALT stops the thread.
Each part above says which rules. -/
def Obligations.TrapsReturnsAndHalts : Prop :=
  Claim.TrapAndBreakEnterHandler ∧ Claim.ReturnAndHalt


/-- R257, R69, R70: SYSRD gives the value of a system register and SYSWR writes it, SYSSET and SYSCLR return the old value and
write old OR s[a] and old AND NOT s[a]; the fields that software cannot write keep their values; a refused value
enters the handler with ecause 0x12 reason 5, and an access that the mode does not have with 0x11 reason 2. -/
def Obligations.SystemRegistersAreReadAndWritten : Prop :=
  ∀ (x : XF) (s : State), NoChunk s → s.me.vq = [] → s.me.held = [] →
    let n := x.imm.toNat
    let y := s.me.sys
    let v := s.me.vec
    let c := s.core (coreOf s.cur)
    let reads : List (Nat × Word) :=
      [(0x000, y.status), (0x001, y.svec), (0x002, y.epc), (0x003, y.ecause), (0x004, y.eaddr), (0x005, y.einfo),
        (0x010, v.vl), (0x011, v.vtype), (0x012, v.vstart), (0x013, word (256 * liveOf c + actOf s (coreOf s.cur))),
        (0x014, word (256 * c.mown + 16 * v.ctx + v.split)), (0x015, v.vstate),
        (0x016, word (16 * v.smax + 4 * v.smin + v.segs.length)), (0x017, c.lanemap.setWidth 64),
        (0x018, v.tm), (0x019, v.tn), (0x01A, v.tk), (0x01B, v.tmode),
        (0x01C, s.me.regs.cdst.setWidth 64), (0x01D, s.me.regs.cvdst.setWidth 64), (0x020, y.qmap), (0x021, y.pairp),
        (0x030, y.pwreq), (0x031, y.lease), (0x032, y.pwbud), (0x040, y.qtbase), (0x041, y.ptbase), (0x042, y.asid),
        (0x043, hmodeAt s (clusterOf s.cur)), (0x080, word (s.cycle - c.ready)), (0x081, y.instret)] ++
      (List.range 16).map (fun i => (0x090 + i, rd 0 y.evc i)) ++ (List.range 16).map (fun i => (0x0A0 + i, rd 0 y.evsel i))
    let writes (w : Word) : List (Nat × Bool × Word) :=
      [(0x000, true, (y.status &&& ~~~0x2E) ||| (w &&& 0x2E)), (0x001, !w.getLsbD 0, w), (0x002, true, w),
        (0x003, true, w &&& 0xFF), (0x004, true, w), (0x005, true, w), (0x012, true, w),
        (0x015, decide (w.toNat % 4 ≠ 3 ∧ w.toNat / 4 % 4 ≠ 3 ∧ w.toNat / 16 % 4 ≠ 3), w &&& 0x3F),
        (0x018, decide (w.toNat ≤ 128), w), (0x019, decide (w.toNat ≤ 128), w), (0x01A, decide (w.toNat ≤ 256), w),
        (0x01C, true, w &&& 0x1F), (0x01D, true, w &&& 0x1F), (0x021, true, w &&& 0x7FFF), (0x030, true, w &&& 0x1FF),
        (0x032, decide (5 ≤ w.toNat / 2 ^ 24 % 8 ∧ w.toNat % 2 ^ 24 ≤ 10000), w &&& 0x7FFFFFF),
        (0x040, decide (w.toNat % 64 = 0), w), (0x041, true, w &&& 0xFFFFFFFFFF000), (0x042, true, w &&& 0xFFFF),
        (0x043, true, w &&& 0x7F), (0x013, true, sysGet s s.cur 0x013), (0x016, true, sysGet s s.cur 0x016),
        (0x017, true, sysGet s s.cur 0x017), (0x080, true, sysGet s s.cur 0x080)]
    let refused (i : Instr) (code reason : Nat) : Prop :=
      ∃ t, exec i s = .next t ∧ TrapTaken s t s.cur code s.me.regs.pc (word reason) s.me.regs.pc
    let written (i : Instr) (w : Word) (r : Regs) : Prop :=
      ∀ e ∈ writes w, n = e.1 →
        (e.2.1 = true → ∃ t, exec i s = .next t ∧ sysGet t s.cur n = e.2.2 ∧ t.mem = s.mem ∧ t.me.chunk = .empty ∧
          t.me.regs.pc = s.me.regs.pc + 4 ∧ t.me.regs.p = s.me.regs.p ∧ ∀ q, t.me.regs.get q = r.get q) ∧
        (e.2.1 = false → refused i 0x12 5)
    (s.me.spv = true →
      (x.a = 0 → ReadyFull s [x.d] → ∀ e ∈ reads, n = e.1 →
        ∃ t, exec (.sysrd x) s = .next t ∧ t.me.regs = (s.me.regs.set x.d e.2).skip 4 ∧ t.mem = s.mem ∧
          t.me.chunk = .empty) ∧
      (x.d = 0 → ReadyFull s [x.a] → written (.syswr x) (s.me.regs.get x.a) s.me.regs) ∧
      (ReadyFull s [x.a, x.d] → ∀ e ∈ reads, n = e.1 →
        written (.sysset x) (e.2 ||| s.me.regs.get x.a) (s.me.regs.set x.d e.2) ∧
        written (.sysclr x) (e.2 &&& ~~~(s.me.regs.get x.a)) (s.me.regs.set x.d e.2))) ∧
    (s.me.spv = false → ReadyFull s [x.a, x.d] → ∀ e ∈ reads, n = e.1 →
      (n ∈ [1, 2, 3, 4, 5, 0x032, 0x041, 0x043] → refused (.sysrd x) 0x11 2) ∧
      (n ≠ 0x030 → refused (.syswr x) 0x11 2 ∧ refused (.sysset x) 0x11 2 ∧ refused (.sysclr x) 0x11 2))

/-! ### Fences, cache maintenance, save and restore -/

/-- R261 to R266: FENCE and FSMP complete once no vector access that they order is queued and otherwise wait, FSMP leaving no
sampler copy in its scope; CHUNK only moves the pc; ICINV with s[b] = 0 leaves no instruction line in its scope. DCWB and
DCINV of at most 2^32 bytes outside the windows write the dirty bytes of the cluster's untracked copies back to the home,
at system scope to memory, and DCINV, on pages that allow it, drops the copies; every other byte stays. The prefetches
change no register, and of memory only the accessed bit of the entry that they use (R274).
The model's choices in it: log 28. -/
def Obligations.FencesAndCacheOperationsComplete : Prop :=
  (∀ (x : QF) (s : State), NoChunk s → RunsThread s →
    let alone (t : State) : Prop := t.me.regs = s.me.regs.skip 4 ∧ t.mem = s.mem ∧ t.me.chunk = .empty ∧
      t.me.sys.instret = s.me.sys.instret + 1
    (reasonFence x = none →
      (x.d.getLsbD 1 = false ∨ accessQueued s s.cur = false → ∃ t, exec (.fence x) s = .next t ∧ alone t) ∧
      (x.d.getLsbD 1 = true → accessQueued s s.cur = true →
        exec (.fence x) s = .next (s.onMe (fun y => { y with wait := .drain })))) ∧
    (x.a = 0 → x.b = 0 → x.d = 0 → x.sc.toNat = 1 ∨ x.sc.toNat = 2 → accessQueued s s.cur = false →
      ∃ t, exec (.fsmp x) s = .next t ∧ alone t ∧
        ∀ c ∈ s.cores, inScope s.cur x.sc.toNat c.1 = true → (t.core c.1).sampler = []) ∧
    (x.a = 0 → x.b = 0 → x.d = 0 → x.sc = 0 → ∃ t, exec (.chunk x) s = .next t ∧ alone t) ∧
    (x.d = 0 → Ready s [x.a, x.b] → (s.me.regs.get x.b) = 0 →
      (1 ≤ x.sc.toNat → x.sc.toNat ≤ 4 → ∃ t, exec (.icinv x) s = .next t ∧ alone t ∧
        ∀ c ∈ s.cores, inScope s.cur x.sc.toNat c.1 = true → (t.core c.1).icache = []))) ∧
  (∀ (x : QF) (s : State), NoChunk s → x.d = 0 → 2 ≤ x.sc.toNat → x.sc.toNat ≤ 5 → Ready s [x.a, x.b] →
    let va := s.me.regs.get x.a
    let n := (s.me.regs.get x.b).toNat
    let cl := clusterOf s.cur
    let secs := untrackedSectors s va n
    let copy (t : State) (sec : Nat) : Option USector := findSector (t.cluster cl).l1u sec
    let fresh (sec i : Nat) (other : Byte) : Byte := match copy s sec with
      | some u => if u.dirty.getLsbD i then u.bytes.getD i 0 else other
      | none => other
    let kept (sec i : Nat) : Byte := match findSector (s.die (homeOf (sec * 64))).dcu sec with
      | some u => if u.dirty.getLsbD i then u.bytes.getD i 0 else byteAt s (sec * 64 + i)
      | none => byteAt s (sec * 64 + i)
    let done (i : Instr) (P : State → Prop) : Prop := ∃ t, exec i s = .next t ∧ t.me.regs = s.me.regs.skip 4 ∧
      t.me.chunk = .empty ∧ t.me.sys.instret = s.me.sys.instret + 1 ∧
      (x.sc.toNat ≠ 5 → t.mem = s.mem ∧ ∀ sec ∈ secs, ∀ i < 64,
        homeByte t (sec * 64 + i) = fresh sec i (homeByte s (sec * 64 + i))) ∧
      (x.sc.toNat = 5 → (∀ sec ∈ secs, ∀ i < 64, byteAt t (sec * 64 + i) = fresh sec i (kept sec i)) ∧
        ∀ a, a / 64 ∉ secs → byteAt t a = byteAt s a) ∧ P t
    n ≤ 2 ^ 32 → meetsWindow va n = false →
    done (.dcwb x) (fun t => ∀ sec ∈ secs, ∀ u, copy t sec = some u → u.dirty = 0) ∧
    ((∀ p ∈ rangePages va n, dcinvFault s p = none) → done (.dcinv x) (fun t => ∀ sec ∈ secs, copy t sec = none))) ∧
  (∀ (x : QF) (s : State), x.sc = 0 → x.b = 0 → x.d = 0 → Ready s [x.a] →
    let va := s.me.regs.get x.a
    let prefetched (i : Instr) (w : Want) : Prop := ∃ t, exec i s = .next t ∧ t.me.regs = s.me.regs.skip 4 ∧
      t.me.chunk.count = s.me.chunk.count + 1 ∧ t.me.chunk.rset = s.me.chunk.rset ∧
      (t.mem = s.mem ∨ ∃ l, prefetchLeaf s va w = some l ∧ bit l.pte 7 = false ∧
        t.mem = wrMany unlistedByte s.mem l.pteA (toLe 8 (l.pte ||| 0x80)))
    prefetched (.ipf x) wantFetch ∧ prefetched (.dpf x) wantRead)

/-- R258 to R260: the saves write their image to s[a] and the restores load what they read: VSAVE the vector and mask registers
of every segment, ASAVE the matrix state of the core, FRSAVE the held frame and the thread's faulted reductions, which it
takes from the thread; VRSTR leaves the vec field clean and ARSTR acc and cim; FRLOAD of what FRSAVE wrote installs both again. In windows that the process owns, with
no protected chunk in the cluster, every one of them completes.
The model's choices in it: log 29, 31, 45 and 155. -/
def Obligations.SavesAndRestoresMoveState : Prop :=
  ∀ (x : XF) (s : State), NoChunk s → x.imm = 0 → x.d = 0 → ReadyFull s [x.a] → s.me.spv = true →
    let va := s.me.regs.get x.a
    let c := coreOf s.cur
    va.toNat % 256 = 0 → s.me.pairSince = none →
    let saved (i : Instr) (image : List Byte) (P : State → State → Prop) : Prop :=
      saveHeld s (cutPages va image) = false → ∀ s1, savePieces s (cutPages va image) = (s1, none) →
        ∃ t, exec i s = .next t ∧ t.mem = s1.mem ∧ t.me.regs.pc = s1.me.regs.pc + 4 ∧
          (∀ r, t.me.regs.get r = s1.me.regs.get r) ∧ P s1 t
    let restored (i : Instr) (n : Nat) (P : List Byte → State → Prop) : Prop :=
      ∀ bs s1, readPieces s s.cur (pagePieces va (n + 1) n) [] = (s1, .inl bs) →
        ∃ t, exec i s = .next t ∧ t.mem = s1.mem ∧ t.me.regs.pc = s1.me.regs.pc + 4 ∧
          (∀ r, t.me.regs.get r = s1.me.regs.get r) ∧ P bs t
    saved (.vsave x) (vecImage s.me.vec) (fun s1 t => t.me.vec = s1.me.vec ∧ t.core c = s1.core c) ∧
    ((s.core c).fenced = 0xFFFFFFFF → (∀ j ∈ s.me.vec.segs, (s.core (coreOf j)).fenced = 0xFFFFFFFF) →
      restored (.vrstr x) (vecImageLen s.me.vec) (fun bs t =>
        t.me.vec.vecField = 1 ∧ (∀ i < 32, ∀ g < s.me.vec.segCount, ∀ B, B = s.me.vec.vlen / 8 →
          rd 0 t.me.vec.v (32 * g + i) = ofLe ((bs.drop ((32 * g + i) * B)).take B)))) ∧
    (corePass s c = false →
      saved (.asave x) (matImage (s.core c)) (fun s1 t => (t.core c).acc = (s1.core c).acc ∧
        (t.core c).blk = (s1.core c).blk ∧ (t.core c).sB = (s1.core c).sB) ∧
      restored (.arstr x) 81928 (fun bs t =>
        t.me.vec.accField = 1 ∧ t.me.vec.cimField = 1 ∧
        (∀ i < 16384, rd 0 (t.core c).acc i = BitVec.ofNat 32 (ofLe ((bs.drop (4 * i)).take 4))) ∧
        (t.core c).sB = BitVec.ofNat 32 (ofLe ((bs.drop 81920).take 4)))) ∧
    let faulted := s.reds.filter (redHeld s.me)
    let n := s.me.held.length + faulted.length
    saved (.frsave x) (frameBytes n s.frames.length) (fun s1 t => t.me.held = [] ∧
      (n ≠ 0 → t.reds = s1.reds.filter (fun r => !redHeld s1.me r) ∧
        rd none t.frames s.frames.length = some ⟨s1.me.vec.split, s1.me.vec.segCount, s.me.held, faulted⟩)) ∧
    (n = 0 → ∀ (f : SavedFrame) (no : Nat) (s1 : State),
      let m := f.entries.length + f.reds.length
      no < 2 ^ 64 → 0 < m → m ≤ 126 →
      readPieces s s.cur (pagePieces va 9 8) [] = (s1, .inl ((frameBytes m no).take 8)) →
      s1.me.held = [] → (∀ r ∈ s1.reds, redHeld s1.me r = false) →
      ∀ s2, readPieces s1 s1.cur (pagePieces va (frameLen m + 1) (frameLen m)) [] = (s2, .inl (frameBytes m no)) →
      rd none s2.frames no = some f → f.split = s2.me.vec.split → f.segs = s2.me.vec.segCount →
      ∃ t, exec (.frload x) s = .next t ∧ t.mem = s2.mem ∧ t.me.held = f.entries ∧
        t.reds = s2.reds ++ f.reds.map (Red.adopt s2.me s2.cur) ∧ t.me.regs.pc = s2.me.regs.pc + 4) ∧
    (∀ o : Nat,
      let key := winKey (clusterOf s.cur) o
      let inWindow (n : Nat) : Prop := (∀ e ∈ s.slots, e.2.chunk.prot = false) ∧ ∀ j < n,
        let a := va + BitVec.ofNat 64 j
        inWindowRegion a = true ∧ windowOff s.cur a = some (o + j) ∧
          (s.core (windowCore (clusterOf s.cur) (o + j))).owner = some s.me.asidN
      let goesOn (i : Instr) (mem : Store Byte) (P : State → Prop) : Prop := ∃ t, exec i s = .next t ∧ t.mem = mem ∧
        t.me.regs.pc = s.me.regs.pc + 4 ∧ (∀ r, t.me.regs.get r = s.me.regs.get r) ∧ P t
      let saves (i : Instr) (image : List Byte) (P : State → Prop) : Prop := inWindow image.length →
        goesOn i (wrMany unlistedByte s.mem key image) P
      let restores (i : Instr) (n : Nat) (P : List Byte → State → Prop) : Prop := inWindow n →
        goesOn i s.mem (P (rdMany unlistedByte s.mem key n))
      saves (.vsave x) (vecImage s.me.vec) (fun t => t.me.vec = s.me.vec) ∧
      ((s.core c).fenced = 0xFFFFFFFF → (∀ j ∈ s.me.vec.segs, (s.core (coreOf j)).fenced = 0xFFFFFFFF) →
        restores (.vrstr x) (vecImageLen s.me.vec) (fun bs t => t.me.vec.vecField = 1 ∧
          ∀ i < 32, ∀ g < s.me.vec.segCount, rd 0 t.me.vec.v (32 * g + i) =
            ofLe ((bs.drop ((32 * g + i) * (s.me.vec.vlen / 8))).take (s.me.vec.vlen / 8)))) ∧
      (corePass s c = false →
        saves (.asave x) (matImage (s.core c)) (fun t => (t.core c).acc = (s.core c).acc ∧
          (t.core c).blk = (s.core c).blk ∧ (t.core c).sB = (s.core c).sB) ∧
        restores (.arstr x) 81928 (fun bs t => t.me.vec.accField = 1 ∧ t.me.vec.cimField = 1 ∧
          ∀ i < 16384, rd 0 (t.core c).acc i = BitVec.ofNat 32 (ofLe ((bs.drop (4 * i)).take 4)))) ∧
      saves (.frsave x) (frameBytes n s.frames.length) (fun t => t.me.held = [] ∧
        (n ≠ 0 → rd none t.frames s.frames.length = some ⟨s.me.vec.split, s.me.vec.segCount, s.me.held, faulted⟩)) ∧
      (n = 0 → ∀ (f : SavedFrame) (no : Nat),
        let m := f.entries.length + f.reds.length
        no < 2 ^ 64 → 0 < m → rd none s.frames no = some f →
        f.split = s.me.vec.split → f.segs = s.me.vec.segCount →
        rdMany unlistedByte s.mem key (frameLen m) = frameBytes m no →
        restores (.frload x) (frameLen m) (fun _ t => t.me.held = f.entries ∧
          t.reds = s.reds ++ f.reds.map (Red.adopt s.me s.cur))))

/-! ### Scalar floating point -/

/-- R146, with the exact arithmetic and the one rounding of the model's Float: the FP32 operations on the low halves of their
operands write the rounded exact result zero-extended; the compares write p[d]; the conversions use the rounding and
the type of their b field.
The model's choices in it: log 129. -/
def Obligations.ScalarFloatingPointRoundsOnce : Prop :=
  ∀ (x : TF) (s : State),
    let a := fp32 (s.me.regs.get x.a)
    let b := fp32 (s.me.regs.get x.b)
    let c := fp32 (s.me.regs.get x.d)
    let done (n : Nat) := Host.Outcome.next (retires s (fun r => (r.set x.d (BitVec.ofNat 64 n)).skip 4))
    let holds (v : Bool) := Host.Outcome.next (retires s (fun r => (r.setP x.d v).skip 4))
    let round (v : FVal) : Nat := writeF .default 0 v
    (Ready s [x.a, x.b, x.d] →
      exec (.fadd x) s = done (round (addV 0 a b)) ∧
      exec (.fsub x) s = done (round (addV 0 a (negV b))) ∧
      exec (.fmul x) s = done (round (mulV a b)) ∧
      exec (.fma x) s = done (round (addV 0 (mulV a b) c)) ∧
      exec (.fdiv x) s = done (divF .default 0 a b)) ∧
    (Ready s [x.a, x.d] → x.b = 0 → exec (.fsqrt x) s = done (sqrtF .default 0 a)) ∧
    (Ready s [x.a, x.b] →
      exec (.fcmpeq x) s = holds (eqV a b) ∧ exec (.fcmplt x) s = holds (ltV a b) ∧
      exec (.fcmple x) s = holds (leV a b) ∧ exec (.fcmpun x) s = holds (unorderedV a b)) ∧
    (Ready s [x.a, x.d] → x.b.toNat < 16 →
      let mode : Gov := ⟨x.b.toNat / 4, false, false⟩
      let w := s.me.regs.get x.a
      (∀ v : Int, v = (match x.b.toNat % 4 with
          | 0 => w.toInt
          | 1 => (w.toNat : Int)
          | 2 => (w.setWidth 32).toInt
          | _ => ((w.setWidth 32).toNat : Int)) →
        exec (.fcvtif x) s = done (writeF mode 0 (.num (decide (v < 0)) v.natAbs 0))) ∧
      (∀ lo hi : Int, (lo, hi) = (match x.b.toNat % 4 with
          | 0 => ((-2 ^ 63 : Int), (2 ^ 63 - 1 : Int))
          | 1 => (0, 2 ^ 64 - 1)
          | 2 => (-2 ^ 31, 2 ^ 31 - 1)
          | _ => (0, 2 ^ 32 - 1)) →
        (a = .nan → exec (.fcvtfi x) s = done 0) ∧
        (∀ neg, a = .inf neg →
          exec (.fcvtfi x) s = .next (retires s (fun r => (r.set x.d (BitVec.ofInt 64 (if neg then lo else hi))).skip 4))) ∧
        (∀ neg m e, a = .num neg m e →
          let n : Int := roundAt (x.b.toNat / 4) neg m e 0 false
          exec (.fcvtfi x) s = .next (retires s (fun r =>
            (r.set x.d (BitVec.ofInt 64 (max lo (min hi (if neg then -n else n))))).skip 4)))))

/-- R115, R116: an FP32 result rounded to nearest is a finite value as near to the exact one as any FP32 value, the even
encoding of two that are equally near, while the exact magnitude lies below 2^128 - 2^103; at and above that it is the
infinity of its sign.
The model's choices in it: log 129. -/
def Obligations.Fp32RoundingIsNearestEven : Prop :=
  ∀ (neg : Bool) (m : Nat) (e : Int), m ≠ 0 →
    let r := writeF .default 0 (.num neg m e)
    let l := min e (-149)
    let v := scaledTo neg m e l
    let big := scaledTo false (2 ^ 25 - 1) 103 l
    (v.natAbs < big.natAbs → ∃ m' e', decodeF 0 r = .num neg m' e' ∧ -149 ≤ e' ∧
      ∀ x n mx ex, x < 2 ^ 32 → decodeF 0 x = .num n mx ex →
        (scaledTo neg m' e' l - v).natAbs ≤ (scaledTo n mx ex l - v).natAbs ∧
        ((scaledTo neg m' e' l - v).natAbs = (scaledTo n mx ex l - v).natAbs →
          scaledTo n mx ex l = scaledTo neg m' e' l ∨ r % 2 = 0)) ∧
    (big.natAbs ≤ v.natAbs → decodeF 0 r = .inf neg)

/-! ### The vector unit: issue -/

/-- R44 to R47, R64, R65: a vector, matrix or graphics instruction whose fields are well formed and whose state is in use joins
the open chunk with the values of its scalar sources and of its format register as they are at issue; cdst and cvdst
name what it will write, and the pc moves past it; a TRSLV carries the slot that issues it, whose window holds its barrier
word. A compact form is its 32-bit equivalent on v[cvdst], under f0.
The model's choices in it: log 12. -/
def Obligations.VectorInstructionsEnterChunk : Prop :=
  ∀ (s : State),
    let enters (i j : Instr) (n : Nat) (fmt : Option (BitVec 2)) (srcs dst : List Reg) (cvd : Option Reg) : Prop :=
      ∃ code, decodeWord code = .instr j ∧ exec i s = .next (joinChunk s (promises s
        (.vec ⟨.vector code, s.me.regs.pc, srcs.map s.me.regs.get,
          (match fmt with | some f => s.me.regs.get (BitVec.ofNat 5 (20 + f.toNat)) | none => 0), [], 0, none, dst.map .reg, []⟩)
        (fun r => { r.skip n with cdst := dst.getLast?.getD r.cdst, cvdst := cvd.getD r.cvdst })) 1)
    let joins (i : Instr) (fmt : Option (BitVec 2)) (srcs dst : List Reg) (cvd : Option Reg) (live : Prop) : Prop :=
      fieldReason i = none → live →
      ReadyFull s (srcs ++ fmt.toList.map (fun f => BitVec.ofNat 5 (20 + f.toNat)) ++ dst) → enters i i 4 fmt srcs dst cvd
    let vec : Prop := s.me.vec.vecField ≠ 0
    let acc : Prop := s.me.vec.accField ≠ 0
    let mat : Prop := (s.core (coreOf s.cur)).mown = s.me.vec.ctx ∧ acc ∧ s.me.vec.cimField ≠ 0
    (s.me.spv = false ∨ s.me.held = []) → vecRoom s.me = true →
    (∀ x : VMF,
      (∀ i ∈ [Instr.vld x, .vldg x, .vldff x, .vldseg x, .vldc x], joins i none [x.a] [] (some x.vd) vec) ∧
      (∀ i ∈ [Instr.vlds x, .vldb x], joins i none [x.a, x.b] [] (some x.vd) vec) ∧
      (∀ i ∈ [Instr.vst x, .vstsc x, .vstseg x], joins i none [x.a] [] none vec) ∧
      (∀ i ∈ [Instr.vsts x, .vstb x], joins i none [x.a, x.b] [] none vec)) ∧
    (∀ x : VAF,
      (∀ i ∈ [Instr.vamoadd x, .vamomin x, .vamomax x, .vamoand x, .vamoor x, .vamoxor x, .vamoswp x, .vamocas x],
        joins i none [x.a] [] (some x.vd) vec) ∧
      (∀ i ∈ [Instr.vamoaddNr x, .vamominNr x, .vamomaxNr x, .vamoandNr x, .vamoorNr x, .vamoxorNr x, .vamoswpNr x],
        joins i none [x.a] [] none vec)) ∧
    (∀ x : VF,
      (∀ i ∈ [Instr.vadd x, .vsub x, .vmul x, .vmulh x, .vmulhu x, .vmacc x, .vand x, .vor x, .vxor x, .vsll x, .vsrl x,
          .vsra x, .vmin x, .vmax x, .vminu x, .vmaxu x, .vsadd x, .vssub x, .vnarrow x, .vwiden x, .vidx x, .vmsel x,
          .vperm x, .vcmpr x, .vexpd x, .vmov x, .vkrank x, .vhist x], joins i none [] [] (some x.vd) vec) ∧
      (∀ i ∈ [Instr.vfadd x, .vfsub x, .vfmul x, .vfma x, .vfms x, .vfnma x, .vfmin x, .vfmax x, .vfabs x, .vfneg x,
          .vfdiv x, .vfsqrt x, .vfrcp x, .vfrsq x, .vfexp2 x, .vflog2 x, .vfsin x, .vfcos x, .vfcvt x, .vfcvti x,
          .vfcvtf x, .mmsx x], joins i (some x.f) [] [] (some x.vd) vec) ∧
      (∀ i ∈ [Instr.vcmpeq x, .vcmpne x, .vcmplt x, .vcmple x, .vcmpltu x, .vcmpleu x, .mand x, .mor x, .mxor x, .mnot x],
        joins i none [] [] none vec) ∧
      (∀ i ∈ [Instr.vfcmpeq x, .vfcmplt x, .vfcmple x, .vfcmpun x], joins i (some x.f) [] [] none vec) ∧
      (∀ i ∈ [Instr.mffs x, .mpop x], joins i none [] [x.vd] none vec) ∧
      joins (.mset x) none [x.va] [] none vec ∧
      (∀ i ∈ [Instr.vslup x, .vsldn x, .vxchg x], joins i none [x.vb] [] (some x.vd) vec) ∧
      joins (.vbcst x) none [x.va] [] (some x.vd) vec ∧
      joins (.vmvxs x) none [x.va, x.vb] [] (some x.vd) vec ∧
      (∀ i ∈ [Instr.vmvsx x, .vredsum x, .vredmax x, .vredmin x], joins i none [x.vb] [x.vd] none vec) ∧
      (∀ i ∈ [Instr.vfredo x, .vfredf x, .vfredmax x, .vfredmin x], joins i (some x.f) [x.vb] [x.vd] none vec) ∧
      joins (.tset x) (some x.f) [x.va, x.va + 1, x.va + 2] [x.vd, x.vd + 1, x.vd + 2] none (vec ∧ acc) ∧
      joins (.tldb x) none [x.vb, x.va, x.vd] [] none mat ∧
      (∀ i ∈ [Instr.tmma x, .tmmaf x, .tmmap x, .tmmapf x, .trda x, .tadda x], joins i (some x.f) [x.vd] [] none (vec ∧ mat)) ∧
      joins (.tzacc x) none [x.va, x.vd] [] none mat ∧
      joins (.edge x) none [x.va, x.va + 1, x.va + 2, x.vb] [] none vec ∧
      (∀ i ∈ [Instr.boxt x, .trit x, .texf x, .texq x], joins i none [x.vb] [] (some x.vd) vec) ∧
      joins (.pxcmt x) none [x.vd, x.vb, x.vb + 1] [] none vec ∧
      joins (.tclr x) none [x.vd, x.vb] [] none vec ∧
      (fieldReason (.trslv x) = none → vec → ReadyFull s [x.vd, x.va, x.vb, x.vb + 1] →
        ∃ code, decodeWord code = .instr (.trslv x) ∧ exec (.trslv x) s = .next (joinChunk s (promises s
          (.vec ⟨.vector code, s.me.regs.pc, [x.vd, x.va, x.vb, x.vb + 1].map s.me.regs.get ++ [word s.cur], 0, [], 0, none, [],
            []⟩) (fun r => r.skip 4)) 1))) ∧
    (∀ x : CF, vec →
      let c := s.me.regs.cvdst
      (ReadyFull s [] → x.imm = 0 →
        enters (.cvadd x) (.vadd ⟨0, 0, x.r, c, x.r⟩) 2 none [] [] (some x.r) ∧
        enters (.cvmul x) (.vmul ⟨0, 0, x.r, c, x.r⟩) 2 none [] [] (some x.r)) ∧
      (ReadyFull s [20] →
        (x.imm = 0 → enters (.cvfadd x) (.vfadd ⟨0, 0, x.r, c, x.r⟩) 2 (some 0) [] [] (some x.r)) ∧
        enters (.cvfma x) (.vfma ⟨0, 0, x.imm, c, x.r⟩) 2 (some 0) [] [] (some x.r)))

/-- R94 to R96: REPF whose frame's words are fetched and admissible joins the chunk as one entry that holds them, with the
values of every format and scalar register that they read, and counts as one instruction more than the frame has; at the
lanes the entry performs pass after pass, each with its registers stepped on. -/
def Claim.RepeatFrameIssuesAsOne : Prop :=
  ∀ (x : PF) (s s1 : State) (ws : List (BitVec 32)), x.z = 0 →
    fetchWords s s.cur (s.me.regs.pc + 4) (x.len.toNat + 1) [] = (s1, .got ws) → s1.me.chunk.count = 0 →
    s1.me.single = 0 → vecRoom s1.me = true →
    let step (p : Nat) (w : BitVec 32) : BitVec 32 :=
      let y := fieldsVF w
      wordVF (w.extractLsb' 1 6) (w.extractLsb' 27 5) { y with
        vd := y.vd + BitVec.ofNat 5 (p * x.id.toNat)
        va := y.va + BitVec.ofNat 5 (p * x.ia.toNat)
        vb := y.vb + BitVec.ofNat 5 (p * x.ib.toNat) }
    let performed := (upFrom 0 (x.times.toNat + 1)).flatMap (fun p => ws.map (step p))
    let regs := performed.filterMap frameFmt ++ performed.filterMap frameScalar
    let value (r : Option Reg) : Word := match r with | some r => s1.me.regs.get r | none => 0
    (∀ w ∈ ws, w.getLsbD 0 = true) → (∀ w ∈ performed, frameWordOk w = true) → ReadyVec s1 regs → RunsThread s →
    exec (.repf x) s = .next (joinChunk s1 (promises s1
      (.vec ⟨.vector (wordPF 0x26 x), s1.me.regs.pc, performed.flatMap (fun w => [value (frameFmt w), value (frameScalar w)]),
        0, ws, 0, none, [], []⟩)
      (fun r => { r.skip (4 + 4 * ws.length) with cvdst := ((performed.filterMap frameCvd).getLast?).getD r.cvdst }))
      (ws.length + 1))

/-- R151 to R153, R144, R145: where the scalar side makes the grants, SETVL, SETVLI and VSPAN of an accepted vtype give
min(request, VLMAX) for it, in s[d] and in vl, vtype being the new one; SMLOOP takes vl from its counter, moves every
pointer of its pack on by vl times its advance, and branches with a new grant while the rest is positive, else leaves
vl = 0. -/
def Claim.LengthInstructionsGrant : Prop :=
  ∀ (s : State), s.me.vec.smax = 0 → s.me.vec.segs = [] → s.me.vq.any writesVl = false →
    (chunkVecs s.me).any writesVl = false →
    let live := liveOf (s.core (coreOf s.cur))
    let eff := 16384 / 2 ^ s.me.vec.split * live / 32
    let width (nt : Word) : Nat := [4, 6, 8, 16, 32, 64].getD (nt.toNat % 8) 64
    let group (nt : Word) : Nat := 2 ^ (nt.toNat / 8 % 4)
    let vlmax (nt : Word) : Nat :=
      if width nt = 6 then 4 * (eff * group nt / 24) else eff * group nt / width nt
    let accepted (nt : Word) : Prop := nt.toNat % 8 < 6 ∧ nt.toNat < 512
    let grant (request nt : Word) : Word := BitVec.ofNat 64 (min request.toNat (vlmax nt))
    let granted (i : Instr) (d : Reg) (request nt : Word) : Prop :=
      let g := grant request nt
      exec i s = .next (joinChunk s (promises s (.vec ⟨.setVl g nt live, s.me.regs.pc, [], 0, [], 0, none, [], []⟩)
        (fun r => { (r.set d g).skip 4 with vl := g, vtype := nt })) 1)
    (∀ x : GF, x.z = 0 → ReadyVec s [x.a, x.b, x.d] →
      let b := s.me.regs.get x.b
      (accepted b → granted (.setvl x) x.d (s.me.regs.get x.a) b) ∧
      (1 ≤ b.toNat → b.toNat ≤ 4 → ∀ nt : Word, nt.toNat = s.me.regs.vtype.toNat / 1024 * 1024 +
          s.me.regs.vtype.toNat % 128 + 128 * (b.toNat - 1) → accepted nt →
        granted (.vspan x) x.d (s.me.regs.get x.a) nt)) ∧
    (∀ x : GIF, fieldReason (.setvli x) = none → ReadyVec s [x.a, x.d] → accepted (x.imm.setWidth 64) →
      granted (.setvli x) x.d (s.me.regs.get x.a) (x.imm.setWidth 64)) ∧
    (∀ x : LF,
      let pk := s.me.regs.get x.b
      let first := pk.toNat / 4 % 32
      let cnt := pk.toNat % 4
      let ptr (j : Nat) : Reg := BitVec.ofNat 5 (first + j)
      let adv (j : Nat) : Nat := pk.toNat / 2 ^ (7 + 12 * j) % 4096
      let vl := s.me.regs.vl
      let rem := s.me.regs.get x.a - vl
      let moved (r : Regs) : Regs :=
        (List.range (cnt + 1)).foldl (fun q j => q.set (ptr j) (s.me.regs.get (ptr j) + vl * BitVec.ofNat 64 (adv j)))
          (r.set x.a rem)
      pk.toNat < 2 ^ 55 → first + cnt ≤ 30 → x.a ≠ x.b → (∀ j ≤ cnt, ptr j ≠ x.a ∧ ptr j ≠ x.b) →
      ReadyVec s (x.a :: x.b :: (List.range (cnt + 1)).map ptr) →
      (0 < rem.toInt → accepted s.me.regs.vtype →
        let g := grant rem s.me.regs.vtype
        exec (.smloop x) s = .next (joinChunk s (promises s
          (.vec ⟨.setVlOnly g (some live), s.me.regs.pc, [], 0, [], 0, none, [], []⟩)
          (fun r => { moved r with cdst := x.a, vl := g, pc := r.pc + BitVec.ofInt 64 (2 * x.off.toInt) })) 1)) ∧
      (rem.toInt ≤ 0 →
        exec (.smloop x) s = .next (joinChunk s (promises s
          (.vec ⟨.setVlOnly 0 none, s.me.regs.pc, [], 0, [], 0, none, [], []⟩)
          (fun r => { moved r with cdst := x.a, vl := 0, pc := r.pc + 4 })) 1)))

/-- A repeat frame issues its body as one, and the length instructions answer the length that they grant. Each part
above says which rules. -/
def Obligations.RepeatFramesAndLengthGrants : Prop :=
  Claim.RepeatFrameIssuesAsOne ∧ Claim.LengthInstructionsGrant


/-! ### The vector unit: elements -/

/-- R170, R176 to R178: the integer instructions at the lanes give every element the result of the table, wrapped to the
element width; the saturating forms clamp to the signed range (f 0) or the unsigned one (f 1); VNARROW takes the low half
of a double-width element, or clamps it, and VWIDEN extends to double width. -/
def Claim.IntegerElementsAtLanes : Prop :=
  ∀ (x : VF) (s : State) (k : Nat) (e : QEntry) (rest : List QEntry) (code : BitVec 32) (i : Instr),
    decodeWord code = .instr i → AtLanes s k e rest code →
    let v := (s.slot k).vec
    let sh := shapeOf v e.cap
    let w := sh.ew
    let runs (n ew : Nat) (f : Nat → Nat) : Prop := ∃ t, exec (.vectorUnitDispatch k) s = .next t ∧
      Finished s t k e rest [] ∧ Processed sh v (t.slot k).vec x.m.toNat x.vd.toNat n ew f
    let a := groupEl sh w v x.va.toNat sh.g
    let b := groupEl sh w v x.vb.toNat sh.g
    let d := groupEl sh w v x.vd.toNat sh.g
    let signed (w n : Nat) : Int := if 2 ^ w ≤ 2 * n then n - 2 ^ w else n
    let wrap (w : Nat) (z : Int) : Nat := (z % 2 ^ w).toNat
    let sh_ (n : Nat) : Nat := if w = 6 then n % 8 else n % w
    let clamp (sgn : Bool) (z : Int) : Int :=
      if sgn then max (-2 ^ (w - 1)) (min (2 ^ (w - 1) - 1) z) else max 0 (min (2 ^ w - 1) z)
    let value (sgn : Bool) (w n : Nat) : Int := if sgn then signed w n else n
    (∀ c ∈ [(Instr.vadd x, fun n => a n + b n), (.vsub x, fun n => wrap w ((a n : Int) - b n)), (.vmul x, fun n => a n * b n),
        (.vmulh x, fun n => wrap w (signed w (a n) * signed w (b n) / 2 ^ w)), (.vmulhu x, fun n => a n * b n / 2 ^ w),
        (.vmacc x, fun n => d n + a n * b n), (.vand x, fun n => a n &&& b n), (.vor x, fun n => a n ||| b n),
        (.vxor x, fun n => a n ^^^ b n), (.vsll x, fun n => a n * 2 ^ sh_ (b n)), (.vsrl x, fun n => a n / 2 ^ sh_ (b n)),
        (.vsra x, fun n => wrap w (signed w (a n) / 2 ^ sh_ (b n))),
        (.vmin x, fun n => if signed w (a n) ≤ signed w (b n) then a n else b n),
        (.vmax x, fun n => if signed w (a n) ≤ signed w (b n) then b n else a n),
        (.vminu x, fun n => min (a n) (b n)), (.vmaxu x, fun n => max (a n) (b n)),
        (.vsadd x, fun n => wrap w (clamp (x.f == 0) (value (x.f == 0) w (a n) + value (x.f == 0) w (b n)))),
        (.vssub x, fun n => wrap w (clamp (x.f == 0) (value (x.f == 0) w (a n) - value (x.f == 0) w (b n))))],
      i = c.1 → runs sh.g w c.2) ∧
    (i = .vnarrow x →
      let a2 := groupEl sh (2 * w) v x.va.toNat (2 * sh.g)
      let sgn := x.vb.getLsbD 0
      runs sh.g w (fun n => if x.vb.getLsbD 1 then wrap w (clamp sgn (value sgn (2 * w) (a2 n))) else a2 n)) ∧
    (i = .vwiden x →
      runs (2 * sh.g) (2 * w) (fun n => wrap (2 * w) (value (x.vb.getLsbD 0) w (a n))))

/-- R179 to R182, in the exact arithmetic and the one rounding of the model's Float: the floating-point instructions at the
lanes under the descriptor of their format register, the special functions (whose values are the part's own), the
conversions between formats, MX blocks included, and to and from integers.
The model's choices in it: log 40, 129, 137 and 139. -/
def Claim.FloatElementsAtLanes : Prop :=
  ∀ (x : VF) (s : State) (k : Nat) (e : QEntry) (rest : List QEntry) (code : BitVec 32) (i : Instr),
    decodeWord code = .instr i → AtLanes s k e rest code →
    let v := (s.slot k).vec
    let sh := shapeOf v e.cap
    let runs (f : Nat → Nat) : Prop := ∃ t, exec (.vectorUnitDispatch k) s = .next t ∧
      Finished s t k e rest [] ∧ Processed sh v (t.slot k).vec x.m.toNat x.vd.toNat sh.g sh.ew f
    let field (lo n : Nat) : Nat := e.fmt.toNat / 2 ^ lo % 2 ^ n
    let g : Gov := ⟨field 12 2, e.fmt.getLsbD 14, e.fmt.getLsbD 15⟩
    let fa := field 0 4
    let fd := field 8 4
    let raw := groupEl sh sh.ew v x.va.toNat sh.g
    let a (n : Nat) : FVal := readF g fd (raw n)
    let b (n : Nat) : FVal := readF g fd (groupEl sh sh.ew v x.vb.toNat sh.g n)
    let d (n : Nat) : FVal := readF g fd (groupEl sh sh.ew v x.vd.toNat sh.g n)
    let put (z : FVal) : Nat := writeF g fd z
    (∀ c ∈ [(Instr.vfadd x, fun n => put (addV g.rm (a n) (b n))), (.vfsub x, fun n => put (addV g.rm (a n) (negV (b n)))),
        (.vfmul x, fun n => put (mulV (a n) (b n))), (.vfma x, fun n => put (addV g.rm (mulV (a n) (b n)) (d n))),
        (.vfms x, fun n => put (addV g.rm (mulV (a n) (b n)) (negV (d n)))),
        (.vfnma x, fun n => put (addV g.rm (d n) (negV (mulV (a n) (b n))))),
        (.vfmin x, fun n => put (minV (a n) (b n))), (.vfmax x, fun n => put (maxV (a n) (b n))),
        (.vfabs x, fun n => put (absV (a n))), (.vfneg x, fun n => put (negV (a n))),
        (.vfdiv x, fun n => divF g fd (a n) (b n)), (.vfsqrt x, fun n => sqrtF g fd (a n)),
        (.vfrcp x, fun n => specialF g 0 fd (raw n)), (.vfrsq x, fun n => specialF g 1 fd (raw n)),
        (.vfexp2 x, fun n => specialF g 2 fd (raw n)), (.vflog2 x, fun n => specialF g 3 fd (raw n)),
        (.vfsin x, fun n => specialF g 4 fd (raw n)), (.vfcos x, fun n => specialF g 5 fd (raw n))],
      i = c.1 → runs c.2) ∧
    (i = .vfcvti x → runs (fun n => toIntF g.rm ⟨sh.ew, fd == 0⟩ (readF g fa (raw n)))) ∧
    (i = .vfcvtf x → runs (fun n => writeF g fd (ofIntV (IntTy.get ⟨sh.ew, fa == 0⟩ (raw n))))) ∧
    (i = .vfcvt x →
      let span := max 1 ((sh.g * fmtW fa + sh.ew - 1) / sh.ew)
      let src (n : Nat) : FVal := readF g fa (groupEl sh (fmtW fa) v x.va.toNat span n)
      let mx (c : Nat) : Bool := decide (3 ≤ c ∧ c ≤ 7)
      (field 16 3 = 0 → runs (fun n => put (src n))) ∧
      (field 16 3 = 1 → mx fd = false → mx fa = true →
        runs (fun n => put (scaleV (src n) (getEl 8 ((v.grps sh x.vb.toNat 1).getD (n / sh.seg) 0) (n % sh.seg / 32))))) ∧
      (field 16 3 = 1 → mx fd = true → sh.vl ≠ 0 → sh.vl ≤ sh.max →
        x.vb.toNat < x.vd.toNat ∨ x.vd.toNat + sh.g ≤ x.vb.toNat →
        let scale (q : Nat) : Nat := mxScale ((upFrom (32 * q) 32).map src) fd
        ∃ t, exec (.vectorUnitDispatch k) s = .next t ∧ Finished s t k e rest [] ∧
          (∀ n, sh.vstart ≤ n → n < sh.vl → n < sh.max →
            groupEl sh sh.ew (t.slot k).vec x.vd.toNat sh.g n = put (unscaleV (src n) (scale (n / 32))) % 2 ^ sh.ew) ∧
          ∀ q, sh.vstart / 32 ≤ q → q < sh.vl / 32 → 32 * q < sh.max →
            getEl 8 (((t.slot k).vec.grps sh x.vb.toNat 1).getD (32 * q / sh.seg) 0) (32 * q % sh.seg / 32) = scale q % 256))

/-- An integer or floating-point vector operation computes, at every lane, the element that its rule gives. Each part
above says which rules. -/
def Obligations.ElementsAreComputedAtLanes : Prop :=
  Claim.IntegerElementsAtLanes ∧ Claim.FloatElementsAtLanes

/-- R183, R184: the compares write the bits of their mask with the relation of the elements; the mask operations combine mask
bits, mask 0 reading as ones; MSET sets the bits below its value, VIDX the element numbers, VMSEL chooses by the mask;
MFFS gives the first selected element below vl, or all ones, and MPOP how many there are. -/
def Claim.ComparesAndMasksAtLanes : Prop :=
  ∀ (x : VF) (s : State) (k : Nat) (e : QEntry) (rest : List QEntry) (code : BitVec 32) (i : Instr),
    decodeWord code = .instr i → fieldReason i = none → AtLanes s k e rest code →
    let v := (s.slot k).vec
    let sh := shapeOf v e.cap
    let m := x.m.toNat
    let writes (f : Nat → Bool) : Prop := ∃ t, exec (.vectorUnitDispatch k) s = .next t ∧
      Finished s t k e rest [] ∧ ProcessedMask sh v (t.slot k).vec m x.vd.toNat f
    let runs (m : Nat) (f : Nat → Nat) : Prop := ∃ t, exec (.vectorUnitDispatch k) s = .next t ∧
      Finished s t k e rest [] ∧ Processed sh v (t.slot k).vec m x.vd.toNat sh.g sh.ew f
    let gives (r : Word) : Prop := ∃ t, exec (.vectorUnitDispatch k) s = .next t ∧ Finished s t k e rest [r] ∧
      (t.slot k).vec = v
    let a := groupEl sh sh.ew v x.va.toNat sh.g
    let b := groupEl sh sh.ew v x.vb.toNat sh.g
    let z (n : Nat) : Int := (BitVec.ofNat sh.ew n).toInt
    let gov : Gov := ⟨e.fmt.toNat / 2 ^ 12 % 4, e.fmt.getLsbD 14, e.fmt.getLsbD 15⟩
    let fa (n : Nat) : FVal := readF gov (e.fmt.toNat % 16) (a n)
    let fb (n : Nat) : FVal := readF gov (e.fmt.toNat % 16) (b n)
    let ma := maskBit v sh x.va.toNat
    let mb := maskBit v sh x.vb.toNat
    let chosen := (List.range sh.vl).filter (fun n => ma n && maskBit v sh m n)
    (∀ c ∈ [(Instr.vcmpeq x, fun n => decide (a n = b n)), (.vcmpne x, fun n => decide (a n ≠ b n)),
        (.vcmplt x, fun n => decide (z (a n) < z (b n))), (.vcmple x, fun n => decide (z (a n) ≤ z (b n))),
        (.vcmpltu x, fun n => decide (a n < b n)), (.vcmpleu x, fun n => decide (a n ≤ b n)),
        (.vfcmpeq x, fun n => eqV (fa n) (fb n)), (.vfcmplt x, fun n => ltV (fa n) (fb n)),
        (.vfcmple x, fun n => leV (fa n) (fb n)), (.vfcmpun x, fun n => unorderedV (fa n) (fb n)),
        (.mand x, fun n => ma n && mb n), (.mor x, fun n => ma n || mb n), (.mxor x, fun n => ma n ^^ mb n),
        (.mnot x, fun n => !ma n), (.mset x, fun n => decide (n < (e.vals.getD 0 0).toNat))], i = c.1 → writes c.2) ∧
    (i = .vidx x → runs m (fun n => n)) ∧
    (i = .vmsel x → runs 0 (fun n => if maskBit v sh m n then a n else b n)) ∧
    (i = .mffs x → gives (match chosen.head? with | some n => BitVec.ofNat 64 n | none => BitVec.allOnes 64)) ∧
    (i = .mpop x → gives (BitVec.ofNat 64 chosen.length))

/-- R169, R171, R185 to R187: the permutes give each element of a segment the element that the table names, VXCHG the one of
another segment, VKRANK the rank of a key and VHIST the count of a key; VCMPR packs the active elements of each segment;
VMVXS writes the one element that its index names and VMVSX gives the one, sign-extended. -/
def Claim.PermutesAtLanes : Prop :=
  ∀ (x : VF) (s : State) (k : Nat) (e : QEntry) (rest : List QEntry) (code : BitVec 32) (i : Instr),
    decodeWord code = .instr i → AtLanes s k e rest code →
    let v := (s.slot k).vec
    let sh := shapeOf v e.cap
    let m := x.m.toNat
    let runs (m : Nat) (f : Nat → Nat) : Prop := ∃ t, exec (.vectorUnitDispatch k) s = .next t ∧
      Finished s t k e rest [] ∧ Processed sh v (t.slot k).vec m x.vd.toNat sh.g sh.ew f
    let a := groupEl sh sh.ew v x.va.toNat sh.g
    let b := groupEl sh sh.ew v x.vb.toNat sh.g
    let d := groupEl sh sh.ew v x.vd.toNat sh.g
    let on := maskBit v sh m
    let first (n : Nat) : Nat := n / sh.seg * sh.seg
    let len (n : Nat) : Nat := min sh.seg (sh.vl - first n)
    let y := (e.vals.getD 0 0).toNat
    let index := (e.vals.getD 1 0).toNat
    let rank (n : Nat) : Nat := ((List.range n).filter (fun q => first n ≤ q && on q)).length
    (∀ c ∈ [(Instr.vperm x, fun n => if b n < len n then a (first n + b n) else 0),
        (.vslup x, fun n => if y ≤ n % sh.seg then a (n - y) else d n),
        (.vsldn x, fun n => if n % sh.seg + y < len n then a (n + y) else 0),
        (.vexpd x, fun n => a (first n + rank n)), (.vbcst x, fun _ => y), (.vmov x, fun n => a n),
        (.vxchg x, fun n =>
          let src := (n / sh.seg + y) % sh.segs * sh.seg + n % sh.seg
          if src < sh.vl then a src else 0),
        (.vkrank x, fun n => ((List.range n).filter (fun q => on q && a q == a n)).length)],
      i = c.1 → runs m c.2) ∧
    (i = .vhist x → runs 0 (fun n => ((List.range sh.vl).filter (fun q => on q && a q == n)).length)) ∧
    (i = .vcmpr x → sh.vl ≠ 0 → ∃ t, exec (.vectorUnitDispatch k) s = .next t ∧ Finished s t k e rest [] ∧
      ∀ n < sh.max,
        let act := ((List.range (first n + len n)).filter (fun q => first n ≤ q && on q)).map a
        groupEl sh sh.ew (t.slot k).vec x.vd.toNat sh.g n =
          if n % sh.seg < act.length then act.getD (n % sh.seg) 0 else if sh.tz then 0 else d n) ∧
    (i = .vmvxs x → ∃ t, exec (.vectorUnitDispatch k) s = .next t ∧ Finished s t k e rest [] ∧
      ∀ n < sh.max, groupEl sh sh.ew (t.slot k).vec x.vd.toNat sh.g n = if n = index then y % 2 ^ sh.ew else d n) ∧
    (i = .vmvsx x → ∃ t, exec (.vectorUnitDispatch k) s = .next t ∧ (t.slot k).vec = v ∧
      Finished s t k e rest [if y < sh.max then BitVec.ofInt 64 (BitVec.ofNat sh.ew (a y)).toInt else 0])

/-- The vector compares, the mask operations and the permutes give every lane what their rules say. Each part above
says which rules. -/
def Obligations.MasksAndPermutesAtLanes : Prop :=
  Claim.ComparesAndMasksAtLanes ∧ Claim.PermutesAtLanes

/-- R188, R45: the reductions combine the active elements below vl with their initial value into one scalar result, which
is on its way when they finish; PENDING_RESULT_ARRIVAL writes every result that is on its way into its register, and a
slot that waited for one goes on. The order of VFREDF's additions is left open (R130).
The model's choices in it: log 18 and 39. -/
def Obligations.ReductionsAndTheirResults : Prop :=
  (∀ (x : VF) (s : State) (k : Nat) (e : QEntry) (rest : List QEntry) (code : BitVec 32) (i : Instr),
    decodeWord code = .instr i → AtLanes s k e rest code →
    let v := (s.slot k).vec
    let sh := shapeOf v e.cap
    let gives (r : Word) : Prop := ∃ t, exec (.vectorUnitDispatch k) s = .next t ∧ Finished s t k e rest [r] ∧
      (t.slot k).vec = v
    let xs := ((List.range sh.vl).filter (maskBit v sh x.m.toNat)).map (groupEl sh sh.ew v x.va.toNat sh.g)
    let init := e.vals.getD 0 0
    let sgn := x.f == 0
    let value (n : Nat) : Int := if sgn then (BitVec.ofNat sh.ew n).toInt else n
    let first : Int := if sgn then init.toInt else init.toNat
    let g : Gov := ⟨e.fmt.toNat / 2 ^ 12 % 4, e.fmt.getLsbD 14, e.fmt.getLsbD 15⟩
    let fa := e.fmt.toNat % 16
    let fd := e.fmt.toNat / 2 ^ 8 % 16
    let start := init.toNat % 2 ^ fmtW fd
    (i = .vredsum x → gives (BitVec.ofInt 64 ((xs.map value).foldl (fun p q => p + q) first))) ∧
    (i = .vredmax x → gives (BitVec.ofInt 64 ((xs.map value).foldl max first))) ∧
    (i = .vredmin x → gives (BitVec.ofInt 64 ((xs.map value).foldl min first))) ∧
    (i = .vfredo x → gives (BitVec.ofNat 64 (xs.foldl (fun p q => writeF g fd (addV g.rm (readF g fd p) (readF g fa q)))
      start))) ∧
    (i = .vfredf x → (xs = [] → gives (BitVec.ofNat 64 start)) ∧
      (∀ q, xs = [q] → gives (BitVec.ofNat 64 (writeF g fd (addV g.rm (readF g fd start) (readF g fa q)))) ∨
        gives (BitVec.ofNat 64 (writeF g fd (addV g.rm (readF g fa q) (readF g fd start))))) ∧
      ∃ r, gives r) ∧
    (i = .vfredmax x → gives (BitVec.ofNat 64 (if xs = [] then start else
      writeF g fd (xs.foldl (fun p q => maxV p (readF g fa q)) (readF g fd start))))) ∧
    (i = .vfredmin x → gives (BitVec.ofNat 64 (if xs = [] then start else
      writeF g fd (xs.foldl (fun p q => minV p (readF g fa q)) (readF g fd start)))))) ∧
  (∀ (s : State) (k : Nat) (l : List (Reg × Word)), (s.slot k).arrivals = l.map (fun e => (.reg e.1, e.2)) →
    ∃ t, exec (.pendingResultArrival k) s = .next t ∧ (t.slot k).arrivals = [] ∧ t.mem = s.mem ∧
      (t.slot k).regs = l.foldl (fun r e => { r with s := (r.set e.1 e.2).s }) (s.slot k).regs ∧
      (∀ r, (s.slot k).wait = .pending r →
        (t.slot k).wait = if l.any (fun e => e.1 == r) then .none else .pending r))

/-- R156, R157, R161: a vector load whose active elements lie in windows of its own process gives each the bytes at its
address, and a vector store writes them in element order; the address of an element is that of the table for its form,
and elements of 4 and 6 bits and the forms with a bit offset go to their bits. VLDFF with no failing element reports vl.
The model's choices in it: log 13. -/
def Claim.VectorLoadsAndStoresInWindows : Prop :=
  ∀ (x : VMF) (s : State) (k : Nat) (e : QEntry) (rest : List QEntry) (code : BitVec 32) (i : Instr) (nf : Nat)
    (bit : Nat → Nat → Nat) (key : Nat → Nat → Nat),
    decodeWord code = .instr i → AtLanes s k e rest code →
    let v := (s.slot k).vec
    let sh := shapeOf v e.cap
    let w := sh.ew
    let base := (e.vals.getD 0 0).toNat
    let y := e.vals.getD 1 0
    let index (n : Nat) : Nat := groupEl sh w v x.b.toNat sh.g n
    let on := maskBit v sh x.m.toNat
    let plain (n _f : Nat) : Nat := (8 * base + n * w) % 2 ^ 67
    let strided (n _f : Nat) : Nat := 8 * (e.vals.getD 0 0 + BitVec.ofNat 64 n * y).toNat
    let gathered (n _f : Nat) : Nat := 8 * ((base + index n * (w / 8)) % 2 ^ 64)
    let segment (n f : Nat) : Nat := 8 * ((base + (n * x.b.toNat + f) * (w / 8)) % 2 ^ 64)
    let bits (n _f : Nat) : Nat := (8 * base + y.toNat + n * w) % 2 ^ 67
    let bytewise : Prop := w < 8 ∨ i = .vldb x ∨ i = .vstb x
    let reached (n f : Nat) : Prop :=
      (bytewise → ∀ t, t < (bit n f % 8 + w + 7) / 8 → ∃ o, windowOff k (BitVec.ofNat 64 (bit n f / 8 + t)) = some o ∧
        inWindowRegion (BitVec.ofNat 64 (bit n f / 8 + t)) = true ∧
        (s.core (windowCore (clusterOf k) o)).owner = some (s.slot k).asidN ∧ winKey (clusterOf k) o = key n f + t) ∧
      (¬bytewise → bit n f / 8 % (w / 8) = 0 ∧ ∃ o, windowOff k (BitVec.ofNat 64 (bit n f / 8)) = some o ∧
        inWindowRegion (BitVec.ofNat 64 (bit n f / 8)) = true ∧
        (s.core (windowCore (clusterOf k) o)).owner = some (s.slot k).asidN ∧ winKey (clusterOf k) o = key n f)
    let field (t : State) (n f : Nat) : Nat :=
      ofLe (rdMany unlistedByte t.mem (key n f) ((bit n f % 8 + w + 7) / 8)) >>> (bit n f % 8) % 2 ^ w
    sh.vl ≠ 0 → sh.vl ≤ sh.max → (∀ n f, sh.vstart ≤ n → n < sh.vl → on n = true → f < nf → reached n f) →
    ((i, nf, bit) ∈ [(Instr.vld x, 1, plain), (.vldff x, 1, plain), (.vlds x, 1, strided), (.vldg x, 1, gathered),
        (.vldseg x, x.b.toNat, segment), (.vldb x, 1, bits)] →
      ∃ t, exec (.vectorUnitDispatch k) s = .next t ∧ t.mem = s.mem ∧ (t.slot k).vq = rest ∧ (t.slot k).vfault = none ∧
        (t.slot k).vec.vstart = 0 ∧ (t.slot k).vec.m = v.m ∧
        (t.slot k).regs = (if i = .vldff x then { (s.slot k).regs with vl := BitVec.ofNat 64 sh.vl } else (s.slot k).regs) ∧
        ∀ f < nf, ∀ n < sh.max, groupEl sh w (t.slot k).vec (x.vd.toNat + f * sh.g) sh.g n =
          (let old := groupEl sh w v (x.vd.toNat + f * sh.g) sh.g n
            if sh.vl ≤ n then (if sh.tz then 0 else old) else if n < sh.vstart then old
            else if on n then field s n f else if sh.mz then 0 else old)) ∧
    ((i, nf, bit) ∈ [(Instr.vst x, 1, plain), (.vsts x, 1, strided), (.vstsc x, 1, gathered),
        (.vstseg x, x.b.toNat, segment), (.vstb x, 1, bits)] →
      (∀ n f n' f', sh.vstart ≤ n → n < sh.vl → f < nf → sh.vstart ≤ n' → n' < sh.vl → f' < nf → (n, f) ≠ (n', f') →
        on n = true → on n' = true →
        8 * key n f + bit n f % 8 + w ≤ 8 * key n' f' + bit n' f' % 8 ∨
          8 * key n' f' + bit n' f' % 8 + w ≤ 8 * key n f + bit n f % 8) →
      ∃ t, exec (.vectorUnitDispatch k) s = .next t ∧ (t.slot k).vq = rest ∧ (t.slot k).vfault = none ∧
        (t.slot k).vec = { v with vstart := 0 } ∧
        (∀ n f, sh.vstart ≤ n → n < sh.vl → on n = true → f < nf →
          field t n f = groupEl sh w v (x.vd.toNat + f * sh.g) sh.g n) ∧
        ∀ a, (∀ n f, sh.vstart ≤ n → n < sh.vl → on n = true → f < nf →
            a < key n f ∨ key n f + (bit n f % 8 + w + 7) / 8 ≤ a) → byteAt t a = byteAt s a)

/-- R246: a vector atomic whose active elements name different aligned words of windows in its scope gives each the old word,
but for the no-return forms, leaves the new one in memory, and clears the bits of m7.
The model's choices in it: log 13 and 38. -/
def Claim.VectorAtomicsInWindows : Prop :=
  ∀ (x : VAF) (s : State) (k : Nat) (e : QEntry) (rest : List QEntry) (code : BitVec 32) (i : Instr) (key : Nat → Nat),
    decodeWord code = .instr i → AtLanes s k e rest code →
    let v := (s.slot k).vec
    let sh := shapeOf v e.cap
    let w := sh.ew
    let addr (n : Nat) : Nat := ((e.vals.getD 0 0).toNat + groupEl sh w v x.b.toNat sh.g n * (w / 8)) % 2 ^ 64
    let on (n : Nat) : Prop := sh.vstart ≤ n ∧ n < sh.vl ∧ maskBit v sh x.m.toNat n = true
    let old (n : Nat) : Nat := s.le (key n) (w / 8)
    let d := groupEl sh w v x.vd.toNat sh.g
    let d2 := groupEl sh w v (x.vd.toNat + sh.g) sh.g
    let z (n : Nat) : Int := (BitVec.ofNat w n).toInt
    sh.vl ≠ 0 → sh.vl ≤ sh.max →
    (∀ n, on n → addr n % (w / 8) = 0 ∧ inWindowRegion (BitVec.ofNat 64 (addr n)) = true ∧
      ∃ o, windowOff k (BitVec.ofNat 64 (addr n)) = some o ∧ key n = winKey (clusterOf k) o ∧
        (s.core (windowCore (clusterOf k) o)).owner = some (s.slot k).asidN ∧
        contains k x.sc.toNat ⟨key n, 1, false, true⟩ = true) →
    (∀ n n', on n → on n' → n ≠ n' → key n + w / 8 ≤ key n' ∨ key n' + w / 8 ≤ key n) →
    ∀ c ∈ [([Instr.vamoadd x, .vamoaddNr x], fun n => old n + d n),
        ([.vamomin x, .vamominNr x], fun n => if z (old n) < z (d n) then old n else d n),
        ([.vamomax x, .vamomaxNr x], fun n => if z (old n) < z (d n) then d n else old n),
        ([.vamoand x, .vamoandNr x], fun n => old n &&& d n), ([.vamoor x, .vamoorNr x], fun n => old n ||| d n),
        ([.vamoxor x, .vamoxorNr x], fun n => old n ^^^ d n), ([.vamoswp x, .vamoswpNr x], fun n => d n),
        ([.vamocas x], fun n => if old n = d n then d2 n else old n)],
      i ∈ c.1 →
      ∃ t, exec (.vectorUnitDispatch k) s = .next t ∧ (t.slot k).vq = rest ∧ (t.slot k).vfault = none ∧
        (∀ n, on n → t.le (key n) (w / 8) = c.2 n % 2 ^ w ∧ (rd 0 (t.slot k).vec.m (8 * (n / sh.seg) + 7)).testBit (n % sh.seg) = false) ∧
        (∀ a, (∀ n, on n → a < key n ∨ key n + w / 8 ≤ a) → byteAt t a = byteAt s a) ∧
        (c.1.head? = some i → ∀ n, on n → groupEl sh w (t.slot k).vec x.vd.toNat sh.g n = old n) ∧
        (c.1.head? ≠ some i → (t.slot k).vec.v = v.v)

/-- The vector loads, stores and atomics access the elements that their addressing names. Each part above says which
rules. -/
def Obligations.VectorMemoryAccesses : Prop :=
  Claim.VectorLoadsAndStoresInWindows ∧ Claim.VectorAtomicsInWindows

/-- R191 to R198, R201: at the lanes TSET grants its tile and sets the tile state, TLDB is in the block when every row was
read, TZACC clears accumulator rows, TRDA reads accumulator cells into elements, and TMMA adds to every cell of the tile
the promoted exact sum of its products, rounded once. -/
def Obligations.MatrixInstructionsAtLanes : Prop :=
  ∀ (x : VF) (s : State) (k : Nat) (e : QEntry) (rest : List QEntry) (code : BitVec 32) (i : Instr),
    decodeWord code = .instr i → fieldReason i = none → AtLanes s k e rest code →
    let v := (s.slot k).vec
    let sh := shapeOf v e.cap
    let c := s.core (coreOf k)
    let y (n : Nat) : Nat := (e.vals.getD n 0).toNat
    let g : Gov := ⟨e.fmt.toNat / 2 ^ 12 % 4, e.fmt.getLsbD 14, e.fmt.getLsbD 15⟩
    let ends (P : State → Prop) : Prop := ∃ t, exec (.vectorUnitDispatch k) s = .next t ∧ t.mem = s.mem ∧
      (t.slot k).vq = rest ∧ (t.slot k).vfault = none ∧ (t.slot k).regs = (s.slot k).regs ∧ P t
    (i = .tset x → ends (fun t =>
      let u := (t.slot k).vec
      let fa := e.fmt.toNat % 16
      let i8 := x.vb.getLsbD 0
      u.v = v.v ∧ (t.slot k).arrivals = (s.slot k).arrivals ++ e.dst.zip [u.tm, u.tn, u.tk] ∧
      fieldOf u.tmode 9 8 = x.m.toNat ∧ u.tmode.getLsbD 10 = i8 ∧
      (y 0 = 0 ∨ y 1 = 0 ∨ y 2 = 0 → u.tm = 0 ∧ u.tn = 0 ∧ u.tk = 0) ∧
      (y 0 ≠ 0 → y 1 ≠ 0 → y 2 ≠ 0 → x.m.toNat < 2 →
        u.tk.toNat = min (y 2) (if x.m = 0 then 128 else 256) ∧
        u.tm.toNat = min (min (y 0) 128) (min (sh.max / u.tk.toNat) (sh.w * sh.g / 32)) ∧
        u.tn.toNat = min (y 1) (if fa = 1 ∧ i8 = false then 64 else 128)))) ∧
    (i = .tzacc x → y 0 ≠ 0 → ends (fun t => ∀ a, rd 0 (t.core (coreOf k)).acc a =
      if 128 * y 1 ≤ a ∧ a < 128 * (y 1 + y 0) then 0 else rd 0 c.acc a)) ∧
    (i = .trda x → v.tn.toNat ≠ 0 → ends (fun t => (t.core (coreOf k)).acc = c.acc ∧
      Processed sh v (t.slot k).vec x.m.toNat x.va.toNat sh.g sh.ew (fun n =>
        writeF g (e.fmt.toNat / 2 ^ 8 % 16)
          (readF g 0 (rd 0 c.acc (128 * (y 0 + n / v.tn.toNat) + n % v.tn.toNat)).toNat)))) ∧
    (i = .tmma x → c.blkBad = false → v.tm.toNat ≠ 0 → v.tn.toNat ≠ 0 → v.tk.toNat ≠ 0 → v.tn.toNat ≤ 128 →
      ends (fun t => ∀ r < 128, ∀ j < 128,
        let old := (rd 0 c.acc (128 * r + j)).toNat
        let sum := partialSum v g c.blk (v.grp sh.w 0 x.va.toNat sh.g) (r - y 0) j 0 v.tk.toNat
        (rd 0 (t.core (coreOf k)).acc (128 * r + j)).toNat =
          if y 0 ≤ r ∧ r < y 0 + v.tm.toNat ∧ j < v.tn.toNat then
            writeF g 0 (addV g.rm (readF g 0 old)
              (readF g 0 (promoteT g sum (rowScale sh (VOp.of code e.vals e.fmt e.pc) v (r - y 0)) c.sB.toNat))) % 2 ^ 32
          else old))

/-- R436, R448, R253, R422: an instruction that a check refuses at the lanes performs nothing and stays first in the queue as
an imprecise fault of reason R434's lowest; IMPRECISE_FAULT_TRAP takes it when no chunk is open, with epc the next
instruction of the slot and the whole queue held; not while the slot is halted or asleep.
The model's choices in it: log 178. -/
def Claim.LaneFaultsAreImprecise : Prop :=
  (∀ (s : State) (k : Nat) (e : QEntry) (rest : List QEntry) (code : BitVec 32) (r : Nat),
    (s.slot k).res = .full ∨ (s.slot k).res = .light → (s.slot k).vfault = none → (s.slot k).vq = e :: rest →
    e.work = .vector code → majorOf code ≠ 0x26 → ¬(majorOf code = 0x24 ∧ ((VOp.of code e.vals e.fmt e.pc).fn = 4 ∨
      (VOp.of code e.vals e.fmt e.pc).fn = 5)) →
    let sh := shapeOf (s.slot k).vec e.cap
    laneReason (s.slot k) sh (laneSpec s k sh (VOp.of code e.vals e.fmt e.pc) code) = some r →
    ∃ t f, exec (.vectorUnitDispatch k) s = .next t ∧ (t.slot k).vfault = some f ∧ f.cause = 0x12 ∧ f.addr = e.pc ∧
      f.einfo = einfoOf r 0 false sh.vstart ||| 0x1000 ∧ (t.slot k).vec = (s.slot k).vec ∧ (t.slot k).vq = e :: rest ∧
      (t.slot k).regs = (s.slot k).regs ∧ t.mem = s.mem) ∧
  (∀ (s : State) (k : Nat), (s.slot k).wait = .halt ∨ (∃ till d, (s.slot k).wait = .sleep till d) →
    exec (.impreciseFaultTrap k) s = .next s) ∧
  (∀ (s : State) (k : Nat) (f : VFault), (s.slot k).vfault = some f → (s.slot k).chunk = .empty →
    (s.slot k).wait ≠ .halt → (∀ till d, (s.slot k).wait ≠ .sleep till d) → (s.slot k).answered = false →
    (s.slot k).held = [] → (s.slot k).vq.length = (if f.queued then 1 else 0) →
    ∃ t, exec (.impreciseFaultTrap k) s = .next t ∧ TrapTaken s t k f.cause f.addr f.einfo (s.slot k).regs.pc ∧
      (t.slot k).vfault = none) ∧
  (∀ (s : State) (k : Nat) (f : VFault), (s.slot k).vfault = some f → (s.slot k).chunk.count ≠ 0 →
    (s.slot k).wait ≠ .halt → (∀ till d, (s.slot k).wait ≠ .sleep till d) →
    exec (.impreciseFaultTrap k) s = .next (s.onSlot k Slot.close))

/-- R145, R153, R55: a grant at the head of the queue of a slot with no segment that asks for none more gives
min(request, VLMAX) under its vtype for the lanes that live, to the vector unit, to the copy of vl that the scalar side
holds, and as the result on its way. -/
def Claim.VectorUnitGrantsLength : Prop :=
  ∀ (s : State) (k : Nat) (e : QEntry) (rest : List QEntry) (request vt : Word) (loop : Bool),
    (s.slot k).vfault = none → (s.slot k).vq = e :: rest → e.work = .grant request vt 1 loop → (s.slot k).vec.smin = 0 →
    (s.slot k).vec.segs = [] →
    let live := liveOf (s.core (coreOf k))
    let vl := BitVec.ofNat 64 (min request.toNat (vlmaxSeg vt (16384 / 2 ^ (s.slot k).vec.split * live / 32)))
    ∃ t, exec (.spanGrant k) s = .next t ∧ t.mem = s.mem ∧ (t.slot k).vec.vl = vl ∧
      (t.slot k).vec.vstart = (if loop then (s.slot k).vec.vstart else 0) ∧
      (t.slot k).vec.vtype = (if loop then (s.slot k).vec.vtype else vt) ∧ (t.slot k).vec.live = live ∧
      (t.slot k).regs = { (s.slot k).regs with vl := vl } ∧
      (t.slot k).arrivals = (s.slot k).arrivals ++ e.dst.zip [vl] ∧
      (t.slot k).vq.map QEntry.work = rest.map QEntry.work

/-- A fault of an element is imprecise, and the vector unit grants a length when it is due. Each part above says which
rules. -/
def Obligations.VectorFaultsAndLengths : Prop :=
  Claim.LaneFaultsAreImprecise ∧ Claim.VectorUnitGrantsLength


/-! ### Steps of the part: waits, interrupts and moves of a slot -/

/-- R235, R231, R463: a slot that waits on an empty bound queue goes on when an entry is there; one that waits for a place of a
run queue, a scalar queue or an engine's command queue goes on when there is one; when a line of the instruction cache
arrives, the fetches that wait for it in that set go on. Nothing else changes at the slot, and while the occasion is not there
nothing changes. -/
def Claim.WaitsEndWhenServed : Prop :=
  ∀ (s : State) (k : Nat),
    (∀ p, (s.slot k).wait = .pop p →
      exec (.popWaitWake k) s = .next (if popReady s k p = true then s.wake k else s)) ∧
    (∀ kind i, (s.slot k).wait = .capacity kind i →
      let q := rd ScalarQ.empty (s.core (coreOf k)).sq i
      let room : Prop :=
        if kind = 0 then (s.core i).runq.length + (s.core i).runResv < 64
        else if kind = 1 then q.elems.length + q.resv < 8
        else (s.engine i).cmds.length + (s.engine i).resv < 64
      (room → exec (.capacityWaitWake k) s = .next (s.wake k)) ∧
      (¬ room → exec (.capacityWaitWake k) s = .next s)) ∧
    (∀ c set line rest, (s.core c).fills = (set, line) :: rest →
      ∃ t, exec (.icacheFill c) s = .next t ∧ (t.core c).fills = rest ∧ t.mem = s.mem ∧
        ∀ j, Listed s j → (t.slot j).wait = (if coreOf j = c ∧ (s.slot j).wait = .ifetch set line then .none else (s.slot j).wait) ∧
          (t.slot j).regs = (s.slot j).regs)

/-- R243: a sleeping slot wakes on an event with s[d] = 1, and when its time has passed with s[d] = 0; before that it sleeps
on. -/
def Claim.SleepersWake : Prop :=
  ∀ (s : State) (k : Nat) (till : Option Nat) (d : Reg), (s.slot k).wait = .sleep till d → isBound (s.slot k) d = false →
    let woken (v : Word) : Prop := ∃ t, exec (.sleepWake k) s = .next t ∧ t.mem = s.mem ∧ (t.slot k).wait = .none ∧
      (t.slot k).regs = ((s.slot k).regs.set d v).skip 4
    (sleepEvent s k = true → woken 1) ∧
    (sleepEvent s k = false →
      (∀ c, till = some c → c ≤ s.cycle → woken 0) ∧
      ((∀ c, till = some c → s.cycle < c) → exec (.sleepWake k) s = .next s))

/-- A wait ends when what it waits for arrives, and a sleeper wakes on its event. Each part above says which rules. -/
def Obligations.WaitsAndSleepsEnd : Prop :=
  Claim.WaitsEndWhenServed ∧ Claim.SleepersWake

/-- R59, R254, R256: a slot with interrupts enabled takes a requested pre-emption, and a host interrupt, as ecause 0x03 with the
kind in einfo and epc the instruction it would issue; its open chunk commits first; a graphics thread takes no time slice.
No imprecise fault is pending, which would come first (R422). A halted slot goes back into the rotation for an interrupt and
for a slot reset. -/
def Claim.SlotsAreInterrupted : Prop :=
  ∀ (s : State) (k : Nat), (s.slot k).res = .full ∨ (s.slot k).res = .light → (s.slot k).pairSince = none →
    (s.slot k).answered = false → (s.slot k).vfault = none →
    let x := s.slot k
    ((x.wait = .none ∨ x.wait = .halt) → x.ie = true →
      (x.chunk.count = 0 → ∃ t, exec (.hostInterrupt k) s = .next t ∧ TrapTaken s t k 3 0 2 x.regs.pc ∧
        (t.slot k).irq = false ∧ (t.slot k).wait = .none ∧ t.mem = s.mem) ∧
      (x.chunk.count ≠ 0 → ∃ t, exec (.hostInterrupt k) s = .next t ∧ (t.slot k).chunk.closed = true ∧
        (t.slot k).irq = true ∧ (t.slot k).regs = x.regs)) ∧
    (x.wait = .halt → x.ie = false → exec (.hostInterrupt k) s =
      .next (s.onSlot k (fun y => { y with irq := true, wait := .none }))) ∧
    (∀ i, x.preempt = some i → x.wait = .none → x.ie = true →
      (x.gfx = false → x.chunk.count = 0 → ∃ t, exec (.timeSliceTrap k) s = .next t ∧
        TrapTaken s t k 3 0 (word i) x.regs.pc ∧ (t.slot k).preempt = none ∧ t.mem = s.mem) ∧
      (x.gfx = false → x.chunk.count ≠ 0 → exec (.timeSliceTrap k) s = .next (s.onSlot k Slot.close)) ∧
      (x.gfx = true → exec (.timeSliceTrap k) s = .next s)) ∧
    (x.wait = .halt → exec (.slotReset k) s = .next (s.wake k))

/-- R60, R200, R472: a pair pass that has waited 256 µs for its partner, or 40 µs under the pre-emption of a display deadline,
ends as ecause 0x1B with reason 5, or 6 when a pre-emption is pending; before that it waits on.
The model's choices in it: log 132. -/
def Claim.PairPassesTimeOut : Prop :=
  ∀ (s : State) (k c : Nat), (s.slot k).pairSince = some c →
    let limit := if (s.slot k).preempt = some 1 then 40 else 256
    (s.cycle < c + limit * 1600 → exec (.pairPartnerTimeout k) s = .next s) ∧
    (c + limit * 1600 ≤ s.cycle → ∃ t f, exec (.pairPartnerTimeout k) s = .next t ∧ t.mem = s.mem ∧
      (t.slot k).pairSince = none ∧ (t.slot k).vfault = some f ∧ f.cause = 0x1B ∧
      fieldOf f.einfo 7 0 = (if (s.slot k).preempt.isSome then 6 else 5) ∧
      (∀ e rest, (s.slot k).vq = e :: rest → f.addr = e.pc))

/-- A slot takes an interrupt between instructions, and a pass that its partner does not join times out. Each part
above says which rules. -/
def Obligations.InterruptsAndTimeouts : Prop :=
  Claim.SlotsAreInterrupted ∧ Claim.PairPassesTimeOut

/-- R29, R52, R53, R54, R75: a light thread that leaves for a core, with nothing of it still to perform, joins the tail of its
run queue with its pc, its registers and its predicate, and its slot is free; while that queue is full, or the core takes
no work, it stays, and after 2 µs it goes on where it is and performs the access remotely, counted as event 19; one that a
MIGR sends goes on behind it.
The model's choices in it: log 85 and 131. -/
def Obligations.LightThreadsTravel : Prop :=
  ∀ (s : State) (k core since : Nat) (access : Bool), (s.slot k).wait = .migrate core since access →
    let x := s.slot k
    let full := 64 ≤ (s.core core).runq.length + (s.core core).runResv ∨ clusterReadyBit s (core / 192) = false ∨
      liveOf (s.core core) = 0
    (¬ full → storesQueued s k = false → access = true → ∃ t p, exec (.migrationArrival k) s = .next t ∧ t.mem = s.mem ∧ t.slot k = .empty ∧
      (t.core core).runq = (s.core core).runq ++ [p] ∧
      p.pc = x.regs.pc ∧ p.p = x.regs.p ∧ p.cdst = x.regs.cdst ∧ p.mig = x.mig ∧ p.task = x.task ∧
      p.sys.asid = x.sys.asid ∧ p.sys.status = x.sys.status ∧ p.regs.length = 10 ∧
      ∀ r : Reg, r.toNat < 10 → p.regs[r.toNat]? = some (x.regs.get r)) ∧
    (full → exec (.migrationArrival k) s = .next s ∧
      (s.cycle < since + 2 * 1600 → exec (.runQueueFallback k) s = .next s) ∧
      (since + 2 * 1600 ≤ s.cycle → access = true → exec (.runQueueFallback k) s =
        .next (s.onSlot k (fun y => countEvent { y with wait := .none, remote := true } 19 1))) ∧
      (since + 2 * 1600 ≤ s.cycle → access = false → NoChunk { s with cur := k } → ∃ t,
        exec (.runQueueFallback k) s = .next t ∧ t.mem = s.mem ∧ (t.slot k).wait = .none ∧ (t.slot k).res = x.res ∧
        (t.slot k).regs = x.regs.skip 4))

/-- R294, R295: a write from outside the chunks that reaches a sector of a cluster squashes there every chunk whose reads meet
the sector, but a closed one of one instruction, which always commits (R296): the slot is at its checkpoint, its chunk
holds nothing, and the squash counts; every slot of another cluster and memory stay.
The model's choices in it: log 98. -/
def Obligations.OutsideWritesSquashReaders : Prop :=
  ∀ (s : State) (c sector : Nat), ∃ t, exec (.externalClusterWrite c sector) s = .next t ∧ t.mem = s.mem ∧
    (∀ k, clusterOf k ≠ c → t.slot k = s.slot k) ∧
    (∀ k, clusterOf k = c → Listed s k →
      (sector ∈ (s.slot k).chunk.rset → (s.slot k).chunk.sure = false →
        (t.slot k).regs = (s.slot k).chunk.ckpt.getD (s.slot k).regs ∧ (t.slot k).chunk = .empty ∧
        (t.slot k).squashes = (s.slot k).squashes + 1) ∧
      ((s.slot k).chunk.rset = [] → t.slot k = s.slot k))

/-- R88, R80: a word that encodes no instruction takes ecause 0x10 and a fetch that fails 0x15, each with the reason in einfo,
eaddr the place and epc the instruction, whose effect is none; an open chunk commits first.
The model's choices in it: log 182. -/
def Obligations.UnallocatedWordsAndFetchFaultsTrap : Prop :=
  ∀ s : State, RunsThread s →
    (NoChunk s →
      (∀ reason < 256, ∃ t, exec (.unallocatedEncoding reason) s = .next t ∧
        TrapTaken s t s.cur 0x10 s.me.regs.pc (word reason) s.me.regs.pc) ∧
      (∀ reason level addr, reason < 256 → level < 8 → ∃ t, exec (.fetchFault reason level addr) s = .next t ∧
        TrapTaken s t s.cur 0x15 (word addr) (t.me.sys.einfo) s.me.regs.pc ∧ fieldOf t.me.sys.einfo 7 0 = reason ∧
        fieldOf t.me.sys.einfo 10 8 = level)) ∧
    (s.me.chunk.count ≠ 0 →
      (∀ reason, exec (.unallocatedEncoding reason) s = .next (s.onMe Slot.close)) ∧
      (∀ reason level addr, exec (.fetchFault reason level addr) s = .next (s.onMe Slot.close)))

/-! ### Steps of the part: the scheduler -/

/-- R323, R34, R53, R326: a turn of a cluster's dispatch unit, which comes two cycles after the last one at the earliest, starts the
first packet of the lowest core of its run queues, or else the leading unit that it chooses among the candidates of its own die;
a cluster with four turns without such a candidate behind it takes a unit of the next die that has one. The thread of a plain task starts at the entry pc with s0 to s5 as its
descriptor gives them and every other register zero. Where one core of the cluster holds a packet and a slot, the packet
starts; where the only queue holds one light task, which the cluster may take, that task starts: on a cluster of its
die by a dispatch, on one of another die by a steal.
The model's choices in it: log 80. -/
def Obligations.ClustersDispatchAndSteal : Prop :=
  ∀ (s : State) (c : Nat), clusterReadyBit s c = true → (s.cluster c).stopped = false → (s.cluster c).reserve = [] →
    (∀ n, (s.cluster c).turnAt = some n → n + 2 ≤ s.cycle) →
    let begun (p : Packet) : TaskInfo := if p.fresh then { p.task with since := s.cycle } else p.task
    let starts (s1 : State) (key : Nat) (q : QueueSt) (u : QTask) (t : State) : Prop :=
      ∃ k, clusterOf k = c ∧ (s1.slot k).res = .empty ∧
        (t.slot k).res = (if dLight u.desc then .light else .full) ∧
        (t.slot k).regs.pc = word (dsc u.desc 63 0) ∧ (t.slot k).regs.get 0 = word (dsc u.desc 127 64) ∧
        (t.slot k).regs.get 1 = word (dsc u.desc 319 288 + u.next) ∧
        (t.slot k).regs.get 5 = word (dsc u.desc 191 128) ∧
        (∀ r : Reg, 6 ≤ r.toNat → (t.slot k).regs.get r = 0) ∧ (t.slot k).regs.p = 0 ∧
        (t.slot k).sys.asid = word (keyAsid key) ∧ (t.slot k).sys.ptbase = q.ptbase ∧
        (t.slot k).sys.qtbase = q.qtbase ∧ (t.slot k).wait = .none ∧ (t.slot k).chunk = .empty
    (∀ core k p, packetCore s c = some (core, k, p) →
      ∃ t, exec (.dispatch c) s = .next t ∧ t.mem = s.mem ∧ (t.slot k).res = .light ∧ (t.slot k).regs.pc = p.pc ∧
        (t.slot k).regs.p = p.p ∧ (t.slot k).sys = p.sys ∧ (t.slot k).task = begun p ∧
        (t.core (coreOf k)).runq = (s.core (coreOf k)).runq.drop 1 ∧
        (p.regs.length = 10 → ∀ r : Reg, r.toNat < 10 → p.regs[r.toNat]? = some ((t.slot k).regs.get r))) ∧
    (∀ s1 e t u q, packetCore s c = none → staleDeficits s c = [] →
      choose s c (candidates s c (c / 3)) = some (s1, e) → tryUnit s1 c e.key = some (t, u) →
      s1.queue e.key = some q → q.resume = false → isGang u = false → unitSize u = 1 →
      exec (.dispatch c) s = .next (t.onCluster c (fun y => { y with idle := 0, turnAt := some s.cycle })) ∧
        starts s1 e.key q u t) ∧
    (∀ i s1 e t u q, 1 ≤ i → i < 8 → 4 ≤ (s.cluster c).idle → hasFreeSlot s c = true → packetCore s c = none →
      candidates s c (c / 3) = [] →
      (∀ j, 1 ≤ j → j < i → candidates s c ((c / 3 + j) % 8) = []) →
      choose s c (candidates s c ((c / 3 + i) % 8)) = some (s1, e) → tryUnit s1 c e.key = some (t, u) →
      s1.queue e.key = some q → q.resume = false → isGang u = false → unitSize u = 1 →
      exec (.clusterSteal c) s = .next (t.onCluster c (fun y => { y with turnAt := some s.cycle })) ∧ starts s1 e.key q u t) ∧
    (∀ core k p rest, core / 192 = c → (s.core core).runq = p :: rest → liveOf (s.core core) ≠ 0 →
      (∀ e ∈ s.cores, e.1 / 192 = c → e.1 ≠ core → e.2.runq = []) →
      k / 16 = core → (s.slot k).res = .empty → (∀ j < k, j / 16 = core → (s.slot j).res ≠ .empty) →
      ∃ t, exec (.dispatch c) s = .next t ∧ t.mem = s.mem ∧ (t.slot k).res = .light ∧ (t.slot k).regs.pc = p.pc ∧
        (t.slot k).sys = p.sys ∧ (t.slot k).task = begun p ∧ (t.core core).runq = rest) ∧
    (∀ key q u, LightTaskWaits s c key q u →
      (q.home = c / 3 → ∃ t, exec (.dispatch c) s = .next t ∧ starts s key q u t ∧ (t.cluster c).idle = 0 ∧
        (t.cluster c).turnAt = some s.cycle) ∧
      (q.home ≠ c / 3 → 4 ≤ (s.cluster c).idle →
        ∃ t, exec (.clusterSteal c) s = .next t ∧ starts s key q u t ∧ (t.cluster c).turnAt = some s.cycle))

/-- R324, R328, R333, R471: a task that has waited the limit of its effective class, in units of 100 µs, ages by one class;
a leading unit that has been a candidate for 20 µs may go to a closed cluster; a resume task that leads its queue 10 ms after its enqueue
may start on any core of its split. Before that nothing changes.
The model's choices in it: log 83. -/
def Claim.WaitingTasksAgeAndFallBack : Prop :=
  ∀ (s : State) (key : Nat) (q : QueueSt), s.queue key = some q →
    let marked (seq : Nat) (f : QTask → QTask) : State :=
      s.putQueue key (some { q with tasks := q.tasks.map (fun u => if u.seq = seq then f u else u) })
    (∀ seq u, q.tasks.find? (fun u => u.seq == seq && u.tiles == 0) = some u →
      let e := q.cls - u.aged
      let lim := if e = 0 then 0
        else fieldOf (s.dreg (0xF00000010000 + q.home * 0x1000)) (8 * e - 1) (8 * e - 8) * 100 * 1600
      (lim ≠ 0 → u.readyAt + lim ≤ s.cycle → exec (.agingStep key seq) s =
        .next (marked seq (fun v => { v with aged := v.aged + 1, readyAt := v.readyAt + lim }))) ∧
      (lim = 0 ∨ s.cycle < u.readyAt + lim → exec (.agingStep key seq) s = .next s)) ∧
    (∀ u c, leadOf q = some u → u.cand = some c →
      (c + 20 * 1600 ≤ s.cycle → exec (.closedClusterFallback key) s =
        .next (marked u.seq (fun v => { v with fallback := true }))) ∧
      (s.cycle < c + 20 * 1600 → exec (.closedClusterFallback key) s = .next s)) ∧
    (∀ u, leadOf q = some u → q.resume = true →
      (u.enq + 10000 * 1600 ≤ s.cycle → exec (.resumeWaitTimeout key) s =
        .next (marked u.seq (fun v => { v with overdue := true }))) ∧
      (s.cycle < u.enq + 10000 * 1600 → exec (.resumeWaitTimeout key) s = .next s))

/-- R331, R334: for a unit that has been a candidate nowhere for 10 µs and has no request outstanding, a cluster of its die
asks the thread of the highest class among those of a higher class than the unit whose time slice has passed to yield its
place, with einfo 0; for a queue that a display deadline has raised, at once, whatever the slice, with einfo 1, and at the home
cluster of its tile or a grid neighbour. No graphics thread is asked.
The model's choices in it: log 83 and 84. -/
def Claim.WaitingUnitsPreempt : Prop :=
  ∀ (s : State) (c key : Nat) (q : QueueSt) (u : QTask) (before after : Store (Option QueueSt)) (k : Nat) (x : Slot),
    s.queues = before ++ (key, some q) :: after → (∀ e ∈ before, ∀ y, e.2 = some y → y.tasks = []) →
    asksAt s c q u = true → leadOf q = some u → nowhereNow s key = true → victimOf q (victims s c q u) = some (k, x) →
    u.victims = [] →
    ((q.raised = false ∧ ∃ l, u.nowhere = some l ∧ l + 10 * 1600 ≤ s.cycle) ∨ (q.raised = true ∧ 0 < unitSize u)) →
    (∃ t, exec (.preemptionRequest c) s = .next t ∧ t.mem = s.mem ∧
      t.slot k = { s.slot k with
        preempt := some (if q.raised then 1 else 0)
        wait := if (s.slot k).wait = .halt then .none else (s.slot k).wait } ∧
      ∀ j ≠ k, t.slot j = s.slot j) ∧
    clusterOf k = c ∧ x.gfx = false ∧ x.preempt = none ∧
    effClass q u < x.task.cls ∧ (q.raised = false → q.home = c / 3 ∧ x.task.since + sliceOfDie s q.home ≤ s.cycle) ∧
    (q.raised = true →
      let home := tileHome s (q.home * 9216) (dsc u.desc 191 128 / 2 ^ 32)
      c = home ∨ (gridNeighbours home c = true ∧ partOf s c = partOf s home)) ∧
    ∀ e ∈ victims s c q u, e.2.task.cls ≤ x.task.cls

/-- R329: the leading gang unit of a queue that has led it for 100 µs reserves, among the ready clusters, the core with the
most free contexts, or the cluster with the most for a gang of a cluster, behind the reservations that stand there; before
that nothing changes.
The model's choices in it: log 83 and 152. -/
def Claim.GangsReserveWhereMostIsFree : Prop :=
  ∀ (s : State) (key : Nat) (q : QueueSt) (u : QTask) (l : Launch) (from_ : Nat),
    s.queue key = some q → leadOf q = some u → isGang u = true → u.led = some from_ →
    s.launch u.launch = some l → l.dies = [] →
    (∀ e ∈ s.clusters, ∀ r ∈ e.2.reserve, ¬ (r.1 = key ∧ r.2.1 = u.seq)) →
    let may (c : Nat) : Prop := c < 24 ∧ clusterReadyBit s c = true ∧
      partOf s c = partOf s (3 * q.home)
    let free := freeContexts s (keyAsid key) (dSplit u.desc)
    let whole (c : Nat) : Nat := ((upFrom (192 * c) 192).map free).sum
    (s.cycle < from_ + 100 * 1600 → exec (.gangReservationStart key) s = .next s) ∧
    (from_ + 100 * 1600 ≤ s.cycle → (∃ c, may c) →
      (dGlevel u.desc = 2 → ∃ c, may c ∧ (∀ c', may c' → whole c' ≤ whole c) ∧
        exec (.gangReservationStart key) s =
          .next (s.onCluster c (fun y => { y with reserve := y.reserve ++ [(key, u.seq, none)] }))) ∧
      (dGlevel u.desc ≠ 2 → ∃ core, may (core / 192) ∧ (∀ core', may (core' / 192) → free core' ≤ free core) ∧
        exec (.gangReservationStart key) s =
          .next (s.onCluster (core / 192) (fun y => { y with reserve := y.reserve ++ [(key, u.seq, some core)] }))))

/-- A task that waits ages and falls back, a gang reserves where most is free, and a waiting unit pre-empts. Each part
above says which rules. -/
def Obligations.WaitingWorkMovesOn : Prop :=
  Claim.WaitingTasksAgeAndFallBack ∧ Claim.GangsReserveWhereMostIsFree ∧ Claim.WaitingUnitsPreempt

/-- R35, R330, R430: a launch whose threads have all ended and whose reductions have performed is complete: the 64-bit word at
the done address of its queue is one more, and its MSI-X vector is raised; a launch that has failed is only forgotten; one
with a thread left goes on. The ends of threads that ran here for a launch of a peer are reported to it, behind their reductions.
The model's choices in it: log 75. -/
def Obligations.LaunchesComplete : Prop :=
  ∀ (s : State) (n : Nat) (l : Launch), s.launch n = some l →
    (∀ peer m, l.remote = some (peer, m) →
      (redsOf s n = true → exec (.launchCompletion n) s = .next s) ∧
      (redsOf s n = false → ∃ t, exec (.launchCompletion n) s = .next t ∧ t.launch n = some { l with ended := 0 } ∧
        t.mem = s.mem ∧ t.output = s.output ++ List.replicate l.ended (.peerThread peer m true))) ∧
    (l.remote = none → l.left ≠ 0 ∨ redsOf s n = true → exec (.launchCompletion n) s = .next s) ∧
    (l.remote = none → l.left = 0 → redsOf s n = false →
      let gone : State := { s with launches := wr none s.launches n none }
      (l.failed = true → exec (.launchCompletion n) s = .next gone) ∧
      (l.failed = false → l.started = true →
        (l.doneVa = 0 → l.irq = false → exec (.launchCompletion n) s = .next gone) ∧
        (∀ s1 loc, l.irq = false → l.doneVa ≠ 0 →
          resolve gone (l.home * 9216) (keyAsid l.key) l.ptbase l.doneVa
            { wantBoth with user := false, unit := true } = (s1, .ok loc) →
          loc.tracked = true → loc.kind = 0 → loc.disc = false → s1.launch n = none →
          ∃ t, exec (.launchCompletion n) s = .next t ∧ t.launch n = none ∧
            t.le loc.key 8 = (s1.le loc.key 8 + 1) % 2 ^ 64) ∧
        (l.doneVa = 0 → l.irq = true → l.msix < 64 →
          let port := portOfProc s (keyAsid l.key)
          s.rdy.getLsbD (40 + port.1) = true →
          exec (.launchCompletion n) s =
            .next { gone with output := s.output ++ [.msix port.1 port.2 l.msix] })))

/-- R251, R314, R317, R318: a queue that an access or a held host write waits for is read in when a place is free, and the
accesses go on; where the host serves the miss, as it does for a queue whose die was lost, the threads that named the queue take
ecause 0x07 with the handle. The oldest pending queue of a die comes back into a free place; for those that the host is to bring
back an event is posted after 50 µs.
The model's choices in it: log 68. -/
def Obligations.QueuesComeBackOrMiss : Prop :=
  ∀ (s : State) (key : Nat) (q : QueueSt), s.queue key = some q → q.resident = false →
    let back (s1 : State) (e : QEnt) (t : State) : Prop := ∃ q', t.queue key = some q' ∧ q'.resident = true ∧
      q'.handle = e.f 191 176 * 65536 + q.handle % 65536 ∧ q'.cap = e.f 151 128 ∧ q'.cls = e.f 155 153 ∧
      q'.tasks = [] ∧ q'.elems = [] ∧ key ∉ (t.die q.home).pending ∧
      ∀ k, Listed s1 k → (s1.slot k).wait.misses key = true →
        (t.slot k).wait = .none ∧ (t.slot k).regs = (s1.slot k).regs
    let alone (rest : List Nat) : Prop := (s.die q.home).pending = key :: rest ∧ ∀ k ∈ rest, (s.queue k).isSome = true
    let empty : Prop := q.lost = false ∧ q.tasks = [] ∧ q.elems = [] ∧ residentCount s q.home < queueLimit s q.home
    let unposted (l : List HeldWrite) : Prop := ∃ h ∈ l, h.key = key ∧ h.posted = false
    (∀ s1 e ps all, empty →
      readEntry s (q.home * 9216) (keyAsid key) q.ptbase q.qtbase q.handle true = (s1, .inl e) →
      e.kind = q.kind → e.f 159 156 = q.home →
      backingPrefix s1 (queueOfEntry s1 (keyAsid key) q.qtbase q.ptbase q.handle e) (64 + entryBytes q * (e.f 151 128 + 1)) = some all →
      backingPrefix s1 (queueOfEntry s1 (keyAsid key) q.qtbase q.ptbase q.handle e) 64 = some ps →
      (ps.flatMap (fun p => rdMany unlistedByte s1.mem p.1 p.2)).take 64 = headerBytes q.stamp →
      ((∃ x ∈ s.slots, x.2.wait = .queueMiss key false) → (∀ h ∈ s1.heldWrites, h.key ≠ key) →
        ∃ t, exec (.queueSwapIn key) s = .next t ∧ back s1 e t) ∧
      (unposted s.heldWrites → ∃ t, exec (.queueSwapIn key) s = .next t ∧ residentQ t key = true) ∧
      (∀ rest, alone rest → q.hostMode = false →
        ∃ t, exec (.pendingQueueSwapIn q.home) s = .next t ∧ back s1 e t)) ∧
    (∀ e ps all, empty → queueKey (keyAsid key) q.handle = key →
      HandleStands s (q.home * 9216) (keyAsid key) q.qtbase q.handle e → e.kind = q.kind → e.f 159 156 = q.home →
      let q1 := queueOfEntry s (keyAsid key) q.qtbase q.ptbase q.handle e
      backingPrefix s q1 (64 + entryBytes q * (e.f 151 128 + 1)) = some all → backingPrefix s q1 64 = some ps →
      q.stamp = 0 → (∀ p ∈ ps, ∀ i < p.2, byteAt s (p.1 + i) = 0) →
      (∀ k, (s.slot k).wait = .queueMiss key false → (∀ h ∈ s.heldWrites, h.key ≠ key) →
        ∃ t, exec (.queueSwapIn key) s = .next t ∧ back s e t) ∧
      (∀ rest, alone rest → q.hostMode = false →
        ∃ t, exec (.pendingQueueSwapIn q.home) s = .next t ∧ back s e t)) ∧
    (∀ k host, Listed s k → (s.slot k).wait = .queueMiss key host → throughPort (s.slot k) key = false →
      (∀ h ∈ s.heldWrites, h.key ≠ key) → awaitedRelease s key = false →
      q.lost = true ∨ (∀ e ∈ s.slots, e.2.wait ≠ .queueMiss key false) →
      ∃ t, exec (.queueSwapIn key) s = .next t ∧ t.mem = s.mem ∧
        TrapTaken s t k 7 0 (word q.handle) (s.slot k).regs.pc) ∧
    (∀ l, (s.die q.home).pending = l → key ∈ l → (∀ k ∈ l, (s.queue k).isSome = true ∧ partPending s k = false) →
      q.posted = false →
      (q.joined + 50 * 1600 ≤ s.cycle → ∃ t q', exec (.pendingQueueSwapIn q.home) s = .next t ∧
        .queueMiss key ∈ t.output ∧ t.queue key = some q' ∧ q'.posted = true ∧ q'.resident = false) ∧
      (s.cycle < q.joined + 50 * 1600 → l = [key] → exec (.pendingQueueSwapIn q.home) s = .next s))

/-- R315, R316, R466, R467: the operations of qctl are done when qctl reads not busy, with fail in bit 60 and the handle: after
one that has not failed the queue is resident, or is not, or is retired, its bindings stale. A write of sctl leaves at most
the new limit of resident queues; a reserved limit changes nothing.
The model's choices in it: log 67. -/
def Obligations.QueueControlDoesItsOperation : Prop :=
  ∀ (s : State) (die asid handle : Nat),
    let key := queueKey asid handle
    let done (t : State) (fail : Bool) : Prop := (t.die die).qctl =
      word (b2n fail * 2 ^ 60 + asid % 65536 * 2 ^ 32 + handle % 2 ^ 32)
    (∃ t fail, exec (.qctlMakeResident die asid handle) s = .next t ∧ done t fail ∧
      (fail = false → residentQ t key = true)) ∧
    (∀ q, s.queue key = some q →
      (q.resident = true ∧ q.home = die ∧ q.handle = handle →
        ∃ t, exec (.qctlEvict die asid handle) s = .next t ∧ done t false ∧ residentQ t key = false ∧
          (q.tasks ≠ [] → key ∈ (t.die die).pending)) ∧
      (¬ (q.resident = true ∧ q.home = die ∧ q.handle = handle) →
        ∃ t, exec (.qctlEvict die asid handle) s = .next t ∧ done t true ∧ t.queue key = some q ∧ t.mem = s.mem)) ∧
    (∀ s1 e p, qctlEntry s die asid handle = (s1, some (e, p)) →
      (∀ q, s1.queue key = some q → q.handle = handle) →
      ∃ t, exec (.qctlRetire die asid handle) s = .next t ∧ done t false ∧ t.queue key = none ∧
        ∀ k i b, (i, some b) ∈ (t.slot k).ports → b.handle = handle → b.asid = asid → b.stale = true) ∧
    (∀ s1, qctlEntry s die asid handle = (s1, none) →
      ∃ t, exec (.qctlRetire die asid handle) s = .next t ∧ done t true ∧ t.mem = s1.mem) ∧
    (∀ v : Word, die < 8 →
      (8 < fieldOf v 3 0 → exec (.sctlWrite die v) s = .next s) ∧
      (fieldOf v 3 0 ≤ 8 → storeWf none s.queues = true → ∃ t, exec (.sctlWrite die v) s = .next t ∧
        t.dreg (0xF00000010008 + die * 0x1000) = (v &&& 0xFF0F) ∧
        residentCount t die ≤ fieldOf v 3 0 * 512))

/-! ### Steps of the part: the homes of split counters -/

/-- R337, R338, R339, R342, R345, R502: at its counter's home a take behind which no units of its cluster are still on the
way is answered in full when the cluster's allowance and what the home lends, at most half a fair share or the value,
cover it; otherwise a round starts where another cluster holds an allowance, and where none does a take is refused with
0, a partial take gets what is there, and a capacity take is parked while its own cluster's allowance is recalled. A home
that lends nothing serves takes from its total. A give is answered once the total holds it. A read, a set and a disarm
start a round, and a request that meets a round joins it.
The model's choices in it: log 71, 72 and 74. -/
def Claim.HomesServeTakes : Prop :=
  ∀ (s : State) (a : Nat) (c : Ctr) (r : CtrReq) (rest : List CtrReq), s.ctr a = some c → c.asked = r :: rest →
    (∀ g ∈ c.gives, g.1 ≠ r.cluster) → (∀ e ∈ c.away, e.1 = r.cluster → e.2 = none) →
    let started (c : Ctr) : Ctr := { c with
      recalling := true
      since := s.cycle
      away := c.away ++ (c.holders.filter (fun h => !c.away.any (fun e => e.1 == h))).map (fun h => (h, none)) }
    let round (c : Ctr) : Ctr := { (started c) with fifo := c.fifo ++ [r] }
    let stored (c : Ctr) : State := { s with ctrs := wr none s.ctrs a (some c) }
    let answered (t : State) (v units : Nat) (applied : Bool) : Prop :=
      (t.slot r.slot).answer = some ⟨word v, 0, a, units, applied⟩ ∧
      (∀ b, (s.slot r.slot).wait = .counter b → (t.slot r.slot).wait = .none)
    let c1 := { c with asked := rest }
    let lends : Prop := c.parked = [] ∧ inTier3 a = false ∧ assisted s (homeOf a % 8 * 3) 3 = false
    (c.recalling = true → exec (.homeTakeRequest a) s = .next (stored { c1 with fifo := c.fifo ++ [r] })) ∧
    (c.recalling = false → 3 ≤ r.kind → r.kind ≤ 5 → exec (.homeTakeRequest a) s = .next (stored (round c1))) ∧
    (c.recalling = false → r.kind = 2 → c.parked = [] → c.rem + lentSum s a c + r.value ≤ 2 ^ 63 - 1 →
      ∃ t, exec (.homeTakeRequest a) s = .next t ∧ t.mem = s.mem ∧ t.ctr a = some { c1 with rem := c.rem + r.value } ∧
        answered t 0 0 true) ∧
    (c.recalling = false → r.kind = 0 ∨ r.kind = 1 ∨ r.kind = 6 → lends →
      let own := ((allowOf s r.cluster a).map Prod.fst).getD 0
      let got := ((allowOf s r.cluster a).map Prod.snd).getD 0
      let hs := addOnce c.holders r.cluster
      let lent := min c.rem (max r.value ((c.rem + 2 * hs.length - 1) / (2 * hs.length)))
      (r.value ≤ own + lent → ∃ t, exec (.homeTakeRequest a) s = .next t ∧ t.mem = s.mem ∧
        t.ctr a = some { c1 with rem := c.rem - lent, holders := hs } ∧
        allowOf t r.cluster a = some (own + lent - r.value, got + lent) ∧
        (r.kind ≤ 1 → answered t r.value r.value false) ∧ (r.kind = 6 → (t.slot r.slot).granted = some a)) ∧
      (own + lent < r.value →
        ((∃ h ∈ c.holders, h ≠ r.cluster) → exec (.homeTakeRequest a) s = .next (stored (round c1))) ∧
        ((∀ h ∈ c.holders, h = r.cluster) →
          (r.kind = 0 → ∃ t, exec (.homeTakeRequest a) s = .next t ∧ t.ctr a = some c1 ∧ answered t 0 0 false) ∧
          (r.kind = 1 → ∃ t, exec (.homeTakeRequest a) s = .next t ∧ t.ctr a = some { c1 with rem := 0 } ∧
            answered t (own + c.rem) (own + c.rem) false) ∧
          (r.kind = 6 → exec (.homeTakeRequest a) s =
            .next (stored { (if c.holders = [] then c1 else started c1) with parked := [r] }))))) ∧
    (c.recalling = false → r.kind = 0 ∨ r.kind = 1 ∨ r.kind = 6 → ¬lends →
      (r.value ≤ c.rem → ∃ t, exec (.homeTakeRequest a) s = .next t ∧ t.mem = s.mem ∧
        t.ctr a = some { c1 with rem := c.rem - r.value } ∧
        (r.kind ≤ 1 → answered t r.value r.value false) ∧ (r.kind = 6 → (t.slot r.slot).granted = some a)) ∧
      (c.rem < r.value → c.holders ≠ [] → exec (.homeTakeRequest a) s = .next (stored (round c1))) ∧
      (c.rem < r.value → c.holders = [] →
        (r.kind = 0 → ∃ t, exec (.homeTakeRequest a) s = .next t ∧ t.ctr a = some c1 ∧ answered t 0 0 false) ∧
        (r.kind = 1 → ∃ t, exec (.homeTakeRequest a) s = .next t ∧ t.ctr a = some { c1 with rem := 0 } ∧
          answered t c.rem c.rem false) ∧
        (r.kind = 6 → exec (.homeTakeRequest a) s = .next (stored { c1 with parked := c.parked ++ [r] }))))

/-- R337, R340, R502: units that reach their home raise the total, unless a round is running or the units that clusters may
still return, those in flight among them, could lift the total above 2^63 - 1: then they join the round; so does the
return of an allowance that a cluster gave up. A parked take is granted one unit when the home has one.
The model's choices in it: log 71 and 73. -/
def Claim.HomesTakeGivesAndGrantParkedTakes : Prop :=
  ∀ (s : State) (a : Nat) (c : Ctr), s.ctr a = some c →
    let stored (c : Ctr) : State := { s with ctrs := wr none s.ctrs a (some c) }
    let lent (c : Ctr) : Nat := (c.holders.map (fun h => ((allowOf s h a).map Prod.snd).getD 0)).sum +
      (c.away.map (fun e => e.2.getD 0)).sum
    (∀ cl n rest, c.gives = (cl, n) :: rest →
      (c.recalling = false → c.rem + lent c + n ≤ 2 ^ 63 - 1 →
        (c.parked = [] → exec (.homeGive a) s = .next (stored { c with gives := rest, rem := c.rem + n })) ∧
        (∀ r, c.parked = [r] → 1 ≤ c.rem + n → ∃ t, exec (.homeGive a) s = .next t ∧
          t.ctr a = some { c with gives := rest, rem := c.rem + n - 1, parked := [] } ∧
          (t.slot r.slot).granted = some a)) ∧
      (c.recalling = true →
        exec (.homeGive a) s = .next (stored { c with gives := rest, fifo := c.fifo ++ [⟨0, 7, n, cl, 0⟩] })) ∧
      (c.recalling = false → 2 ^ 63 - 1 < c.rem + lent c + n → ∃ t c', exec (.homeGive a) s = .next t ∧
        t.ctr a = some c' ∧ c'.recalling = true ∧ c'.rem = c.rem ∧ c'.fifo = c.fifo ++ [⟨0, 7, n, cl, 0⟩])) ∧
    (∀ cl n rest, c.gives = [] → c.away = (cl, some n) :: rest → c.recalling = false → allowOf s cl a = none →
      (∀ e ∈ rest, e.1 ≠ cl) → c.parked = [] →
      let c1 := { c with away := rest, holders := c.holders.filter (· != cl) }
      c.rem + lent c1 + n ≤ 2 ^ 63 - 1 → exec (.homeGive a) s = .next (stored { c1 with rem := c.rem + n })) ∧
    (∀ r rest, c.parked = r :: rest → c.recalling = false →
      (1 ≤ c.rem → ∃ t, exec (.parkedTakeGrant a) s = .next t ∧ t.mem = s.mem ∧
        t.ctr a = some { c with parked := rest, rem := c.rem - 1 } ∧ (t.slot r.slot).granted = some a ∧
        (∀ b, (s.slot r.slot).wait = .counter b → (t.slot r.slot).wait = .none)) ∧
      (c.rem = 0 → exec (.parkedTakeGrant a) s = .next s))

/-- R341, R342, R474: in a round every holder returns its allowance and deletes its entry; one that has not returned 12 µs
after the recall is dropped with what it holds, and not before. When nothing is on its way the requests are served from the total that is then exact, and no cluster
holds an allowance: a take, a partial take, a give that saturates, a read, a set, a disarm that writes the total to the
counter's word, where no protected chunk of the cluster holds that write back.
The model's choices in it: log 73. -/
def Claim.RoundsReachTheirExactPoint : Prop :=
  ∀ (s : State) (a : Nat) (c : Ctr), s.ctr a = some c → c.recalling = true →
    (∀ cl, (cl, none) ∈ c.away →
      (∃ t, exec (.recallMessage a cl) s = .next t ∧ t.mem = s.mem ∧ allowOf t cl a = none ∧
        t.ctr a = some { c with
          rem := c.rem + ((allowOf s cl a).map Prod.fst).getD 0
          away := c.away.erase (cl, none), holders := c.holders.filter (· != cl) }) ∧
      (s.cycle < c.since + 12 * 1600 → exec (.recallHolderTimeout a cl) s = .next s) ∧
      (c.since + 12 * 1600 ≤ s.cycle → ∃ t c' back, exec (.recallHolderTimeout a cl) s = .next t ∧ t.ctr a = some c' ∧
        c'.rem = c.rem ∧ c'.away = c.away.erase (cl, none) ++ back ∧ (∀ e ∈ back, e.2 ≠ none) ∧ cl ∉ c'.holders)) ∧
    (c.away ≠ [] → exec (.recallExactPoint a) s = .next s) ∧
    (c.away = [] → c.parked = [] →
      let c0 := { c with fifo := [], recalling := false, holders := [] }
      (c.fifo = [] → exec (.recallExactPoint a) s = .next { s with ctrs := wr none s.ctrs a (some c0) }) ∧
      (∀ r, c.fifo = [r] → ∃ t, exec (.recallExactPoint a) s = .next t ∧
        let answered (v units : Nat) (applied : Bool := false) : Prop :=
          (t.slot r.slot).answer = some ⟨word v, 0, a, units, applied⟩
        (r.kind = 0 → r.value ≤ c.rem → t.ctr a = some { c0 with rem := c.rem - r.value } ∧ answered r.value r.value) ∧
        (r.kind = 0 → c.rem < r.value → t.ctr a = some c0 ∧ answered 0 0) ∧
        (r.kind = 1 → t.ctr a = some { c0 with rem := c.rem - min r.value c.rem } ∧
          answered (min r.value c.rem) (min r.value c.rem)) ∧
        (r.kind = 2 → ∃ c', t.ctr a = some c' ∧ c'.rem = min (c.rem + r.value) (2 ^ 63 - 1) ∧ c'.holders = [] ∧
          answered 0 0 true) ∧
        (r.kind = 7 → ∃ c', t.ctr a = some c' ∧ c'.rem = min (c.rem + r.value) (2 ^ 63 - 1) ∧ c'.holders = []) ∧
        (r.kind = 3 → t.ctr a = some c0 ∧ answered c.rem 0) ∧
        (r.kind = 4 → t.ctr a = some { c0 with rem := r.value } ∧ answered c.rem 0 true) ∧
        (r.kind = 5 → heldByProtected s r.slot a 8 = false → t.ctr a = none ∧ t.le a 8 = c.rem % 2 ^ 64 ∧ answered c.rem 0 true) ∧
        (r.kind = 6 → 1 ≤ c.rem → t.ctr a = some { c0 with rem := c.rem - 1 } ∧
          (t.slot r.slot).granted = some a)))

/-- A home serves takes and gives and grants the parked ones, and a recall round reaches its exact point. Each part
above says which rules. -/
def Obligations.HomesAndRecallsKeepCounters : Prop :=
  Claim.HomesServeTakes ∧ Claim.HomesTakeGivesAndGrantParkedTakes ∧ Claim.RoundsReachTheirExactPoint


/-! ### Steps of the part: the hod engines -/

/-- R351, R353, R468, R477: a command of a binding without a held record starts when its handle still stands and its record,
where it has one, is well formed; one
whose handle is stale completes with status 1 and no byte moved, and one whose record is malformed with status 3 and the
address of the record.
The model's choices in it: log 86 and 89. -/
def Obligations.EngineCommandsStartOrFail : Prop :=
  ∀ (s : State) (e : Nat) (c : Cmd), (s.engine e).fly = [c] → (s.engine e).cmds = [] → (s.engine e).tiles = [] →
    c.begun = false → c.tile = none → bindingHeld (s.engine e) c = false →
    let s1 := engineNow s e
    let step : Instr := match c.code with
      | 0 => .hcpy e | 1 => .hcpyt e | 2 => .hgth e | 3 => .hsct e | 4 => .hfil e | 5 => .hred e | _ => .hsig e
    let recorded (t : State) (status : Nat) (addr : Word) : Prop := ∃ c', (t.engine e).fly = [] ∧
      (t.engine e).done = (s.engine e).done ++
        [⟨word (c.pos * 65536 + c.fields.tag * 256 + status * 16 + c.fields.cmd), addr, c'⟩]
    c.code ≤ 6 →
    (handleLive s1 e c c.handle 4 = none → ∃ t, exec step s = .next t ∧ t.mem = s.mem ∧ recorded t 1 0) ∧
    (handleLive s1 e c c.handle 4 ≠ none →
      (c.code = 0 ∨ c.code = 6 → ∃ t, exec step s = .next t ∧ t.mem = s.mem ∧
        (t.engine e).fly = [{ c with rec512 := 2 ^ 512 }]) ∧
      (c.code = 4 → ∃ t, exec step s = .next t ∧ t.mem = s.mem ∧
        (t.engine e).fly = [{ c with rec512 := c.fields.mva % 2 ^ 32 + 2 ^ 512 }]) ∧
      (∀ s2 bs, c.code = 1 ∨ c.code = 2 ∨ c.code = 3 ∨ c.code = 5 → sideRead s1 e c c.memSide .start 64 = (s2, .inl bs) →
        SameWork (s2.engine e) (s1.engine e) →
        let c1 := { c with rec512 := ofLe bs + 2 ^ 512 }
        (recFault c1 = none → ∃ t, exec step s = .next t ∧ t.mem = s2.mem ∧ (t.engine e).fly = [c1]) ∧
        (∀ r, recFault c1 = some r →
          ∃ t, exec step s = .next t ∧ recorded t 3 c.memSide.va)))

/-- R348, R352, R354 to R358: the last run of a command puts its bytes at their destination and nowhere else, and the command
completes with status 0 and the bytes moved: a copy between memory and a window, a row of a tensor copy at its strides, an
element of a gather or scatter at its index, a piece of a fill with its pattern (for a fill of memory, the four bytes at its
window offset), an element of a reduction with its sum,
the tile of a job card. Where every side lies in a window that the command's process owns, the run takes place.
The model's choices in it: log 86, 88 and 89. -/
def Obligations.EnginesMoveBytes : Prop :=
  ∀ (s : State) (e : Nat) (c : Cmd), EngineHas s e c → c.fields.sig = false →
    let s1 := engineNow s e
    let left := c.total - c.pos
    let completed (t : State) : Prop := (t.engine e).fly = [] ∧ ∃ c', (t.engine e).done = (s.engine e).done ++
      [⟨word (c.total * 65536 + c.fields.tag * 256 + c.fields.cmd), 0, c'⟩]
    let copies (i : Instr) (src dst : Side) : Prop := ∀ s2 s3 bs l, 0 < left → left ≤ 4096 →
      InPage src left → InPage dst left → sideRead s1 e c src .source left = (s2, .inl bs) → bs.length = left →
      sideLoc s2 e c dst .dest = (s3, .inl l) → l.kind ≤ 1 → SameWork (s3.engine e) (s1.engine e) →
      ∃ t, exec i s = .next t ∧ Placed s3 t l bs ∧ completed t
    let live (s : State) : Prop := c.pos = 0 ∨ handleLive s e c c.handle 4 ≠ none
    c.total = c.pos + left →
    (c.tile = none →
      (c.code = 0 → live s1 →
        let m := c.memSide.plus c.pos
        let w := c.winSide.plus c.pos
        if c.fields.dir then copies (.hcpy e) w m else copies (.hcpy e) m w) ∧
      (∀ row, c.code = 1 → c.pos = row * c.f 151 128 → left = c.f 151 128 → live s1 →
        copies (.hcpyt e) ((recSide (c.f 152 152 = 1) (c.f 63 0)).plus (rowOffset c 208 row))
          ((recSide (c.f 153 153 = 1) (c.f 127 64)).plus (rowOffset c 304 row))) ∧
      (∀ i s2 ib, c.code = 2 ∨ c.code = 3 → c.pos = i * c.elemSize → left = c.elemSize → left ≤ 4096 →
        c.elem = none →
        sideRead s1 e c ((recSide (c.f 233 233 = 1) (c.f 127 64)).plus (i * c.indexSize : Nat)) .index c.indexSize
          = (s2, .inl ib) → live s2 →
        let cell : Side := ⟨none, (c.f 63 0 + ofLe ib * c.elemSize : Nat)⟩
        let own := (recSide (c.f 234 234 = 1) (c.f 191 128)).plus c.pos
        let src := if c.code = 2 then cell else own
        let dst := if c.code = 2 then own else cell
        ∀ s3 s4 bs l, InPage src left → InPage dst left → sideRead s2 e c src .source left = (s3, .inl bs) →
          bs.length = left → sideLoc s3 e c dst .dest = (s4, .inl l) → l.kind ≤ 1 → SameWork (s4.engine e) (s1.engine e) →
          ∃ t, exec (if c.code = 2 then .hgth e else .hsct e) s = .next t ∧ Placed s4 t l bs ∧ completed t) ∧
      (c.code = 4 →
        let dst := (if c.fields.dir then c.memSide else c.winSide).plus c.pos
        let fills (s0 : State) (pattern : List Byte) : Prop := live s0 → ∀ s2 l, 0 < left → left ≤ 4096 → InPage dst left →
          sideLoc s0 e c dst .dest = (s2, .inl l) → l.kind ≤ 1 → SameWork (s2.engine e) (s1.engine e) →
          ∃ t, exec (.hfil e) s = .next t ∧ completed t ∧
            Placed s2 t l ((upFrom c.pos left).map (fun i => pattern.getD (i % 4) 0))
        (c.fields.dir = false ∨ c.pos ≠ 0 → fills s1 (toLe 4 c.rec512)) ∧
        (c.fields.dir = true → c.pos = 0 → ∀ s0 bs, sideRead s1 e c c.winSide .source 4 = (s0, .inl bs) → bs.length = 4 →
          fills s0 bs)) ∧
      (c.code = 5 → left = c.redSize → live s1 →
        let src := (recSide (c.f 153 153 = 1) (c.f 63 0)).plus c.pos
        let dst := (recSide (c.f 154 154 = 1) (c.f 127 64)).plus c.pos
        ∀ s2 s3 s4 new old l, InPage src left → InPage dst left → sideRead s1 e c src .source left = (s2, .inl new) →
          sideRead s2 e c dst .sum left = (s3, .inl old) → sideLoc s3 e c dst .dest = (s4, .inl l) → l.kind ≤ 1 →
          SameWork (s4.engine e) (s1.engine e) →
          ∃ t, exec (.hred e) s = .next t ∧ completed t ∧
            Placed s4 t l (toLe left (redSum c (ofLe old) (ofLe new))))) ∧
    (∀ key seq, c.tile = some (key, seq) →
      let src : Side := ⟨none, c.lo.toNat + c.pos⟩
      let dst : Side := ⟨some (c.hi.toNat / 2 ^ 58), (c.hi.toNat / 2 ^ 32 % 2 ^ 26 : Nat) + c.pos⟩
      ∀ s2 s3 bs l q, 0 < left → left ≤ 4096 → InPage src left → InPage dst left →
        sideRead s1 e c src .source left = (s2, .inl bs) → bs.length = left → sideLoc s2 e c dst .dest = (s3, .inl l) →
        l.kind = 1 → SameWork (s3.engine e) (s1.engine e) → NoLog s3 → s3.queue key = some q →
        ∃ t, exec (.jobCardTile e) s = .next t ∧ Placed s3 t l bs ∧ (t.engine e).fly = [] ∧
          ∀ q', t.queue key = some q' → ∀ u ∈ q'.tasks, u.seq = seq →
            ∃ v ∈ q.tasks, v.seq = seq ∧ u.tiles = v.tiles - 1) ∧
    (c.pos = 0 → 0 < left → left ≤ 4096 → (∀ p ∈ (s.engine e).pages, p.cmd ≠ c.seq) →
      let moves (i : Instr) (src dst : Side) (done : State → Prop) : Prop := ∀ ks kd,
        InPage src left → InPage dst left → InOwnWindow s e c src ks → InOwnWindow s e c dst kd →
        badByte s ks left = none →
        ∃ t, exec i s = .next t ∧ done t ∧ (∀ n < left, byteAt t (kd + n) = byteAt s (ks + n)) ∧
          ∀ a, a < kd ∨ kd + left ≤ a → byteAt t a = byteAt s a
      (c.tile = none →
        (c.code = 0 → if c.fields.dir then moves (.hcpy e) c.winSide c.memSide completed
          else moves (.hcpy e) c.memSide c.winSide completed) ∧
        (c.code = 1 → left = c.f 151 128 → moves (.hcpyt e) (recSide (c.f 152 152 = 1) (c.f 63 0))
          (recSide (c.f 153 153 = 1) (c.f 127 64)) completed) ∧
        (∀ ki, c.code = 2 ∨ c.code = 3 → left = c.elemSize → c.elem = none →
          InOwnWindow s e c (recSide (c.f 233 233 = 1) (c.f 127 64)) ki → badByte s ki c.indexSize = none →
          let cell : Side := ⟨none, (c.f 63 0 + s.le ki c.indexSize * c.elemSize : Nat)⟩
          let own := recSide (c.f 234 234 = 1) (c.f 191 128)
          if c.code = 2 then moves (.hgth e) cell own completed else moves (.hsct e) own cell completed) ∧
        (∀ kd, c.code = 4 → c.fields.dir = false → InPage c.winSide left → InOwnWindow s e c c.winSide kd →
          ∃ t, exec (.hfil e) s = .next t ∧ completed t ∧
            (∀ n < left, byteAt t (kd + n) = (toLe 4 c.rec512).getD (n % 4) 0) ∧
            ∀ a, a < kd ∨ kd + left ≤ a → byteAt t a = byteAt s a) ∧
        (∀ ks kd, c.code = 5 → left = c.redSize →
          let src := recSide (c.f 153 153 = 1) (c.f 63 0)
          let dst := recSide (c.f 154 154 = 1) (c.f 127 64)
          InPage src left → InPage dst left → InOwnWindow s e c src ks → InOwnWindow s e c dst kd →
          badByte s ks left = none → badByte s kd left = none →
          ∃ t, exec (.hred e) s = .next t ∧ completed t ∧ t.le kd left = redSum c (s.le kd left) (s.le ks left) ∧
            ∀ a, a < kd ∨ kd + left ≤ a → byteAt t a = byteAt s a)) ∧
      (∀ key seq, c.tile = some (key, seq) → s.queue key = none →
        moves (.jobCardTile e) ⟨none, c.lo.toNat⟩
          ⟨some (c.hi.toNat / 2 ^ 58), (c.hi.toNat / 2 ^ 32 % 2 ^ 26 : Nat)⟩ (fun t => (t.engine e).fly = [])))

/-- R237, R348, R249, R238, R351: HSIG brings its bytes, and with dir one arrival, to the barrier word of its window offset and
completes; a completed record joins its result queue when that has one of its 64 places free, is held while it has none, and
goes nowhere when the binding names no queue; one behind a held record of its binding is held too; a held record is placed
when a place is free.
The model's choices in it: log 61. -/
def Obligations.EnginesSignalAndReport : Prop :=
  ∀ (s : State) (e : Nat),
    (∀ c : Cmd, EngineHas s e c → c.code = 6 → c.tile = none → c.pos = 0 →
      let f := c.fields
      let key := winKey f.cluster f.off
      let w := barRead s key
      w.bad = false → w.arrivals + b2n f.dir ≤ 65535 → w.bytes + f.len ≤ 2 ^ 56 - 1 →
      ∃ t, exec (.hsig e) s = .next t ∧
        barRead t key = barAdvance { w with arrivals := w.arrivals + b2n f.dir, bytes := w.bytes + f.len } ∧
        (t.engine e).fly = [] ∧
        (t.engine e).done = (s.engine e).done ++ [⟨word (f.tag * 256 + f.cmd), 0, c⟩] ∧
        ∀ a, a < key ∨ key + 32 ≤ a → byteAt t a = byteAt s a) ∧
    (∀ (r : ResultRec),
      let h := fieldOf r.cmd.opt 63 32
      let key := resultKey r.cmd.asid h
      (∀ rest, (s.engine e).done = r :: rest →
        let s1 := s.onEngine e (fun y => { y with done := rest })
        (bindingHeld (s.engine e) r.cmd = false → h = 0 → exec (.engineCommandComplete e) s = .next s1) ∧
        (bindingHeld (s.engine e) r.cmd = true → exec (.engineCommandComplete e) s =
          .next (s1.onEngine e (fun y => { y with stuck := y.stuck ++ [r] }))) ∧
        (bindingHeld (s.engine e) r.cmd = false → h ≠ 0 → handleLive s1 e r.cmd h 5 ≠ none →
          ((s.resultsOf key).length < 64 → exec (.engineCommandComplete e) s =
            .next (s1.putResults key (s.resultsOf key ++ [(r.lo, r.hi)]))) ∧
          (64 ≤ (s.resultsOf key).length → exec (.engineCommandComplete e) s =
            .next (s1.onEngine e (fun y => { y with stuck := y.stuck ++ [r] }))))) ∧
      (∀ rest, (s.engine e).stuck = r :: rest → h ≠ 0 → handleLive s e r.cmd h 5 ≠ none →
        (s.resultsOf key).length < 64 → ∃ t, exec (.resultRecordPlace e) s = .next t ∧ t.mem = s.mem ∧
          t.resultsOf key = s.resultsOf key ++ [(r.lo, r.hi)] ∧ (t.engine e).stuck = rest))

/-! ### Steps of the part: memory's homes -/

/-- R281, R294: at its home a read makes a sector that nobody shares exclusive, and otherwise adds the reader to the sharers,
the data of a modified one going to the die cache; a write makes its agent the only sharer and the sector modified, and
squashes the chunks of other clusters that read it; an eviction takes an agent's copy away, and the eviction of a
die-cache line every copy of its four sectors. No byte of a tracked sector changes, but those that the host or a peer writes to
a sector that it owns. What the host or a peer reads leaves the module; outside tier 0 and tier 1 its read is refused and its
write dropped.
The model's choices in it: log 97. -/
def Claim.DirectoryTracksSharers : Prop :=
  ∀ (s : State) (sec agent : Nat),
    (agent < 24 ∨ sharedRange sec = true →
      ∃ t, exec (.directoryRead sec agent) s = .next t ∧ t.mem = s.mem ∧ t.slots = s.slots ∧
      t.output = s.output ++ (if agent < 24 then [] else
        [.data agent sec (rdMany unlistedByte s.mem (64 * sec) 64) (badByte s (64 * sec) 64).isSome]) ∧
      (∀ x ≠ sec, t.dirOf x = s.dirOf x) ∧ agent ∈ (t.dirOf sec).sharers ∧
      ((s.dirOf sec).st = .I → (t.dirOf sec).st = .E ∧ (t.dirOf sec).sharers = [agent]) ∧
      ((s.dirOf sec).st = .S → (t.dirOf sec).st = .S ∧
        (t.dirOf sec).sharers = addOnce (s.dirOf sec).sharers agent) ∧
      ((s.dirOf sec).st = .E ∨ (s.dirOf sec).st = .M → agent ∉ (s.dirOf sec).sharers →
        (t.dirOf sec).st = .S ∧ (t.dirOf sec).sharers = (s.dirOf sec).sharers ++ [agent] ∧
        ((s.dirOf sec).st = .M → (t.dirOf sec).home = some true))) ∧
    (24 ≤ agent → sharedRange sec = false →
      exec (.directoryRead sec agent) s = .next { s with output := s.output ++ [.unsupported agent (64 * sec)] } ∧
      exec (.directoryWriteOwnership sec agent) s = .next s) ∧
    (agent < 24 ∨ sharedRange sec = true →
      ∃ t, exec (.directoryWriteOwnership sec agent) s = .next t ∧ (agent < 24 → t.mem = s.mem) ∧
      (∀ a, a < 64 * sec ∨ 64 * sec + 64 ≤ a → byteAt t a = byteAt s a) ∧
      (t.dirOf sec).st = .M ∧ (t.dirOf sec).sharers = [agent] ∧ (∀ x ≠ sec, t.dirOf x = s.dirOf x) ∧
      ∀ k, Listed s k → clusterOf k ≠ agent → sec ∈ (s.slot k).chunk.rset → (s.slot k).chunk.sure = false →
        (t.slot k).chunk = .empty ∧ (t.slot k).regs = (s.slot k).chunk.ckpt.getD (s.slot k).regs) ∧
    (findSector (s.cluster agent).l1u sec = none →
      ∃ t, exec (.sectorEvict sec agent) s = .next t ∧ t.mem = s.mem ∧ agent ∉ (t.dirOf sec).sharers ∧
        ∀ x ≠ sec, t.dirOf x = s.dirOf x) ∧
    (∀ line, (∀ d, (s.die d).dcu = []) → ∃ t, exec (.dieCacheLineEviction line) s = .next t ∧ t.mem = s.mem ∧
      ∀ x, t.dirOf x = (if x / 4 = line then .none else s.dirOf x))

/-- R282, R453, R454: the dirty bytes of an untracked copy go to the home when a cluster's copy leaves and to memory when the
home's leaves, and no other byte changes. A recall of a frame of the die is taken when none runs, and is refused with fail
otherwise; when it is complete no agent caches a sector of the frame. -/
def Claim.CopiesAreWrittenBack : Prop :=
  ∀ (s : State),
    (∀ sec c u, findSector (s.cluster c).l1u sec = some u →
      ∃ t, exec (.sectorEvict sec c) s = .next t ∧ t.mem = s.mem ∧ findSector (t.cluster c).l1u sec = none ∧
        ∀ i < 64, homeByte t (sec * 64 + i) =
          (if u.dirty.getLsbD i then u.bytes.getD i 0 else (homeSector s sec).getD i 0)) ∧
    (∀ line sec u, sec / 4 = line → findSector (s.die (homeOf (sec * 64))).dcu sec = some u →
      (∀ x, x ≠ sec → findSector (s.die (homeOf (x * 64))).dcu x = none) →
      ∃ t, exec (.dieCacheLineEviction line) s = .next t ∧ findSector (t.die (homeOf (sec * 64))).dcu sec = none ∧
        (∀ i < 64, byteAt t (sec * 64 + i) =
          (if u.dirty.getLsbD i then u.bytes.getD i 0 else byteAt s (sec * 64 + i))) ∧
        ∀ a, a / 64 ≠ sec → byteAt t a = byteAt s a) ∧
    (∀ die (v : Word), v.getLsbD 0 = true →
      let frame := fieldOf v 51 12
      ((s.die die).recalling = none → frameOfDie die frame = true → exec (.frameRecall die v) s =
        .next (s.onDie die (fun d => { d with recalling := some frame, recallFail := false }))) ∧
      ((s.die die).recalling ≠ none ∨ frameOfDie die frame = false → exec (.frameRecall die v) s =
        .next (s.onDie die (fun d => { d with recallFail := true })))) ∧
    (∀ die frame, (s.die die).recalling = some frame →
      ∃ t, exec (.frameRecallComplete die) s = .next t ∧ (t.die die).recalling = none ∧
        ∀ sec, sec / 64 = frame → t.dirOf sec = .none ∧ findSector (t.die (homeOf (sec * 64))).dcu sec = none ∧
          ∀ c < 24, findSector (t.cluster c).l1u sec = none)

/-- The directory tracks who holds a sector, and copies are written back. Each part above says which rules. -/
def Obligations.CachesTrackAndWriteBack : Prop :=
  Claim.DirectoryTracksSharers ∧ Claim.CopiesAreWrittenBack

/-- R287, R288, R392, R455: a page that may move has its bytes copied to its new frame and its entry naming it, and the stores
of open chunks to it and its record follow; the fourth move
between devices within 2 ms settles the page, which after 50 ms may move again; a page that reads poison stays, and so does one for which the
frame is not free. A write of ffadd adds free frames to its tier.
The model's choices in it: log 95, 96 and 167. -/
def Obligations.PagesMoveAndSettle : Prop :=
  (∀ (s : State) (pteA frame tier peer old : Nat),
    let pte := s.le pteA 8
    movable s pteA = some (old, 1) → frame ≠ old → procsOfTable s old = [] →
    (frameUsed s frame 1 = true ∨ frameStacked s frame 1 = true → exec (.pageMove pteA frame tier peer) s = .next s) ∧
    (moveAllowed s old frame tier (decide (peer ≠ 0)) = true → frameUsed s frame 1 = false → frameStacked s frame 1 = false →
    rangeOf (frame * 4096) = rangeOf (frame * 4096 + 4095) →
    (badByte s (old * 4096) 4096 = none → (∀ c, (s.cluster c).l1u = []) → (∀ d, (s.die d).dcu = []) →
      (pteA + 8 ≤ frame * 4096 ∨ frame * 4096 + 4096 ≤ pteA) → pteA % 8 = 0 →
      ∃ t, exec (.pageMove pteA frame tier peer) s = .next t ∧
        (∀ i < 4096, byteAt t (frame * 4096 + i) = byteAt s (old * 4096 + i)) ∧
        bits (t.le pteA 8) 55 16 = frame % 2 ^ 40 ∧ bits (t.le pteA 8) 12 11 = tier ∧
        bits (t.le pteA 8) 10 0 = bits pte 10 0 ∧
        (∀ a, (a < pteA ∨ pteA + 8 ≤ a) → (a < frame * 4096 ∨ frame * 4096 + 4096 ≤ a) → byteAt t a = byteAt s a) ∧
        (peer = 0 → t.moves = s.moves.map (fun m => if m.frame = old then { m with frame := frame } else m)) ∧
        (peer = 0 → ∀ k, Listed s k → (s.slot k).chunk.rset = [] → (t.slot k).chunk.stores.map StoreRec.key =
          (s.slot k).chunk.stores.map (fun r =>
            if old * 4096 ≤ r.key ∧ r.key < old * 4096 + 4096 then frame * 4096 + (r.key - old * 4096) else r.key)) ∧
        (peer ≠ 0 → ∀ m ∈ s.moves, m.frame = old → 3 ≤ (m.times.filter (fun x => s.cycle ≤ x + 2000 * 1600)).length →
          (∀ m' ∈ s.moves, m'.frame = old → m' = m) →
          ∃ m' ∈ t.moves, m'.frame = frame ∧ m'.settledAt = some s.cycle)) ∧
    (∀ b, badByte s (old * 4096) 4096 = some b → ∃ t, exec (.pageMove pteA frame tier peer) s = .next t ∧ t.mem = s.mem ∧
      t.moves = s.moves))) ∧
  (∀ (s : State) (frame : Nat), ∃ t, exec (.settleExpiry frame) s = .next t ∧ t.mem = s.mem ∧
    t.moves = s.moves.map (fun m => match m.settledAt with
      | some c => if m.frame = frame ∧ c + 50000 * 1600 ≤ s.cycle then ⟨frame, [], none, []⟩ else m
      | none => m)) ∧
  (∀ (s : State) (die tier : Nat) (v : Word), ∃ t, exec (.ffaddWrite die tier v) s = .next t ∧ t.mem = s.mem ∧
    rd 0 (t.die die).ffcnt tier = (rd 0 (s.die die).ffcnt tier + v.toNat) % 2 ^ 64)

/-- R456 to R459: the replay task of an orphaned reduction enters its queue when the home has a unit of the queue's capacity,
as a task of the launch of its thread; without a unit, or where the host must bring the queue in, it is tried again after
100 µs, and before its time nothing happens.
The model's choices in it: log 91. -/
def Obligations.ReplayTasksAreEnqueued : Prop :=
  (∀ (s s1 : State) (p : Replay) (e : QEnt) (q : QueueSt),
    let r := p.red
    let handle := fieldOf (s.dreg (orctlA r.asid)) 31 0
    let pr := (rd none s.procs r.asid).getD ⟨0, 0, 0⟩
    let key := queueKey r.asid handle
    let s2 := meetQueue s1 key pr.qtbase pr.ptbase handle e
    s.replays = [p] →
    readEntry { s with replays := [] } (dieOf r.slot * 9216) r.asid pr.ptbase pr.qtbase handle true = (s1, .inl e) →
    e.kind = 0 → s2.queue key = some q →
    (s.cycle < p.due → exec .replayEnqueueRetry s = .next s) ∧
    (p.due ≤ s.cycle →
      (unitInHand s2 q.ctr = true → q.resident = true → (∀ v ∈ q.tasks, v.seq ≤ (s2.die q.home).seq) →
        ∃ t q' u, exec .replayEnqueueRetry s = .next t ∧ t.replays = s2.replays ∧ t.queue key = some q' ∧ u ∈ q'.tasks ∧
          u.seq = (s2.die q.home).seq + 1 ∧ u.launch = r.task.launch ∧
          dsc u.desc 127 64 = r.value.toNat ∧ dsc u.desc 191 128 = r.va.toNat ∧
          dsc u.desc 319 288 = (p.code * 256 + r.sc * 32 + 16 * b2n r.narrow + r.op) % 2 ^ 32) ∧
      (q.resident = true ∧ s2.ctr q.ctr = none ∨ q.resident = false ∧ assisted s2 (q.home * 3) 1 = true →
        exec .replayEnqueueRetry s =
          .next { s2 with replays := s2.replays ++ [{ p with due := s2.cycle + 100 * 1600 }] }))) ∧
  (∀ (s : State) (p : Replay) (e : QEnt) (q : QueueSt),
    let r := p.red
    let handle := fieldOf (s.dreg (orctlA r.asid)) 31 0
    let pr := (rd none s.procs r.asid).getD ⟨0, 0, 0⟩
    let key := queueKey r.asid handle
    s.replays = [p] → p.due ≤ s.cycle → HandleStands s (dieOf r.slot * 9216) r.asid pr.qtbase handle e → e.kind = 0 →
    s.queue key = some q → q.resident = true → q.ptbase = pr.ptbase → unitInHand s q.ctr = true →
    (∀ v ∈ q.tasks, v.seq ≤ (s.die q.home).seq) →
    ∃ t q' u, exec .replayEnqueueRetry s = .next t ∧ t.replays = [] ∧ t.queue key = some q' ∧ u ∈ q'.tasks ∧
      u.seq = (s.die q.home).seq + 1 ∧ u.launch = r.task.launch ∧ dsc u.desc 127 64 = r.value.toNat)

/-! ### Steps of the part: writes of registers -/

/-- R69, R155, R191, R269, R285, R376 to R380: a step that writes a system register leaves the value in its writable bits, and a
refused value changes nothing. ptbase forgets the cached translations of its process, vctx hands the matrix state to a
context of the core with every cell zero, unless a pass of the core waits for its partner, and a lease is covered by the boost pool of its partition.
The model's choices in it: log 25, 142 and 150. -/
def Claim.RegisterWriteStepsSetTheirRegister : Prop :=
  ∀ (s : State) (k : Nat) (v : Word),
    let x := s.slot k
    let c := coreOf k
    let pool := rd 0 s.pool (partOf s (clusterOf k))
    (∃ t, exec (.ptbaseWrite k v) s = .next t ∧ t.mem = s.mem ∧ (t.slot k).regs = x.regs ∧
      (t.slot k).sys = { x.sys with ptbase := v &&& 0xFFFFFFFFFF000 } ∧
      ∀ j, ∀ e ∈ (t.core j).tlb, e.asid ≠ x.asidN) ∧
    (fieldOf v 15 8 < 2 ^ x.vec.split → waitingAt s c = none → ∃ t, exec (.vctxWrite k v) s = .next t ∧ t.mem = s.mem ∧ t.slots = s.slots ∧
      (t.core c).mown = fieldOf v 15 8 ∧ (∀ i, rd 0 (t.core c).acc i = 0 ∧ rd 0 (t.core c).blk i = 0) ∧
      (t.core c).sB = 0) ∧
    (2 ^ x.vec.split ≤ fieldOf v 15 8 ∨ waitingAt s c ≠ none → exec (.vctxWrite k v) s = .next s) ∧
    (let most (w : Word) : Nat := vlmaxOf s k w
      let vecOnly (t : State) (w : Vec) : Prop := t = s.onSlot k (fun y => { y with vec := w.dirtyVec })
      let both (t : State) (w : Vec) (f : Regs → Regs) : Prop :=
        t = s.onSlot k (fun y => { y with vec := w.dirtyVec, regs := f y.regs })
      (v.toNat ≤ most x.vec.vtype → ∃ t, exec (.vectorLengthWrite k 0x010 v) s = .next t ∧
        both t { x.vec with vl := v } (fun r => { r with vl := v })) ∧
      (most x.vec.vtype < v.toNat → exec (.vectorLengthWrite k 0x010 v) s = .next s) ∧
      (vtRefused v = false → x.vec.vl.toNat ≤ most v → ∃ t, exec (.vectorLengthWrite k 0x011 v) s = .next t ∧
        both t { x.vec with vtype := v } (fun r => { r with vtype := v })) ∧
      (vtRefused v = true ∨ most v < x.vec.vl.toNat → exec (.vectorLengthWrite k 0x011 v) s = .next s) ∧
      (∃ t, exec (.vectorLengthWrite k 0x012 v) s = .next t ∧ vecOnly t { x.vec with vstart := v })) ∧
    (∀ reg most, (reg, most) ∈ [(0x018, 128), (0x019, 128), (0x01A, 256)] →
      (v.toNat ≤ most → ∃ t, exec (.tileShapeWrite k reg v) s = .next t ∧ sysGet t k reg = v ∧ t.mem = s.mem ∧
        (t.slot k).regs = x.regs ∧ ∀ r ∈ [0x018, 0x019, 0x01A, 0x01B], r ≠ reg → sysGet t k r = sysGet s k r) ∧
      (most < v.toNat → exec (.tileShapeWrite k reg v) s = .next s)) ∧
    (fieldOf v 9 8 ≠ 3 → tileCodesOk (fieldOf v 9 8) (v.getLsbD 10) (fieldOf v 3 0) (fieldOf v 7 4) = true →
      ∃ t, exec (.tileShapeWrite k 0x01B v) s = .next t ∧ sysGet t k 0x01B = (v &&& 0x7FF)) ∧
    (∃ t, exec (.pwreqWrite k v) s = .next t ∧ (t.slot k).sys.pwreq = (v &&& 0x1FF) ∧ (t.slot k).regs = x.regs ∧
      (t.slot k).sys.lease = x.sys.lease ∧ t.pool = s.pool) ∧
    (let lvl := leaseLvl v
      let time := leaseTime v
      let ok := (lvl = 0 ∨ 6 ≤ lvl) ∧ time ≤ 10000 ∧ (lvl = 0 ↔ time = 0) ∧ lvl ≤ fieldOf x.sys.pwbud 26 24 ∧
        time ≤ fieldOf x.sys.pwbud 23 0
      let weight := if lvl = 7 then 2 else 1;
      (¬ ok → exec (.leaseWrite k v) s = .next s) ∧
      (ok → x.sys.lease = 0 → pool ≤ poolMax →
        (v.getLsbD 62 = true → ∃ t, exec (.leaseWrite k v) s = .next t ∧
          (t.slot k).sys.lease = (v &&& 0x4000000700FFFFFF) ∧ rd 0 t.pool (partOf s (clusterOf k)) = pool) ∧
        (v.getLsbD 62 = false → ∃ t, exec (.leaseWrite k v) s = .next t ∧
          let drawn := min time (pool / weight)
          leaseTime (t.slot k).sys.lease = drawn ∧ (lvl ≠ 0 → leaseLvl (t.slot k).sys.lease = lvl ∧ (t.slot k).sys.lease.getLsbD 62 = true) ∧
          rd 0 t.pool (partOf s (clusterOf k)) = pool - drawn * weight))) ∧
    (let ok := 5 ≤ fieldOf v 26 24 ∧ fieldOf v 23 0 ≤ 10000;
      (¬ ok → exec (.pwbudWrite k v) s = .next s) ∧
      (ok → ∃ t, exec (.pwbudWrite k v) s = .next t ∧ (t.slot k).sys.pwbud = (v &&& 0x7FFFFFF) ∧
        (leaseLvl x.sys.lease ≤ fieldOf v 26 24 → leaseTime x.sys.lease ≤ fieldOf v 23 0 →
          (t.slot k).sys.lease = x.sys.lease ∧ t.pool = s.pool) ∧
        (fieldOf v 26 24 < leaseLvl x.sys.lease ∨ fieldOf v 23 0 < leaseTime x.sys.lease →
          leaseTime (t.slot k).sys.lease ≤ fieldOf v 23 0 ∧ leaseLvl (t.slot k).sys.lease ≤ fieldOf v 26 24))) ∧
    (∀ p, ∃ t, exec (.hmodeWrite p v) s = .next t ∧ t.mem = s.mem ∧ rd 0 t.hmode p = (v &&& 0x7F) ∧
      ∀ j ≠ p, rd 0 t.hmode j = rd 0 s.hmode j)

/-- R8, R75, R315, R371, R372, R384, R385, R426: a write of a device register stores the writable bits, and a pwdef below level 5 or
above 10,000 µs is dropped, as is one of partition 1 while there is one partition; a new frame period counts from the deadlines
still to come; a head that would drive an output in use, or whose control holds a reserved value, keeps its
control register, and setting en starts its frames; ccap follows the host only where power is host-assisted and the cluster
is not throttled. -/
def Claim.DeviceRegistersTakeTheirBits : Prop :=
  ∀ (s : State) (v : Word),
    let isPeriod (a h : Nat) : Prop := h < 4 ∧ a = headA h 0x28
    (∀ a m, plainMask a = some m → devRefused s a v = false → (a < 0xF00000080000 ∨ 0xF000000A0000 ≤ a) →
      (a = 0xF00000031008 → s.modctl.getLsbD 2 = true) →
      let s1 := s.putDreg a (v &&& m)
      ((∀ h, ¬ isPeriod a h) ∨ fieldOf v 23 0 = 0 → exec (.registerWrite a v) s = .next s1) ∧
      (∀ h, isPeriod a h → fieldOf v 23 0 ≠ 0 → exec (.registerWrite a v) s = .next { s1 with
        heads := wr .off s.heads h { s.head h with
          deadline := (s.cycle - (s.head h).t0) / (fieldOf v 23 0 * 1600) + 1 } }) ∧
      s1.dreg a = (v &&& m) ∧ ∀ b ≠ a, s1.dreg b = s.dreg b) ∧
    (s.modctl.getLsbD 2 = false → exec (.registerWrite 0xF00000031008 v) s = .next s) ∧
    (∀ a m, plainMask a = some m → devRefused s a v = true → ∃ t, exec (.registerWrite a v) s = .next t ∧
      ∀ b, t.dreg b = s.dreg b) ∧
    (∀ h < 4,
      let w := v &&& 0xCD
      let inUse := ∃ j < 4, j ≠ h ∧ (s.dreg (headA j 0)).getLsbD 0 = true ∧ (s.dreg (headA j 0)).getLsbD 3 = false ∧
        (s.dreg (headA j 0)).getLsbD 2 = v.getLsbD 2
      let clash := v.getLsbD 0 = true ∧ v.getLsbD 3 = false ∧ inUse
      (fieldOf v 7 6 = 3 ∨ clash → ∃ t, exec (.hctlWrite h v) s = .next t ∧ ∀ b, t.dreg b = s.dreg b) ∧
      (fieldOf v 7 6 ≠ 3 → ¬ clash → ∃ t, exec (.hctlWrite h v) s = .next t ∧ t.dreg (headA h 0) = w ∧ t.mem = s.mem ∧
        t.slots = s.slots ∧
        (v.getLsbD 0 = true → (s.dreg (headA h 0)).getLsbD 0 = false →
          (t.head h).t0 = s.cycle ∧ (t.head h).deadline = 1))) ∧
    (∀ part c, powerCluster s part c = none → exec (.ccapWrite part c v) s = .next s) ∧
    (∀ part c n, n < 24 → (if s.modctl.getLsbD 2 then c < 12 ∧ n = 12 * part + c else part = 0 ∧ n = c) →
      (assisted s n 5 = false → exec (.ccapWrite part c v) s = .next s) ∧
      (assisted s n 5 = true → (s.cluster n).tooHot = false → exec (.ccapWrite part c v) s =
        .next (s.onCluster n (fun y => { y with cap := fieldOf v 8 0, isOpen := v.getLsbD 9 }))))

/-- A write of a special or device register sets the bits that the register has. Each part above says which rules. -/
def Obligations.WritesOfRegistersTakeEffect : Prop :=
  Claim.RegisterWriteStepsSetTheirRegister ∧ Claim.DeviceRegistersTakeTheirBits


/-! ### Steps of the part: the host and bring-up -/

/-- R318, R320, R386, R387, R469, R483: an aligned 64-byte write to the enqueue window of a bound function on a port whose link is
up, for a task queue whose entry admits it, enqueues its descriptor with a unit of the queue's capacity, or is held while the queue is not resident;
any other write is dropped; a held write is dropped after 10 ms. With one partition port 1 stands in for port 0 once the link of
that is down.
The model's choices in it: log 102, 160 and 190. -/
def Obligations.HostWindowWritesEnqueue : Prop :=
  (∀ (s s1 : State) (port fn idx : Nat) (d : BitVec 512) (e : QEnt) (q : QueueSt) (c : Ctr),
    let p := activeFn s port
    let b := s.dreg (fnA p fn)
    let asid := fieldOf b 15 0
    let qt := s.dreg (fnA p fn + 8)
    let pt := s.dreg (fnA p fn + 16)
    let handle := e.f 191 176 * 65536 + idx
    let key := windowKey s1 asid idx qt
    let s2 := meetQueue s1 key qt pt handle e
    s.rdy.getLsbD (40 + port) = true → b.getLsbD 16 = true → fn ≤ 64 → readEntry s 0 asid pt qt idx false = (s1, .inl e) → e.kind = 0 → e.f 165 165 = 1 →
    descOk d = true → s2.queue key = some q →
    (q.resident = false → assisted s2 (q.home * 3) 1 = false → exec (.hostWindowWrite port fn (64 * idx) 64 d) s =
      .next { s2 with heldWrites := s2.heldWrites ++ [⟨p, fn, idx, d, key, s1.cycle, qt, pt, false⟩] }) ∧
    (q.resident = true → dLaunch d = false → s2.ctr q.ctr = some c → c.asid = asid → unitInHand s2 q.ctr = true →
      (∀ v ∈ q.tasks, v.seq ≤ (s2.die q.home).seq) →
      ∃ t q' u, exec (.hostWindowWrite port fn (64 * idx) 64 d) s = .next t ∧ t.queue key = some q' ∧ u ∈ q'.tasks ∧
        u.desc = d ∧ u.seq = (s2.die q.home).seq + 1)) ∧
  (∀ (s : State) (port fn idx : Nat) (d : BitVec 512) (e : QEnt) (q : QueueSt) (c : Ctr),
    let p := activeFn s port
    let b := s.dreg (fnA p fn)
    let asid := fieldOf b 15 0
    let handle := e.f 191 176 * 65536 + idx
    s.rdy.getLsbD (40 + port) = true → b.getLsbD 16 = true → fn ≤ 64 → idx < 65536 →
    HandleStands s 0 asid (s.dreg (fnA p fn + 8)) handle e → e.kind = 0 →
    e.f 165 165 = 1 → descOk d = true → s.queue (queueKey asid handle) = some q → q.resident = true →
    q.qtbase = s.dreg (fnA p fn + 8) → q.ptbase = s.dreg (fnA p fn + 16) →
    dLaunch d = false → s.ctr q.ctr = some c → c.asid = asid → unitInHand s q.ctr = true →
    (∀ v ∈ q.tasks, v.seq ≤ (s.die q.home).seq) →
    ∃ t q' u, exec (.hostWindowWrite port fn (64 * idx) 64 d) s = .next t ∧ t.queue (queueKey asid handle) = some q' ∧
      u ∈ q'.tasks ∧ u.desc = d ∧ u.seq = (s.die q.home).seq + 1) ∧
  (∀ (s : State) (port fn off n : Nat) (d : BitVec 512),
    (s.rdy.getLsbD (40 + port) = false → exec (.hostWindowWrite port fn off n d) s = .next s) ∧
    (n ≠ 64 ∨ off % 64 ≠ 0 ∨ 64 < fn ∨ (s.dreg (fnA (activeFn s port) fn)).getLsbD 16 = false →
      ∃ t, exec (.hostWindowWrite port fn off n d) s = .next t ∧ t.queues = s.queues ∧ t.heldWrites = s.heldWrites)) ∧
  (∀ (s : State) (h : HeldWrite) (rest : List HeldWrite), s.heldWrites = h :: rest →
    (h.since + 10000 * 1600 ≤ s.cycle → ∃ t, exec .heldWindowWriteDrop s = .next t ∧ t.heldWrites = rest ∧
      t.queues = s.queues) ∧
    (rest = [] → s.cycle < h.since + 10000 * 1600 → exec .heldWindowWriteDrop s = .next s))

/-- R389, R390, R483, R484, R8: module reset leaves nothing of what the module held, in start-up mode, with the ready bit of the
root where its image and the module controller's verify, and logs the images that fail; the ports, the bond fabric, a die, a cluster and a head set their bit of rdy as they come
up, each only after what it needs; a unit that has not come up 2 s after the bond fabric trained counts as absent, once, and stays so; the module enters normal mode when every unit present is
ready.
The model's choices in it: log 106, 107 and 156. -/
def Claim.UnitsComeUpInOrder : Prop :=
  ∀ s : State,
    let sets (i : Instr) (n : Nat) : Prop := ∃ t, exec i s = .next t ∧ t.rdy = (s.rdy ||| (1#64 <<< n)) ∧ t.queues = s.queues
    let root := s.rdy.getLsbD 35
    (∃ t, exec .moduleReset s = .next t ∧
      t.rdy = (if Config.imageVerified 0 && Config.imageVerified 1 then 1#64 <<< 35 else 0) ∧ t.modctl = 1 ∧ t.slots = [] ∧ t.mem = [] ∧ t.dev = [] ∧
      t.queues = [] ∧ t.ctrs = [] ∧ t.engines = [] ∧ t.launches = [] ∧ t.dir = [] ∧ t.hmode = [] ∧ t.cycle = 0 ∧
      t.rootLog = s.rootLog ++ [0, 1, 2].filter (fun i => !Config.imageVerified i) ∧
      t.tripKept = s.tripKept ∧ t.retcnt = s.retcnt ∧ ∀ c, (t.core c).owner = none ∧ (t.core c).runq = []) ∧
    (let ports := ∀ i ∈ [40, 41], s.rdy.getLsbD i = true ∨ s.absent.getLsbD i = true;
      (root = true → ports → sets .bondFabricTrained 32) ∧ (root = false ∨ ¬ports → exec .bondFabricTrained s = .next s)) ∧
    (∀ p < 2,
      let turn := p = 0 ∨ s.rdy.getLsbD 32 = true ∨ s.rdy.getLsbD 40 = true ∨ s.absent.getLsbD 40 = true;
      (root = true → turn → sets (.hostPortEnumerated p) (40 + p) ∧
        ∃ t, exec (.hostPortEnumerated p) s = .next t ∧ t.msixHeld = [] ∧
          t.output = s.output ++ s.msixHeld.map (fun v => .msix p v.2.1 v.2.2)) ∧
      (root = false ∨ ¬turn → exec (.hostPortEnumerated p) s = .next s)) ∧
    (∀ d < 8, (s.rdy.getLsbD 32 = true → (s.die d).reachable = true → s.absent.getLsbD (24 + d) = false →
        sets (.dieReady d) (24 + d)) ∧
      (s.rdy.getLsbD 32 = false ∨ s.absent.getLsbD (24 + d) = true → exec (.dieReady d) s = .next s)) ∧
    (∀ c < 24, clusterReadyBit s c = false →
      (s.rdy.getLsbD (24 + c / 3) = true → (s.cluster c).stopped = false → s.absent.getLsbD c = false →
        sets (.clusterReady c) c ∧
        ∃ t, exec (.clusterReady c) s = .next t ∧
          ∀ i < 192, (t.core (192 * c + i)).owner = none ∧ (t.core (192 * c + i)).ready = s.cycle ∧
            ∀ o < 0x40000, byteAt t (winKey c (0x40000 * i + o)) = 0) ∧
      (s.rdy.getLsbD (24 + c / 3) = false ∨ s.absent.getLsbD c = true → exec (.clusterReady c) s = .next s)) ∧
    (∀ h < 4, (root = true → sets (.presentationHeadUsable h) (36 + h)) ∧
      (root = false → exec (.presentationHeadUsable h) s = .next s)) ∧
    (let late := ∃ c, s.bondAt = some c ∧ c + 2000000 * 1600 ≤ s.cycle
      let absent (i : Instr) (n : Nat) : Prop :=
        (late → s.cameUp.getLsbD n = false → s.absent.getLsbD n = false → ∃ t, exec i s = .next t ∧
          t.absent = (s.absent ||| (1#64 <<< n)) ∧ t.rdy = s.rdy) ∧
        (¬ late ∨ s.cameUp.getLsbD n = true ∨ s.absent.getLsbD n = true → exec i s = .next s);
      (∀ d < 8, absent (.bringupTimeout true d) (24 + d)) ∧ ∀ c < 24, absent (.bringupTimeout false c) c) ∧
    (let want : Word := 0x3F9FFFFFFFF &&& ~~~s.absent;
      ((s.rdy &&& want) = want → fieldOf s.modctl 1 0 = 1 → ∃ t, exec .modeNormalEntry s = .next t ∧
        t.modctl = (s.modctl &&& ~~~3) ∧ t.tripKept = false) ∧
      ((s.rdy &&& want) ≠ want ∨ fieldOf s.modctl 1 0 ≠ 1 → exec .modeNormalEntry s = .next s))

/-- R391, R485: modctl takes its three bits, but for a change of the partition while a thread or a resident queue is there,
which is refused. -/
def Claim.ModuleControlKeepsItsPartition : Prop :=
  ∀ (s : State) (v : Word),
    let busy := (∃ e ∈ s.slots, e.2.res ≠ .empty) ∨ (∃ e ∈ s.queues, ∃ q, e.2 = some q ∧ q.resident = true)
    (v.getLsbD 2 = s.modctl.getLsbD 2 ∨ ¬ busy → exec (.modctlWrite v) s = .next { s with modctl := v &&& 7 }) ∧
    (v.getLsbD 2 ≠ s.modctl.getLsbD 2 → busy → ∃ t, exec (.modctlWrite v) s = .next t ∧ t.modctl = s.modctl)

/-- R396, R397, R399: a request over SPDM is answered once the root is ready, by one answer that leaves the module: the algorithms
answer offers RSASSA-4096 and SHA-512, the measurements answer gives the digest of every verified image and modctl; a report
over MCTP leaves while the module controller runs; none of them changes the machine otherwise. How the standards lay
the messages out is the model's free value, and the report's layout its choice.
The model's choices in it: log 109. -/
def Claim.ManagementRequestsAreAnswered : Prop :=
  ∀ (s : State) (port nonce : Nat),
    let verified := [0, 1, 2].filter Config.imageVerified
    let answers (i : Instr) (n : Nat) (algorithms : List Algorithm) (digests : List (BitVec 512)) (modctl : Option Word) : Prop :=
      (s.rdy.getLsbD 35 = true → ∃ bs, exec i s = .next { s with
        output := s.output ++ [.spdm n port algorithms digests modctl bs], free := s.free + 1 }) ∧
      (s.rdy.getLsbD 35 = false → exec i s = .next s)
    answers (.getVersion port) 0 [] [] none ∧ answers (.getCapabilities port) 1 [] [] none ∧
    answers (.negotiateAlgorithms port) 2 [.rsassa4096, .sha512] [] none ∧ answers (.getDigests port) 3 [] [] none ∧
    answers (.getCertificate port) 4 [] [] none ∧ answers (.challenge port nonce) 5 [] [] none ∧
    answers (.getMeasurements port) 6 [] (verified.map Config.imageDigest) (some s.modctl) ∧
    (controllerRuns s = true → ∃ bs, exec .mctpReport s = .next { s with output := s.output ++ [.message 8 bs] }) ∧
    (controllerRuns s = false → exec .mctpReport s = .next s)

/-- The units come up in order, module control keeps its partition, and the management port answers. Each part above
says which rules. -/
def Obligations.BringUpAndManagement : Prop :=
  Claim.UnitsComeUpInOrder ∧ Claim.ModuleControlKeepsItsPartition ∧ Claim.ManagementRequestsAreAnswered


/-! ### Steps of the part: power and temperature -/

/-- R381, R494, R495: a droop above 30 mV lowers the step of its cluster by 8, above 60 mV to 8; a rail current above 1900 A holds
every step at 16 or below, and one above 2100 A puts every step at 8 and every cap at 0; a step rises by 8 after its calm
time while nothing holds it; a cluster above 110 °C runs at step 8, cap 0, closed, until it is below 100 °C. -/
def Claim.StepsFollowDroopCurrentAndHeat : Prop :=
  ∀ (s : State) (c x : Nat),
    let on (f : ClusterSt → ClusterSt) : State := s.onCluster c f
    (exec (.droopDetected c x) s = .next (if x ≤ 30 then s
      else on (fun y => { y with step := if 60 < x then 8 else max 8 (y.step - 8), calm := s.cycle }))) ∧
    (x ≤ 1900 → exec (.railMonitorHold x) s = .next s) ∧
    (1900 < x → ∃ t, exec (.railMonitorHold x) s = .next t ∧ t.mem = s.mem ∧ t.slots = s.slots ∧ t.railHold = true ∧
      ∀ j < 24, t.cluster j = { s.cluster j with step := min (s.cluster j).step 16 }) ∧
    (x ≤ 2100 → exec (.railOvercurrent x) s = .next s) ∧
    (2100 < x → ∃ t, exec (.railOvercurrent x) s = .next t ∧ t.mem = s.mem ∧ t.slots = s.slots ∧
      ∀ j < 24, t.cluster j = { s.cluster j with step := 8, cap := 0, calm := s.cycle }) ∧
    (s.railHold = false → (s.cluster c).tooHot = false → (s.cluster c).step < 32 → (s.cluster c).calm + 2048 ≤ s.cycle →
      exec (.stepRise c) s = .next (on (fun y => { y with step := y.step + 8, calm := s.cycle }))) ∧
    (110 < x → exec (.clusterOvertemp c x) s =
      .next (on (fun y => { y with tooHot := true, step := 8, cap := 0, isOpen := false }))) ∧
    (x ≤ 110 → exec (.clusterOvertemp c x) s = .next s) ∧
    (x < 100 → (s.cluster c).tooHot = true → exec (.overtempClear c x) s =
      .next (on (fun y => { y with tooHot := false, calm := s.cycle }))) ∧
    (100 ≤ x → exec (.overtempClear c x) s = .next s)

/-- R494, R495, R428, R429: above 120 °C a cluster stops and its bit of rdy clears, and below 95 °C it may come up again; a power
trip clears every bit of rdy, stops every cluster and is recorded in the module controller; in both the threads that it
concerns are gone without a trap. -/
def Claim.TripsStopAndDiscard : Prop :=
  ∀ (s : State) (c x w : Nat),
    (c < 24 → 120 < x → ∃ t, exec (.thermalTrip c x) s = .next t ∧ t.rdy = (s.rdy &&& ~~~(1#64 <<< c)) ∧
      (t.cluster c).stopped = true ∧
      ∀ k, Listed s k → clusterOf k = c → (s.slot k).res = .full ∨ (s.slot k).res = .light → t.slot k = .empty) ∧
    (x ≤ 120 → exec (.thermalTrip c x) s = .next s) ∧
    (x < 95 → (s.cluster c).stopped = true → exec (.thermalTripReturn c x) s = .next (s.onCluster c (fun y =>
      { y with stopped := false, tooHot := false, calm := s.cycle }))) ∧
    (95 ≤ x → exec (.thermalTripReturn c x) s = .next s) ∧
    (2100 < x ∨ 2000 < w → ∃ t, exec (.powerTrip x w) s = .next t ∧ t.rdy = 0 ∧ t.tripKept = true ∧
      (∀ j < 24, (t.cluster j).stopped = true) ∧
      ∀ k, Listed s k → (s.slot k).res = .full ∨ (s.slot k).res = .light → t.slot k = .empty) ∧
    (x ≤ 2100 → w ≤ 2000 → exec (.powerTrip x w) s = .next s)

/-- R382, R383, R494, R380: while the module controller runs, a period of the slow loop keeps the temperatures and the module, package and core-rail
power that it has measured, gives a throttled cluster cap 0 and one above
105 °C at most level 3 in each domain, and opens every ready cluster when the package is at or below 1200 W and none is above
95 °C; the last microsecond of a lease ends it.
The model's choices in it: log 27 and 105. -/
def Claim.SlowLoopKeepsItsLimits : Prop :=
  (∀ (s : State) (m : Meas), controllerRuns s = true → ∃ t, exec (.slowLoopPeriod m) s = .next t ∧ t.mem = s.mem ∧ t.railHold = false ∧
    t.power = [m.module, m.watts, m.rail] ∧ t.rdy = s.rdy ∧
    (∀ c < 24, (t.cluster c).temp = m.temps.getD c (s.cluster c).temp ∧ (t.cluster c).step = (s.cluster c).step ∧
      ((s.cluster c).tooHot = true → (t.cluster c).cap = 0) ∧
      (105 < (t.cluster c).temp → bits (t.cluster c).cap 2 0 ≤ 3 ∧ bits (t.cluster c).cap 5 3 ≤ 3 ∧
        bits (t.cluster c).cap 8 6 ≤ 3) ∧
      (assisted s c 5 = true → (t.cluster c).isOpen = (s.cluster c).isOpen) ∧
      (m.watts ≤ 1200 → (∀ j < 24, m.temps.getD j (s.cluster j).temp ≤ 95) →
        clusterReadyBit s c = true → assisted s c 5 = false → (s.cluster c).tooHot = false →
        (t.cluster c).isOpen = true)) ∧
    (∀ k, (t.slot k).regs = (s.slot k).regs)) ∧
  (∀ (s : State) (m : Meas), controllerRuns s = false → exec (.slowLoopPeriod m) s = .next s) ∧
  (∀ (s : State) (k : Nat), exec (.leaseExpiry k) s = .next (if leaseTime (s.slot k).sys.lease ≤ 1 then
    s.onSlot k (fun y => { y with sys := { y.sys with lease := 0 } }) else s))

/-- The step follows droop, current and heat, a trip stops and discards, and the slow loop keeps its limits. Each part
above says which rules. -/
def Obligations.PowerAndHeatAreKept : Prop :=
  Claim.StepsFollowDroopCurrentAndHeat ∧ Claim.TripsStopAndDiscard ∧ Claim.SlowLoopKeepsItsLimits


/-! ### Steps of the part: faults of the device -/

/-- R428, R429, R430, R495, R496: a watchdog expiry, where a unit that works for the process has made no progress for 100 ms, and
an uncorrected error of a process, stop every thread of the process
without a trap and discard its reductions; an error in memory poisons the 64-bit word that it met.
The model's choices in it: log 110 and 112. -/
def Claim.DeviceFaultsDiscardTheProcess : Prop :=
  ∀ (s : State) (asid : Nat),
    let discarded (i : Instr) : Prop := ∃ t, exec i s = .next t ∧
      (∀ k, Listed s k → (s.slot k).res = .full ∨ (s.slot k).res = .light → (s.slot k).asidN = asid →
        t.slot k = .empty) ∧
      (∀ r ∈ t.reds, r.asid ≠ asid) ∧ (∀ r ∈ t.replays, r.red.asid ≠ asid)
    (watchdogDue s asid = true → discarded (.watchdogExpiry asid)) ∧
    (watchdogDue s asid = false → exec (.watchdogExpiry asid) s = .next s) ∧
    (∀ reason addr, discarded (.uncorrectedError asid reason addr)) ∧
    (∀ addr, routeLost s addr = false → (s.die (homeOf addr)).reachable = true → NoLog s →
      (∀ e ∈ s.slots, e.2.asidN ≠ asid) → (∀ e ∈ s.cores, ∀ p ∈ e.2.runq, p.sys.asid.toNat ≠ asid) →
      ∃ t, exec (.uncorrectedError asid 1 addr) s = .next t ∧ ∀ b, b / 8 = addr / 8 → rd false t.poison b = true)

/-- R496 to R499, R278: a corrected error counts in cecnt of its die up to its limit and is kept in celast; a persistent error
retires the lane, the core or the way that it met, counted in retcnt; lanes that are retired are fenced once every context
of the core has passed a grant point; a cell that a scrub cannot correct makes the block bad.
The model's choices in it: log 113, 114 and 115. -/
def Claim.ErrorsAreCountedAndUnitsRetired : Prop :=
  ∀ (s : State),
    (∀ die info, exec (.correctedError die info) s = .next { s with
      cecnt := wr 0 s.cecnt die (min (2 ^ 32 - 1) (rd 0 s.cecnt die + 1))
      celast := wr 0 s.celast die (info &&& 0xF01FFFFFFFFFFFFF) }) ∧
    (∀ core lane, lane < 32 → (s.core core).lanemap.getLsbD lane = true → liveOf (s.core core) ≠ 1 →
      ∃ t, exec (.persistentError core 0 lane) s = .next t ∧ t.mem = s.mem ∧ t.slots = s.slots ∧
        (t.core core).lanemap = ((s.core core).lanemap &&& ~~~(1#32 <<< lane)) ∧
        bits (rd 0 t.retcnt (core / 576)) 23 16 = min 255 (bits (rd 0 s.retcnt (core / 576)) 23 16 + 1)) ∧
    (∀ core unit, (s.core core).retired = false → ∃ t, exec (.persistentError core 5 unit) s = .next t ∧ t.mem = s.mem ∧
      t.slots = s.slots ∧ (t.core core).retired = true ∧
      bits (rd 0 t.retcnt (core / 576)) 31 24 = min 255 (bits (rd 0 s.retcnt (core / 576)) 31 24 + 1)) ∧
    (∀ core unit kind, kind ∈ [1, 2, 3, 4] → ∃ t, exec (.persistentError core kind unit) s = .next t ∧ t.mem = s.mem ∧
      t.slots = s.slots ∧ bits (rd 0 t.retcnt (core / 576)) 15 0 = min 65535 (bits (rd 0 s.retcnt (core / 576)) 15 0 + 1)) ∧
    (∀ core, (grantsPassed s core = true → ∃ t, exec (.laneSliceFence core) s = .next t ∧ t.mem = s.mem ∧
        (t.core core).fenced = (s.core core).lanemap ∧ ∀ k, (t.slot k).regs = (s.slot k).regs) ∧
      (grantsPassed s core = false → exec (.laneSliceFence core) s = .next s)) ∧
    (∀ core cell, exec (.macroScrub core cell false) s = .next (s.onCore core (fun c => { c with blkBad := true })) ∧
      ∃ t, exec (.macroScrub core cell true) s = .next t ∧ t.cores = s.cores ∧ t.mem = s.mem ∧
        rd 0 t.cecnt (core / 576) = min (2 ^ 32 - 1) (rd 0 s.cecnt (core / 576) + 1))

/-- R393, R394, R479 to R483: a flit that is replayed changes nothing, and a failure of a bond link only marks its time; a link that
drops or trains is kept as such, and so is a peer that no link has reached for 10 ms; a flag of a peer performs once; a die is
out of reach 1 ms after its last failure, loses its ready bits and its queues, and comes back with memory of zeros; a host port
that goes down loses its bit.
The model's choices in it: log 116 and 158. -/
def Obligations.LinksAndRoutesComeAndGo : Prop :=
  ∀ (s : State),
    (∀ link < 12, exec (.birfelFlitReplay link) s = .next s ∧
      (let s1 : State := { s with links := wr none s.links link none };
        (rd none s.links link = none → exec (.birfelLinkDrop link) s = .next s1) ∧
        ∀ peer, rd none s.links link = some peer →
          ((∃ e ∈ s1.links, e.2 = some peer) → exec (.birfelLinkDrop link) s = .next s1) ∧
          ((∀ e ∈ s1.links, e.2 ≠ some peer) →
            exec (.birfelLinkDrop link) s = .next { s1 with peerDown := wr 0 s.peerDown peer s.cycle })) ∧
      ∀ peer, exec (.birfelLinkTrained link peer) s =
        .next { s with links := wr none s.links link (some peer), peersLost := wr false s.peersLost peer false }) ∧
    (∀ die, exec (.bondLinkFailure die) s = .next { s with bondFailed := wr none s.bondFailed die (some s.cycle) }) ∧
    (∀ peer, let late := rd 0 s.peerDown peer + 10000 * 1600 ≤ s.cycle;
      ((∀ e ∈ s.links, e.2 ≠ some peer) → late → ∃ t, exec (.peerUnreachable peer) s = .next t ∧
        rd false t.peersLost peer = true ∧ ∀ j ≠ peer, rd false t.peersLost j = rd false s.peersLost j) ∧
      ((∃ e ∈ s.links, e.2 = some peer) ∨ ¬ late → exec (.peerUnreachable peer) s = .next s)) ∧
    (∀ stream seq addr (v : Word),
      (rd 0 s.streams stream ≤ seq → ∃ t, exec (.peerFlagMessage stream seq addr v) s = .next t ∧ t.le addr 8 = v.toNat ∧
        rd 0 t.streams stream = seq + 1 ∧ ∀ a, a < addr ∨ addr + 8 ≤ a → byteAt t a = byteAt s a) ∧
      (seq < rd 0 s.streams stream → exec (.peerFlagMessage stream seq addr v) s = .next s)) ∧
    (∀ d < 8, (∀ n, rd none s.bondFailed d = some n → s.cycle < n + 1000 * 1600) → exec (.dieUnreachable d) s = .next s) ∧
    (∀ d < 8, ∀ n, (s.die d).reachable = true → rd none s.bondFailed d = some n → n + 1000 * 1600 ≤ s.cycle →
      ∃ t, exec (.dieUnreachable d) s = .next t ∧
      t.rdy = (s.rdy &&& ~~~((1#64 <<< (24 + d)) ||| (7#64 <<< (3 * d)))) ∧ (t.die d).reachable = false ∧
      (t.die d).pending = [] ∧ ∀ key q, t.queue key = some q → q.home = d →
        q.resident = false ∧ q.lost = true) ∧
    (∀ d < 8, (s.die d).reachable = false → ∃ t, exec (.dieReturn d) s = .next t ∧ (t.die d).reachable = true ∧
      t.rdy = (s.rdy ||| ((1#64 <<< (24 + d)) &&& ~~~s.absent)) ∧
      ∀ a, byteAt t a = (if a < 2 ^ 52 ∧ homeOf a = d ∧ (inTier0 a = true ∨ inTier1 a = true) then 0 else byteAt s a)) ∧
    (∀ p < 2, (s.rdy.getLsbD (40 + p) = true → ∃ t, exec (.hostPortLinkDown p) s = .next t ∧
        t.rdy = (s.rdy &&& ~~~(1#64 <<< (40 + p)))) ∧
      (s.rdy.getLsbD (40 + p) = false → exec (.hostPortLinkDown p) s = .next s))

/-! ### Steps of the part: commit units, heads, the translator -/

/-- R224, R225, R249, R486 to R489: a part whose ticket is the next one of its tile is applied, and with its last-part bit the
tile expects the next ticket; a later part is held and an earlier one is a late packet, both without a change of the tile's
expectation; the barrier word of a resolve takes one arrival and its bytes; a stuck tile is shown, once recorded, and tcskip
passes one ticket of the tile shown.
The model's choices in it: log 49, 55 and 164. -/
def Obligations.CommitUnitsTakePartsInOrder : Prop :=
  ∀ (s : State) (c : Nat),
    (∀ p rest, (s.cluster c).packets = p :: rest → NoLog s →
      (∀ u, tileFor (s.cluster c) p = some u → p.ticket < u.expect → ∃ t, exec (.commitPacket c) s = .next t ∧
        (t.cluster c).packets = rest ∧ (t.cluster c).tiles = (s.cluster c).tiles ∧ t.mem = s.mem) ∧
      (tileFor (s.cluster c) p = none → 0 < p.ticket → tileStorage (s.cluster c) + packetData p ≤ 2 ^ 20 →
        ∃ t u, exec (.commitPacket c) s = .next t ∧ (t.cluster c).packets = rest ∧ u ∈ (t.cluster c).tiles ∧
          u.asid = p.asid ∧ u.record = p.record ∧ u.tile = p.tile ∧ u.expect = 0 ∧ u.held = [p] ∧ t.mem = s.mem) ∧
      (∀ bs s1, tileFor (s.cluster c) p = none → p.ticket = 0 → p.kind = 0 → p.mask = [] → p.last = true →
        let s0 := s.onCluster c (fun y => { y with packets := rest, commitAt := s.cycle })
        unitRead s0 c p.asid p.ptbase p.record p.user 64 = (s1, .inl bs) → Rec.reserved ⟨ofLe bs⟩ = false →
        s1.cluster c = s0.cluster c → tileStorage (s.cluster c) ≤ 2 ^ 20 →
        ∃ t u, exec (.commitPacket c) s = .next t ∧ (t.cluster c).packets = rest ∧ u ∈ (t.cluster c).tiles ∧
          u.asid = p.asid ∧ u.record = p.record ∧ u.tile = p.tile ∧ u.expect = 1 ∧ u.held = [] ∧ t.mem = s1.mem)) ∧
    (∀ p rest raw, (s.cluster c).packets = p :: rest → (∀ u ∈ (s.cluster c).tiles, u.record ≠ p.record) → p.ticket = 0 →
      p.kind = 0 → p.mask = [] → p.last = true → OwnBytes s (c * 3072) p.asid p.record 64 raw →
      p.record.toNat % 4096 ≤ 4032 → Rec.reserved ⟨raw⟩ = false → s.poison = [] → tileStorage (s.cluster c) ≤ 2 ^ 20 →
      ∃ t u, exec (.commitPacket c) s = .next t ∧ (t.cluster c).packets = rest ∧ u ∈ (t.cluster c).tiles ∧
        u.asid = p.asid ∧ u.record = p.record ∧ u.tile = p.tile ∧ u.expect = 1 ∧ u.held = [] ∧ t.mem = s.mem) ∧
    (∀ cr rest, s.credits = cr :: rest →
      let w := barRead s cr.key
      w.bad = false → w.arrivals + 1 ≤ 65535 → w.bytes + cr.bytes ≤ 2 ^ 56 - 1 →
      ∃ t, exec .resolveCredit s = .next t ∧ t.credits = rest ∧
        barRead t cr.key = barAdvance { w with arrivals := w.arrivals + 1, bytes := w.bytes + cr.bytes } ∧
        ∀ a, a < cr.key ∨ cr.key + 32 ≤ a → byteAt t a = byteAt s a) ∧
    (∀ u : Tile, (s.cluster c).tiles = [u] → u.held ≠ [] → u.changed + 10000 * 1600 ≤ s.cycle → NoLog s →
      (u.reported = false → ∃ t, exec (.stuckTile c u.tile) s = .next t ∧ t.mem = s.mem ∧
        (t.cluster c).tiles = [{ u with reported := true }] ∧
        (t.cluster c).tcstuck = word (2 ^ 63 + u.expect % 65536 * 2 ^ 32 + u.tile) ∧ (t.cluster c).tcsrec = u.record) ∧
      (u.reported = true → exec (.stuckTile c u.tile) s = .next s)) ∧
    (∀ v : Word, v.getLsbD 63 = false ∨ (s.cluster c).tcstuck.getLsbD 63 = false ∨
      fieldOf v 31 0 ≠ fieldOf (s.cluster c).tcstuck 31 0 → exec (.tcskipWrite c v) s = .next s) ∧
    (∀ (v : Word) (u : Tile) bs s1, v.getLsbD 63 = true → (s.cluster c).tcstuck.getLsbD 63 = true →
      fieldOf v 31 0 = fieldOf (s.cluster c).tcstuck 31 0 → (s.cluster c).tiles = [u] → u.tile = fieldOf v 31 0 →
      u.record = (s.cluster c).tcsrec → u.changed + 10000 * 1600 ≤ s.cycle →
      (∃ h, u.held = [h] ∧ u.expect + 1 < h.ticket) →
      unitRead s c u.asid u.ptbase u.record u.user 64 = (s1, .inl bs) → Rec.reserved ⟨ofLe bs⟩ = false →
      s1.cluster c = s.cluster c → tileStorage (s.cluster c) ≤ 2 ^ 18 →
      ∃ t u', exec (.tcskipWrite c v) s = .next t ∧ (t.cluster c).tiles = [u'] ∧ u'.expect = u.expect + 1 ∧
        u'.held = u.held ∧ u'.tile = u.tile ∧ t.mem = s1.mem) ∧
    (∀ (v : Word) (u : Tile) raw, v.getLsbD 63 = true → (s.cluster c).tcstuck.getLsbD 63 = true →
      fieldOf v 31 0 = fieldOf (s.cluster c).tcstuck 31 0 → (s.cluster c).tiles = [u] → u.tile = fieldOf v 31 0 →
      u.record = (s.cluster c).tcsrec → u.changed + 10000 * 1600 ≤ s.cycle →
      (∃ h, u.held = [h] ∧ u.expect + 1 < h.ticket) → OwnBytes s (c * 3072) u.asid u.record 64 raw →
      u.record.toNat % 4096 ≤ 4032 → Rec.reserved ⟨raw⟩ = false → s.poison = [] → tileStorage (s.cluster c) ≤ 2 ^ 18 →
      ∃ t u', exec (.tcskipWrite c v) s = .next t ∧ (t.cluster c).tiles = [u'] ∧ u'.expect = u.expect + 1 ∧
        u'.held = u.held ∧ u'.tile = u.tile ∧ t.mem = s.mem)

/-- R334, R371 to R373, R492: 2 ms before its deadline, or at once with a shorter period, a head raises its queue. At the deadline
the frame is shown at the head's output, with its size and format, when the counter has reached its target, and the raise ends; otherwise
the last frame is shown again, black before the first, and the miss is counted. A failed read of a shown frame, other than by an
uncorrectable error or a lost route, leaves the head and the queues as they are.
The model's choices in it: log 103 and 168. -/
def Obligations.HeadsShowFramesAtTheirDeadlines : Prop :=
  ∀ (s : State) (h : Nat) (q : QueueSt),
    let ctl := s.dreg (headA h 0)
    let period := fieldOf (s.dreg (headA h 0x28)) 23 0 * 1600
    let at_ := (s.head h).t0 + (s.head h).deadline * period
    let key := queueKey (fieldOf (s.dreg (headA h 0x20)) 47 32) (fieldOf (s.dreg (headA h 0x20)) 31 0)
    let surf := s.dreg (headA h 0x08)
    let size := s.dreg (headA h 0x40)
    let out := b2n (ctl.getLsbD 2)
    let fmt := fieldOf ctl 7 6
    ctl.getLsbD 0 = true → ctl.getLsbD 3 = false → period ≠ 0 → s.queue key = some q →
    (key ∉ (s.head h).raised →
      (at_ ≤ s.cycle + 2000 * 1600 ∨ period < 2000 * 1600 → ∃ t, exec (.headRaise h) s = .next t ∧ t.mem = s.mem ∧
        t.queue key = some { q with raised := true } ∧ (t.head h).raised = (s.head h).raised ++ [key]) ∧
      (s.cycle + 2000 * 1600 < at_ → 2000 * 1600 ≤ period → exec (.headRaise h) s = .next s)) ∧
    (s.cycle < at_ → exec (.headDeadline h) s = .next s) ∧
    (∀ s1 v, at_ ≤ s.cycle → readFlagOf s h = (s1, .ok v) → s1.heads = s.heads → s1.dev = s.dev → s1.queues = s.queues →
      ((s.dreg (headA h 0x18)).toNat ≤ v → (s.head h).raised = [key] → (∀ e ∈ s.heads, e.1 ≠ h → key ∉ e.2.raised) →
        ∃ t, exec (.headDeadline h) s = .next t ∧ t.mem = s1.mem ∧ t.output = s1.output ++ [.frame h out fmt surf size] ∧
        t.queue key = some { q with raised := false } ∧ (t.head h).raised = [] ∧
        (t.head h).taken = (s.head h).taken + 1 ∧ (t.head h).frame = some (surf, size) ∧
        (t.head h).fmt = fmt ∧ (t.head h).deadline = (s.head h).deadline + 1) ∧
      (v < (s.dreg (headA h 0x18)).toNat → ∃ t o, exec (.headDeadline h) s = .next t ∧
        t.output = o ++ [.frame h out (s.head h).fmt ((s.head h).frame.getD (0, 0)).1 ((s.head h).frame.getD (0, 0)).2] ∧
        (t.head h).repeated = (s.head h).repeated + 1 ∧
        (t.head h).frame = (s.head h).frame ∧ (t.head h).deadline = (s.head h).deadline + 1 ∧
        (t.head h).raised = (s.head h).raised)) ∧
    (∀ v, at_ ≤ s.cycle → OwnBytes s 0 (fieldOf (s.dreg (headA h 0x20)) 47 32) (s.dreg (headA h 0x10)) 8 v →
      (s.dreg (headA h 0x18)).toNat ≤ v → ∃ t, exec (.headDeadline h) s = .next t ∧ t.mem = s.mem ∧
        t.output = s.output ++ [.frame h out fmt surf size] ∧ (t.head h).taken = (s.head h).taken + 1 ∧
        (t.head h).frame = some (surf, size) ∧ (t.head h).deadline = (s.head h).deadline + 1) ∧
    (∀ cause reason addr, cause ≠ 0x1C → cause ≠ 0x21 →
      ∃ t, exec (.scanoutReadFault h cause reason addr) s = .next t ∧ t.heads = s.heads ∧ t.queues = s.queues)

/-- R424 to R426, R493: the first record of a cycle goes to the log of the device while a place is free, to the place of its number,
and the count of records grows by one; with no place free the overflow count grows by one.
The model's choices in it: log 100. -/
def Claim.FaultRecordsAreLogged : Prop :=
  ∀ (s : State) (h cause reason addr : Nat),
    let base := (s.dreg dlbaseA).toNat
    let entries := fieldOf (s.dreg (dlbaseA + 8)) 15 0 + 1
    let count := s.le base 8
    let asid := fieldOf (s.dreg (headA h 0x20)) 47 32
    (s.dreg (headA h 0)).getLsbD 0 = true → (s.head h).frame ≠ none → s.dreg (clbaseA asid) = 0 → base ≠ 0 →
    count + 1 < 2 ^ 64 → lateRecs s base = [] → readCause cause = true → cause ≠ 0x1C → cause ≠ 0x21 →
    (count - s.le (base + 8) 8 < entries →
      ∃ t, exec (.scanoutReadFault h cause reason addr) s = .next t ∧
        let place := base + 64 + 64 * (count % entries)
        t.le base 8 = count + 1 ∧ t.le place 8 = addr % 2 ^ 64 ∧ t.le (place + 8) 8 = reason % 256 ∧
        t.le (place + 28) 2 = asid ∧ t.le (place + 30) 1 = cause % 256 ∧ t.le (place + 48) 8 = count ∧
        ∀ a, a < base ∨ (base + 8 ≤ a ∧ a < place) ∨ place + 64 ≤ a → byteAt t a = byteAt s a) ∧
    (entries ≤ count - s.le (base + 8) 8 →
      ∃ t, exec (.scanoutReadFault h cause reason addr) s = .next t ∧
        t.le (base + 16) 8 = (s.le (base + 16) 8 + 1) % 2 ^ 64 ∧
        ∀ a, a < base + 16 ∨ base + 24 ≤ a → byteAt t a = byteAt s a)

/-- A device fault discards its process, errors are counted and retire their unit, and records are logged. Each part
above says which rules. -/
def Obligations.ErrorsAreContained : Prop :=
  Claim.DeviceFaultsDiscardTheProcess ∧ Claim.ErrorsAreCountedAndUnitsRetired ∧ Claim.FaultRecordsAreLogged

/-- R406, R409, R410, R476: a translation that is not in the cache is begun for the first thread that asks for it; a later
thread that asks for the same container waits for it; one whose request or container cannot be read ends.
The model's choices in it: log 120, 122 and 123. -/
def Obligations.TranslationsAreBegunOnce : Prop :=
  ∀ (s s1 : State) (k : Nat) (l : Launch),
    let x := s.slot k
    s.launch x.task.launch = some l → l.isTranslation = true → x.res = .full ∨ x.res = .light →
    (∀ t ∈ s.translations, (t.maker.1, t.maker.2.1) ≠ (k, l.arg) ∧ ∀ w ∈ t.waiting, (w.1, w.2.1) ≠ (k, l.arg)) →
    (∀ s2 r c, readRequest s (clusterOf k) x.asidN x.sys.ptbase l.arg = (s1, some r) →
      readContainer s1 (clusterOf k) x.asidN x.sys.ptbase r = (s2, some c) →
      ((∀ t ∈ s2.translations, ¬ (t.asid = x.asidN ∧ t.container = c ∧ t.split = r.f 263 256 ∧ t.cluster = r.f 271 264)) →
        exec (.translationRequest 0 k) s = .next { s2 with translations := s2.translations ++
          [⟨x.asidN, c, r.f 263 256, r.f 271 264, (k, l.arg, r.raw), [], none⟩] }) ∧
      (∀ t : Translation, s2.translations = [t] → t.asid = x.asidN → t.container = c → t.split = r.f 263 256 →
        t.cluster = r.f 271 264 → t.out = none →
        exec (.translationRequest 0 k) s =
          .next { s2 with translations := [{ t with waiting := t.waiting ++ [(k, l.arg, r.raw)] }] })) ∧
    (readRequest s (clusterOf k) x.asidN x.sys.ptbase l.arg = (s1, none) →
      ∃ t, exec (.translationRequest 0 k) s = .next t ∧ t.slot k = .empty) ∧
    (∀ raw c, OwnBytes s (clusterOf k * 3072) x.asidN l.arg 64 raw → l.arg.toNat % 4096 ≤ 4032 → s.poison = [] →
      let r : Request := ⟨raw⟩
      let n := r.f 127 64
      OwnBytes s (clusterOf k * 3072) x.asidN (word (r.f 63 0)) n c → 0 < n → r.f 63 0 % 4096 + n ≤ 4096 →
      s.translations = [] → exec (.translationRequest 0 k) s = .next { s with translations :=
        [⟨x.asidN, toLe n c, r.f 263 256, r.f 271 264, (k, l.arg, raw), [], none⟩] })

/-! ### The whole machine -/

/-- R82 to R92: no bit of an encoding is dropped: the bytes of every well-formed encoded instruction decode to it, with every
operand at every value, whatever bytes stand behind them. -/
def Obligations.DecodingUndoesEncoding : Prop :=
  ∀ i : Instr, isEncoded i = true → WellFormed i →
    ∃ c, encode i = some c ∧ ∀ rest, decode (c.bytes ++ rest) = some (.instr i, rest)

/-- R79 to R88: words and halfwords written out from the encoding tables decode to the instructions that they stand for, and the
all-ones word and the zero halfword to none. -/
def Obligations.WrittenWordsDecode : Prop :=
  decodeWord 0b00100010000010100000010010000001#32 = .instr (.sysrd ⟨261, 0, 9⟩) ∧
  decodeWord 0b00000001000000000000000110000011#32 = .instr (.fence ⟨4, 0, 0, 3⟩) ∧
  decodeWord 0b11111111111111111111111100000101#32 = .instr (.br ⟨-2⟩) ∧
  decodeWord 0b11111111111111111011001100001001#32 = .instr (.bpn ⟨-3, 6⟩) ∧
  decodeWord 0b00000000010000000111000010001011#32 = .instr (.callr ⟨0, 7, 1⟩) ∧
  decodeWord 0b11111111111101100010010000001101#32 = .instr (.smloop ⟨-5, 2, 8⟩) ∧
  decodeWord 0b11111111111111111111010100001111#32 = .instr (.liw ⟨-1, 10⟩) ∧
  decodeWord 0b00000000000010100010000110010011#32 = .instr (.add ⟨5, 2, 3⟩) ∧
  decodeWord 0b11111111111100000100000110010101#32 = .instr (.addi ⟨-1, 4, 3⟩) ∧
  decodeWord 0b11111111100001100010001010011101#32 = .instr (.st64 ⟨-8, 2, 5⟩) ∧
  decodeWord 0b00000000110000100010000110011111#32 = .instr (.fma ⟨1, 2, 3⟩) ∧
  decodeWord 0b00010011010000100010000110100001#32 = .instr (.amocas ⟨5, 1, 2, 3⟩) ∧
  decodeWord 0b00000000010001000011111000100011#32 = .instr (.qbind ⟨1, 2, 3, 28⟩) ∧
  decodeWord 0b00000110100001100100001010101001#32 = .instr (.barwt ⟨2, 3, 4, 5⟩) ∧
  decodeWord 0b11111111111100100100000110110001#32 = .instr (.setvli ⟨-1, 0, 4, 3⟩) ∧
  decodeWord 0b00001001010001000011001000110011#32 = .instr (.vldseg ⟨5, 2, 3, 4⟩) ∧
  decodeWord 0b10000110010001000100010000110111#32 = .instr (.vamoaddNr ⟨3, 1, 2, 4, 8⟩) ∧
  decodeWord 0b00011100010001100100001010111101#32 = .instr (.vfma ⟨2, 1, 3, 4, 5⟩) ∧
  decodeWord 0b00010010000001001000100001001001#32 = .instr (.tmma ⟨1, 0, 2, 8, 16⟩) ∧
  decodeWord 0b00000000001010011010000101001101#32 = .instr (.repf ⟨0, 1, 2, 3, 4, 2⟩) ∧
  decodeHalf 0b1111100101000100#16 = .instr (.caddi ⟨-1, 5⟩) ∧
  decodeHalf 0b0001100100010000#16 = .instr (.cld ⟨3, 4⟩) ∧
  decodeHalf 0b0001000001011110#16 = .instr (.cvfma ⟨2, 1⟩) ∧
  decodeWord 0b11111111111000001000001000010111#32 = .unallocated 2 ∧
  decodeWord 0xFFFFFFFF#32 = .unallocated 5 ∧
  decodeHalf 0#16 = .unallocated 5

/-- R40, R79, R80, R88: when a slot's turn comes and the code that it fetches decodes to an instruction, the step is that
instruction carried out by the slot; where it decodes to none, the step is its exception. The barrel gives a turn to the
slot that is next, when nothing else moves.
The model's choices in it: log 4 and 162. -/
def Obligations.StepRunsTheDecodedInstruction : Prop :=
  (∀ (s s1 : State) (k : Nat) (rest : List Actor) (f : Fetch), s.agenda = .slot k :: rest → isTranslator s k = false →
    fetchCode (beginTurn { s with agenda := rest } k) k = (s1, .got f) →
    let bytes := match f with
      | .half h => bytesOfHalf h
      | .word w => bytesOfWord w
    (∀ i, decode bytes = some (.instr i, []) → step s = exec i s1) ∧
    (∀ r, decode bytes = some (.unallocated r, []) → step s = exec (.unallocatedEncoding r) s1)) ∧
  (∀ (s s1 : State) (k r l : Nat) (a : Word) (rest : List Actor), s.agenda = .slot k :: rest → isTranslator s k = false →
    fetchCode (beginTurn { s with agenda := rest } k) k = (s1, .bad r l a) →
    step s = exec (.fetchFault r l a.toNat) s1) ∧
  (∀ (s : State) (i : Instr) (rest : List Actor), s.agenda = .event i :: rest → step s = exec i { s with agenda := rest }) ∧
  (∀ (s : State) (core k : Nat) (lent : Bool), s.agenda = [] → timedEvents s = [] → freeEvents s = [] →
    nextTurn s s.turn = some (core, k, lent) →
    let s1 := { s with turn := core + 1 }
    step s = step { (if lent then s1.count k 6 else s1) with agenda := [.slot k] })

/-- R315, R381, R384, R389, R390, R398: right after reset no slot holds a thread, memory reads zero, no counter is armed and no
queue resident; the module is in start-up mode with nothing ready; every cluster has step 32, cap 0x16D and is open, and
agelim, sctl and pwdef hold their reset values.
The model's choices in it: log 1 (memory) and 3 (the step). -/
def Obligations.ResetLeavesTheStatedState : Prop :=
  (∀ k, State.reset.slot k = .empty) ∧ (∀ a, byteAt State.reset a = 0) ∧ (∀ a, State.reset.ctr a = none) ∧
  (∀ q, State.reset.queue q = none) ∧ State.reset.rdy = 0 ∧ State.reset.modctl = 1 ∧
  (∀ c, (State.reset.cluster c).step = 32 ∧ (State.reset.cluster c).cap = 0x16D ∧ (State.reset.cluster c).isOpen = true) ∧
  (∀ p, rd 0 State.reset.hmode p = 0) ∧
  (∀ d < 8, State.reset.dreg (0xF00000010000 + d * 0x1000) = 0x000A0A0A0A0A0A0A ∧
    State.reset.dreg (0xF00000010008 + d * 0x1000) = 0x1408) ∧
  State.reset.dreg 0xF00000030008 = 0x05000000 ∧ State.reset.dreg 0xF00000031008 = 0x05000000

/-- The memory of the machine right after reset is in its canonical form.
The model's choices in it: log 1. -/
def Obligations.InvariantHoldsAtReset : Prop := Inv State.reset

/-- Every step keeps memory in its canonical form: addresses strictly rising, and no entry equal to what an unlisted address
reads as.
The model's choices in it: log 1. -/
def Obligations.EveryStepKeepsTheInvariant : Prop := ∀ s t : State, Inv s → step s = .next t → Inv t

/-- No instruction and no step of the part is refused: an encoded instruction answers a next state for every slot that runs a
thread, and stops where there is none; a step of the part always answers. So the machine goes on from every state in which
what is to issue next issues for a thread.
The model's choices in it: log 163. -/
def Obligations.InstructionsNeverRefuse : Prop :=
  (∀ (i : Instr) (s : State), isEncoded i = true →
    (RunsThread s → ∃ t, exec i s = .next t) ∧ (¬ RunsThread s → exec i s = .fault .emptySlot)) ∧
  (∀ (i : Instr) (s : State), isEncoded i = false → RunsThread s → ∃ t, exec i s = .next t) ∧
  (∀ (i : Instr) (s : State) (r : Refusal), exec i s ≠ .refused r) ∧
  (∀ (s : State) (r : Refusal), step s ≠ .refused r)

/-- R89, R433, R434, R76, R139, R255: an instruction is checked before it has any effect: in user mode a privileged one takes
ecause 0x11 reason 1; a field that must be zero and is not gives 0x12 reason 1; a light thread that names a register it has not
gives 0x12 reason 3; a load or store that is not aligned gives 0x13 reason 1 with its address, an ERET to an odd epc 0x13
reason 2. Each enters the handler with epc at the instruction. -/
def Obligations.ChecksComeBeforeEffects : Prop :=
  ∀ (s : State), NoChunk s → RunsThread s → s.me.vq = [] → s.me.held = [] →
    let traps (i : Instr) (code : Nat) (addr info : Word) : Prop :=
      ∃ t, exec i s = .next t ∧ TrapTaken s t s.cur code addr info s.me.regs.pc
    let pc := s.me.regs.pc
    (s.me.spv = false →
      (∀ x : XF, ∀ i ∈ [Instr.eret x, .halt x, .frsave x, .frload x], traps i 0x11 pc 1)) ∧
    (∀ x : XF, x.a ≠ 0 ∨ x.d ≠ 0 → traps (.trap x) 0x12 pc 1 ∧ traps (.brk x) 0x12 pc 1) ∧
    (∀ x : QF, x.b ≠ 0 ∨ x.a ≠ 0 ∨ x.d ≠ 0 → ∀ i ∈ [Instr.yield x, .exit x], traps i 0x12 pc 1) ∧
    (s.me.light = true →
      (∀ x : TF, (10 ≤ x.a.toNat ∧ x.a.toNat ≤ 30) ∨ (10 ≤ x.b.toNat ∧ x.b.toNat ≤ 30) ∨
          (10 ≤ x.d.toNat ∧ x.d.toNat ≤ 30) →
        ∀ i ∈ [Instr.add x, .sub x, .mul x, .and x, .or x, .xor x, .sll x, .srl x, .sra x], traps i 0x12 pc 3)) ∧
    (∀ (x : IF) (n : Nat) (i : Instr), Ready s [x.a, x.d] →
      (i, n) ∈ [(Instr.ld16 x, 2), (.ld16u x, 2), (.ld32 x, 4), (.ld32u x, 4), (.ld64 x, 8)] →
      let va := s.me.regs.get x.a + x.imm.signExtend 64
      va.toNat % n ≠ 0 → traps i 0x13 va 1) ∧
    (∀ (x : SF) (n : Nat) (i : Instr), Ready s [x.a, x.c] → (i, n) ∈ [(Instr.st16 x, 2), (.st32 x, 4), (.st64 x, 8)] →
      let va := s.me.regs.get x.a + x.imm.signExtend 64
      va.toNat % n ≠ 0 → traps i 0x13 va 0x801) ∧
    (∀ x : XF, s.me.spv = true → x.imm = 0 → x.a = 0 → x.d = 0 → s.me.sys.epc.getLsbD 0 = true →
      traps (.eret x) 0x13 s.me.sys.epc 2)
end

