-- ==== Sys2Proof/Laws/Exec.lean ====
section
/-! SUPPORT. Laws/Exec.lean: which meaning each instruction has, one equation per constructor. -/

namespace Sys2Proof.Machine

theorem exec_trap x (s : State) : exec (.trap x) s = execTrap x s := rfl
theorem exec_eret x (s : State) : exec (.eret x) s = execEret x s := rfl
theorem exec_sysrd x (s : State) : exec (.sysrd x) s = execSysrd x s := rfl
theorem exec_syswr x (s : State) : exec (.syswr x) s = execSyswr x s := rfl
theorem exec_sysset x (s : State) : exec (.sysset x) s = execSysset x s := rfl
theorem exec_sysclr x (s : State) : exec (.sysclr x) s = execSysclr x s := rfl
theorem exec_vsave x (s : State) : exec (.vsave x) s = execVsave x s := rfl
theorem exec_vrstr x (s : State) : exec (.vrstr x) s = execVrstr x s := rfl
theorem exec_asave x (s : State) : exec (.asave x) s = execAsave x s := rfl
theorem exec_arstr x (s : State) : exec (.arstr x) s = execArstr x s := rfl
theorem exec_frsave x (s : State) : exec (.frsave x) s = execFrsave x s := rfl
theorem exec_frload x (s : State) : exec (.frload x) s = execFrload x s := rfl
theorem exec_halt x (s : State) : exec (.halt x) s = execHalt x s := rfl
theorem exec_brk x (s : State) : exec (.brk x) s = execBrk x s := rfl
theorem exec_fence x (s : State) : exec (.fence x) s = execFence x s := rfl
theorem exec_fsmp x (s : State) : exec (.fsmp x) s = execFsmp x s := rfl
theorem exec_chunk x (s : State) : exec (.chunk x) s = execChunk x s := rfl
theorem exec_dcwb x (s : State) : exec (.dcwb x) s = execDcwb x s := rfl
theorem exec_dcinv x (s : State) : exec (.dcinv x) s = execDcinv x s := rfl
theorem exec_icinv x (s : State) : exec (.icinv x) s = execIcinv x s := rfl
theorem exec_ipf x (s : State) : exec (.ipf x) s = execIpf x s := rfl
theorem exec_dpf x (s : State) : exec (.dpf x) s = execDpf x s := rfl
theorem exec_br x (s : State) : exec (.br x) s = execBr x s := rfl
theorem exec_call x (s : State) : exec (.call x) s = execCall x s := rfl
theorem exec_bp x (s : State) : exec (.bp x) s = execBp x s := rfl
theorem exec_bpn x (s : State) : exec (.bpn x) s = execBpn x s := rfl
theorem exec_jr x (s : State) : exec (.jr x) s = execJr x s := rfl
theorem exec_callr x (s : State) : exec (.callr x) s = execCallr x s := rfl
theorem exec_smloop x (s : State) : exec (.smloop x) s = execSmloop x s := rfl
theorem exec_liw x (s : State) : exec (.liw x) s = execLiw x s := rfl
theorem exec_pcadd x (s : State) : exec (.pcadd x) s = execPcadd x s := rfl
theorem exec_add x (s : State) : exec (.add x) s = execAdd x s := rfl
theorem exec_sub x (s : State) : exec (.sub x) s = execSub x s := rfl
theorem exec_mul x (s : State) : exec (.mul x) s = execMul x s := rfl
theorem exec_mulh x (s : State) : exec (.mulh x) s = execMulh x s := rfl
theorem exec_mulhu x (s : State) : exec (.mulhu x) s = execMulhu x s := rfl
theorem exec_div x (s : State) : exec (.div x) s = execDiv x s := rfl
theorem exec_divu x (s : State) : exec (.divu x) s = execDivu x s := rfl
theorem exec_rem x (s : State) : exec (.rem x) s = execRem x s := rfl
theorem exec_remu x (s : State) : exec (.remu x) s = execRemu x s := rfl
theorem exec_and x (s : State) : exec (.and x) s = execAnd x s := rfl
theorem exec_or x (s : State) : exec (.or x) s = execOr x s := rfl
theorem exec_xor x (s : State) : exec (.xor x) s = execXor x s := rfl
theorem exec_sll x (s : State) : exec (.sll x) s = execSll x s := rfl
theorem exec_srl x (s : State) : exec (.srl x) s = execSrl x s := rfl
theorem exec_sra x (s : State) : exec (.sra x) s = execSra x s := rfl
theorem exec_min x (s : State) : exec (.min x) s = execMin x s := rfl
theorem exec_max x (s : State) : exec (.max x) s = execMax x s := rfl
theorem exec_minu x (s : State) : exec (.minu x) s = execMinu x s := rfl
theorem exec_maxu x (s : State) : exec (.maxu x) s = execMaxu x s := rfl
theorem exec_clz x (s : State) : exec (.clz x) s = execClz x s := rfl
theorem exec_ctz x (s : State) : exec (.ctz x) s = execCtz x s := rfl
theorem exec_popc x (s : State) : exec (.popc x) s = execPopc x s := rfl
theorem exec_sel x (s : State) : exec (.sel x) s = execSel x s := rfl
theorem exec_addi x (s : State) : exec (.addi x) s = execAddi x s := rfl
theorem exec_andi x (s : State) : exec (.andi x) s = execAndi x s := rfl
theorem exec_ori x (s : State) : exec (.ori x) s = execOri x s := rfl
theorem exec_xori x (s : State) : exec (.xori x) s = execXori x s := rfl
theorem exec_slli x (s : State) : exec (.slli x) s = execSlli x s := rfl
theorem exec_srli x (s : State) : exec (.srli x) s = execSrli x s := rfl
theorem exec_srai x (s : State) : exec (.srai x) s = execSrai x s := rfl
theorem exec_cmpeq x (s : State) : exec (.cmpeq x) s = execCmpeq x s := rfl
theorem exec_cmpne x (s : State) : exec (.cmpne x) s = execCmpne x s := rfl
theorem exec_cmplt x (s : State) : exec (.cmplt x) s = execCmplt x s := rfl
theorem exec_cmple x (s : State) : exec (.cmple x) s = execCmple x s := rfl
theorem exec_cmpltu x (s : State) : exec (.cmpltu x) s = execCmpltu x s := rfl
theorem exec_cmpleu x (s : State) : exec (.cmpleu x) s = execCmpleu x s := rfl
theorem exec_pand x (s : State) : exec (.pand x) s = execPand x s := rfl
theorem exec_por x (s : State) : exec (.por x) s = execPor x s := rfl
theorem exec_pxor x (s : State) : exec (.pxor x) s = execPxor x s := rfl
theorem exec_pnot x (s : State) : exec (.pnot x) s = execPnot x s := rfl
theorem exec_prd x (s : State) : exec (.prd x) s = execPrd x s := rfl
theorem exec_pwr x (s : State) : exec (.pwr x) s = execPwr x s := rfl
theorem exec_cmpeqi x (s : State) : exec (.cmpeqi x) s = execCmpeqi x s := rfl
theorem exec_cmplti x (s : State) : exec (.cmplti x) s = execCmplti x s := rfl
theorem exec_ld8 x (s : State) : exec (.ld8 x) s = execLd8 x s := rfl
theorem exec_ld8u x (s : State) : exec (.ld8u x) s = execLd8u x s := rfl
theorem exec_ld16 x (s : State) : exec (.ld16 x) s = execLd16 x s := rfl
theorem exec_ld16u x (s : State) : exec (.ld16u x) s = execLd16u x s := rfl
theorem exec_ld32 x (s : State) : exec (.ld32 x) s = execLd32 x s := rfl
theorem exec_ld32u x (s : State) : exec (.ld32u x) s = execLd32u x s := rfl
theorem exec_ld64 x (s : State) : exec (.ld64 x) s = execLd64 x s := rfl
theorem exec_st8 x (s : State) : exec (.st8 x) s = execSt8 x s := rfl
theorem exec_st16 x (s : State) : exec (.st16 x) s = execSt16 x s := rfl
theorem exec_st32 x (s : State) : exec (.st32 x) s = execSt32 x s := rfl
theorem exec_st64 x (s : State) : exec (.st64 x) s = execSt64 x s := rfl
theorem exec_fadd x (s : State) : exec (.fadd x) s = execFadd x s := rfl
theorem exec_fsub x (s : State) : exec (.fsub x) s = execFsub x s := rfl
theorem exec_fmul x (s : State) : exec (.fmul x) s = execFmul x s := rfl
theorem exec_fma x (s : State) : exec (.fma x) s = execFma x s := rfl
theorem exec_fdiv x (s : State) : exec (.fdiv x) s = execFdiv x s := rfl
theorem exec_fsqrt x (s : State) : exec (.fsqrt x) s = execFsqrt x s := rfl
theorem exec_fcmpeq x (s : State) : exec (.fcmpeq x) s = execFcmpeq x s := rfl
theorem exec_fcmplt x (s : State) : exec (.fcmplt x) s = execFcmplt x s := rfl
theorem exec_fcmple x (s : State) : exec (.fcmple x) s = execFcmple x s := rfl
theorem exec_fcmpun x (s : State) : exec (.fcmpun x) s = execFcmpun x s := rfl
theorem exec_fcvtif x (s : State) : exec (.fcvtif x) s = execFcvtif x s := rfl
theorem exec_fcvtfi x (s : State) : exec (.fcvtfi x) s = execFcvtfi x s := rfl
theorem exec_amoadd x (s : State) : exec (.amoadd x) s = execAmoadd x s := rfl
theorem exec_amoand x (s : State) : exec (.amoand x) s = execAmoand x s := rfl
theorem exec_amoor x (s : State) : exec (.amoor x) s = execAmoor x s := rfl
theorem exec_amoxor x (s : State) : exec (.amoxor x) s = execAmoxor x s := rfl
theorem exec_amomin x (s : State) : exec (.amomin x) s = execAmomin x s := rfl
theorem exec_amomax x (s : State) : exec (.amomax x) s = execAmomax x s := rfl
theorem exec_amominu x (s : State) : exec (.amominu x) s = execAmominu x s := rfl
theorem exec_amomaxu x (s : State) : exec (.amomaxu x) s = execAmomaxu x s := rfl
theorem exec_amoswp x (s : State) : exec (.amoswp x) s = execAmoswp x s := rfl
theorem exec_amocas x (s : State) : exec (.amocas x) s = execAmocas x s := rfl
theorem exec_redadd x (s : State) : exec (.redadd x) s = execRedadd x s := rfl
theorem exec_lda x (s : State) : exec (.lda x) s = execLda x s := rfl
theorem exec_stl x (s : State) : exec (.stl x) s = execStl x s := rfl
theorem exec_qbind x (s : State) : exec (.qbind x) s = execQbind x s := rfl
theorem exec_qfree x (s : State) : exec (.qfree x) s = execQfree x s := rfl
theorem exec_qpushn x (s : State) : exec (.qpushn x) s = execQpushn x s := rfl
theorem exec_qpopn x (s : State) : exec (.qpopn x) s = execQpopn x s := rfl
theorem exec_qstat x (s : State) : exec (.qstat x) s = execQstat x s := rfl
theorem exec_tqenq x (s : State) : exec (.tqenq x) s = execTqenq x s := rfl
theorem exec_jcenq x (s : State) : exec (.jcenq x) s = execJcenq x s := rfl
theorem exec_spawn x (s : State) : exec (.spawn x) s = execSpawn x s := rfl
theorem exec_migr x (s : State) : exec (.migr x) s = execMigr x s := rfl
theorem exec_yield x (s : State) : exec (.yield x) s = execYield x s := rfl
theorem exec_exit x (s : State) : exec (.exit x) s = execExit x s := rfl
theorem exec_sleep x (s : State) : exec (.sleep x) s = execSleep x s := rfl
theorem exec_scarm x (s : State) : exec (.scarm x) s = execScarm x s := rfl
theorem exec_sctake x (s : State) : exec (.sctake x) s = execSctake x s := rfl
theorem exec_sctakep x (s : State) : exec (.sctakep x) s = execSctakep x s := rfl
theorem exec_scgive x (s : State) : exec (.scgive x) s = execScgive x s := rfl
theorem exec_scread x (s : State) : exec (.scread x) s = execScread x s := rfl
theorem exec_scset x (s : State) : exec (.scset x) s = execScset x s := rfl
theorem exec_scdsrm x (s : State) : exec (.scdsrm x) s = execScdsrm x s := rfl
theorem exec_barinit x (s : State) : exec (.barinit x) s = execBarinit x s := rfl
theorem exec_bararr x (s : State) : exec (.bararr x) s = execBararr x s := rfl
theorem exec_barexp x (s : State) : exec (.barexp x) s = execBarexp x s := rfl
theorem exec_barwt x (s : State) : exec (.barwt x) s = execBarwt x s := rfl
theorem exec_bartst x (s : State) : exec (.bartst x) s = execBartst x s := rfl
theorem exec_setvl x (s : State) : exec (.setvl x) s = execSetvl x s := rfl
theorem exec_setvli x (s : State) : exec (.setvli x) s = execSetvli x s := rfl
theorem exec_vspan x (s : State) : exec (.vspan x) s = execVspan x s := rfl
theorem exec_vld x (s : State) : exec (.vld x) s = execVld x s := rfl
theorem exec_vlds x (s : State) : exec (.vlds x) s = execVlds x s := rfl
theorem exec_vldg x (s : State) : exec (.vldg x) s = execVldg x s := rfl
theorem exec_vldff x (s : State) : exec (.vldff x) s = execVldff x s := rfl
theorem exec_vldseg x (s : State) : exec (.vldseg x) s = execVldseg x s := rfl
theorem exec_vldb x (s : State) : exec (.vldb x) s = execVldb x s := rfl
theorem exec_vldc x (s : State) : exec (.vldc x) s = execVldc x s := rfl
theorem exec_vst x (s : State) : exec (.vst x) s = execVst x s := rfl
theorem exec_vsts x (s : State) : exec (.vsts x) s = execVsts x s := rfl
theorem exec_vstsc x (s : State) : exec (.vstsc x) s = execVstsc x s := rfl
theorem exec_vstseg x (s : State) : exec (.vstseg x) s = execVstseg x s := rfl
theorem exec_vstb x (s : State) : exec (.vstb x) s = execVstb x s := rfl
theorem exec_vamoadd x (s : State) : exec (.vamoadd x) s = execVamoadd x s := rfl
theorem exec_vamomin x (s : State) : exec (.vamomin x) s = execVamomin x s := rfl
theorem exec_vamomax x (s : State) : exec (.vamomax x) s = execVamomax x s := rfl
theorem exec_vamoand x (s : State) : exec (.vamoand x) s = execVamoand x s := rfl
theorem exec_vamoor x (s : State) : exec (.vamoor x) s = execVamoor x s := rfl
theorem exec_vamoxor x (s : State) : exec (.vamoxor x) s = execVamoxor x s := rfl
theorem exec_vamoswp x (s : State) : exec (.vamoswp x) s = execVamoswp x s := rfl
theorem exec_vamocas x (s : State) : exec (.vamocas x) s = execVamocas x s := rfl
theorem exec_vamoaddNr x (s : State) : exec (.vamoaddNr x) s = execVamoaddNr x s := rfl
theorem exec_vamominNr x (s : State) : exec (.vamominNr x) s = execVamominNr x s := rfl
theorem exec_vamomaxNr x (s : State) : exec (.vamomaxNr x) s = execVamomaxNr x s := rfl
theorem exec_vamoandNr x (s : State) : exec (.vamoandNr x) s = execVamoandNr x s := rfl
theorem exec_vamoorNr x (s : State) : exec (.vamoorNr x) s = execVamoorNr x s := rfl
theorem exec_vamoxorNr x (s : State) : exec (.vamoxorNr x) s = execVamoxorNr x s := rfl
theorem exec_vamoswpNr x (s : State) : exec (.vamoswpNr x) s = execVamoswpNr x s := rfl
theorem exec_vadd x (s : State) : exec (.vadd x) s = execVadd x s := rfl
theorem exec_vsub x (s : State) : exec (.vsub x) s = execVsub x s := rfl
theorem exec_vmul x (s : State) : exec (.vmul x) s = execVmul x s := rfl
theorem exec_vmulh x (s : State) : exec (.vmulh x) s = execVmulh x s := rfl
theorem exec_vmulhu x (s : State) : exec (.vmulhu x) s = execVmulhu x s := rfl
theorem exec_vmacc x (s : State) : exec (.vmacc x) s = execVmacc x s := rfl
theorem exec_vand x (s : State) : exec (.vand x) s = execVand x s := rfl
theorem exec_vor x (s : State) : exec (.vor x) s = execVor x s := rfl
theorem exec_vxor x (s : State) : exec (.vxor x) s = execVxor x s := rfl
theorem exec_vsll x (s : State) : exec (.vsll x) s = execVsll x s := rfl
theorem exec_vsrl x (s : State) : exec (.vsrl x) s = execVsrl x s := rfl
theorem exec_vsra x (s : State) : exec (.vsra x) s = execVsra x s := rfl
theorem exec_vmin x (s : State) : exec (.vmin x) s = execVmin x s := rfl
theorem exec_vmax x (s : State) : exec (.vmax x) s = execVmax x s := rfl
theorem exec_vminu x (s : State) : exec (.vminu x) s = execVminu x s := rfl
theorem exec_vmaxu x (s : State) : exec (.vmaxu x) s = execVmaxu x s := rfl
theorem exec_vsadd x (s : State) : exec (.vsadd x) s = execVsadd x s := rfl
theorem exec_vssub x (s : State) : exec (.vssub x) s = execVssub x s := rfl
theorem exec_vnarrow x (s : State) : exec (.vnarrow x) s = execVnarrow x s := rfl
theorem exec_vwiden x (s : State) : exec (.vwiden x) s = execVwiden x s := rfl
theorem exec_vfadd x (s : State) : exec (.vfadd x) s = execVfadd x s := rfl
theorem exec_vfsub x (s : State) : exec (.vfsub x) s = execVfsub x s := rfl
theorem exec_vfmul x (s : State) : exec (.vfmul x) s = execVfmul x s := rfl
theorem exec_vfma x (s : State) : exec (.vfma x) s = execVfma x s := rfl
theorem exec_vfms x (s : State) : exec (.vfms x) s = execVfms x s := rfl
theorem exec_vfnma x (s : State) : exec (.vfnma x) s = execVfnma x s := rfl
theorem exec_vfmin x (s : State) : exec (.vfmin x) s = execVfmin x s := rfl
theorem exec_vfmax x (s : State) : exec (.vfmax x) s = execVfmax x s := rfl
theorem exec_vfabs x (s : State) : exec (.vfabs x) s = execVfabs x s := rfl
theorem exec_vfneg x (s : State) : exec (.vfneg x) s = execVfneg x s := rfl
theorem exec_vfdiv x (s : State) : exec (.vfdiv x) s = execVfdiv x s := rfl
theorem exec_vfsqrt x (s : State) : exec (.vfsqrt x) s = execVfsqrt x s := rfl
theorem exec_vfrcp x (s : State) : exec (.vfrcp x) s = execVfrcp x s := rfl
theorem exec_vfrsq x (s : State) : exec (.vfrsq x) s = execVfrsq x s := rfl
theorem exec_vfexp2 x (s : State) : exec (.vfexp2 x) s = execVfexp2 x s := rfl
theorem exec_vflog2 x (s : State) : exec (.vflog2 x) s = execVflog2 x s := rfl
theorem exec_vfsin x (s : State) : exec (.vfsin x) s = execVfsin x s := rfl
theorem exec_vfcos x (s : State) : exec (.vfcos x) s = execVfcos x s := rfl
theorem exec_vfcvt x (s : State) : exec (.vfcvt x) s = execVfcvt x s := rfl
theorem exec_vfcvti x (s : State) : exec (.vfcvti x) s = execVfcvti x s := rfl
theorem exec_vfcvtf x (s : State) : exec (.vfcvtf x) s = execVfcvtf x s := rfl
theorem exec_vcmpeq x (s : State) : exec (.vcmpeq x) s = execVcmpeq x s := rfl
theorem exec_vcmpne x (s : State) : exec (.vcmpne x) s = execVcmpne x s := rfl
theorem exec_vcmplt x (s : State) : exec (.vcmplt x) s = execVcmplt x s := rfl
theorem exec_vcmple x (s : State) : exec (.vcmple x) s = execVcmple x s := rfl
theorem exec_vcmpltu x (s : State) : exec (.vcmpltu x) s = execVcmpltu x s := rfl
theorem exec_vcmpleu x (s : State) : exec (.vcmpleu x) s = execVcmpleu x s := rfl
theorem exec_vfcmpeq x (s : State) : exec (.vfcmpeq x) s = execVfcmpeq x s := rfl
theorem exec_vfcmplt x (s : State) : exec (.vfcmplt x) s = execVfcmplt x s := rfl
theorem exec_vfcmple x (s : State) : exec (.vfcmple x) s = execVfcmple x s := rfl
theorem exec_vfcmpun x (s : State) : exec (.vfcmpun x) s = execVfcmpun x s := rfl
theorem exec_mand x (s : State) : exec (.mand x) s = execMand x s := rfl
theorem exec_mor x (s : State) : exec (.mor x) s = execMor x s := rfl
theorem exec_mxor x (s : State) : exec (.mxor x) s = execMxor x s := rfl
theorem exec_mnot x (s : State) : exec (.mnot x) s = execMnot x s := rfl
theorem exec_mffs x (s : State) : exec (.mffs x) s = execMffs x s := rfl
theorem exec_mpop x (s : State) : exec (.mpop x) s = execMpop x s := rfl
theorem exec_mset x (s : State) : exec (.mset x) s = execMset x s := rfl
theorem exec_vidx x (s : State) : exec (.vidx x) s = execVidx x s := rfl
theorem exec_vmsel x (s : State) : exec (.vmsel x) s = execVmsel x s := rfl
theorem exec_vperm x (s : State) : exec (.vperm x) s = execVperm x s := rfl
theorem exec_vslup x (s : State) : exec (.vslup x) s = execVslup x s := rfl
theorem exec_vsldn x (s : State) : exec (.vsldn x) s = execVsldn x s := rfl
theorem exec_vcmpr x (s : State) : exec (.vcmpr x) s = execVcmpr x s := rfl
theorem exec_vexpd x (s : State) : exec (.vexpd x) s = execVexpd x s := rfl
theorem exec_vbcst x (s : State) : exec (.vbcst x) s = execVbcst x s := rfl
theorem exec_vmvxs x (s : State) : exec (.vmvxs x) s = execVmvxs x s := rfl
theorem exec_vmvsx x (s : State) : exec (.vmvsx x) s = execVmvsx x s := rfl
theorem exec_vmov x (s : State) : exec (.vmov x) s = execVmov x s := rfl
theorem exec_vxchg x (s : State) : exec (.vxchg x) s = execVxchg x s := rfl
theorem exec_vkrank x (s : State) : exec (.vkrank x) s = execVkrank x s := rfl
theorem exec_vhist x (s : State) : exec (.vhist x) s = execVhist x s := rfl
theorem exec_vredsum x (s : State) : exec (.vredsum x) s = execVredsum x s := rfl
theorem exec_vredmax x (s : State) : exec (.vredmax x) s = execVredmax x s := rfl
theorem exec_vredmin x (s : State) : exec (.vredmin x) s = execVredmin x s := rfl
theorem exec_vfredo x (s : State) : exec (.vfredo x) s = execVfredo x s := rfl
theorem exec_vfredf x (s : State) : exec (.vfredf x) s = execVfredf x s := rfl
theorem exec_vfredmax x (s : State) : exec (.vfredmax x) s = execVfredmax x s := rfl
theorem exec_vfredmin x (s : State) : exec (.vfredmin x) s = execVfredmin x s := rfl
theorem exec_tset x (s : State) : exec (.tset x) s = execTset x s := rfl
theorem exec_tldb x (s : State) : exec (.tldb x) s = execTldb x s := rfl
theorem exec_tmma x (s : State) : exec (.tmma x) s = execTmma x s := rfl
theorem exec_tmmaf x (s : State) : exec (.tmmaf x) s = execTmmaf x s := rfl
theorem exec_tmmap x (s : State) : exec (.tmmap x) s = execTmmap x s := rfl
theorem exec_tmmapf x (s : State) : exec (.tmmapf x) s = execTmmapf x s := rfl
theorem exec_trda x (s : State) : exec (.trda x) s = execTrda x s := rfl
theorem exec_tzacc x (s : State) : exec (.tzacc x) s = execTzacc x s := rfl
theorem exec_tadda x (s : State) : exec (.tadda x) s = execTadda x s := rfl
theorem exec_mmsx x (s : State) : exec (.mmsx x) s = execMmsx x s := rfl
theorem exec_edge x (s : State) : exec (.edge x) s = execEdge x s := rfl
theorem exec_boxt x (s : State) : exec (.boxt x) s = execBoxt x s := rfl
theorem exec_trit x (s : State) : exec (.trit x) s = execTrit x s := rfl
theorem exec_texf x (s : State) : exec (.texf x) s = execTexf x s := rfl
theorem exec_texq x (s : State) : exec (.texq x) s = execTexq x s := rfl
theorem exec_pxcmt x (s : State) : exec (.pxcmt x) s = execPxcmt x s := rfl
theorem exec_tclr x (s : State) : exec (.tclr x) s = execTclr x s := rfl
theorem exec_trslv x (s : State) : exec (.trslv x) s = execTrslv x s := rfl
theorem exec_repf x (s : State) : exec (.repf x) s = execRepf x s := rfl
theorem exec_cmov x (s : State) : exec (.cmov x) s = execCmov x s := rfl
theorem exec_cli x (s : State) : exec (.cli x) s = execCli x s := rfl
theorem exec_caddi x (s : State) : exec (.caddi x) s = execCaddi x s := rfl
theorem exec_cadd x (s : State) : exec (.cadd x) s = execCadd x s := rfl
theorem exec_csub x (s : State) : exec (.csub x) s = execCsub x s := rfl
theorem exec_cand x (s : State) : exec (.cand x) s = execCand x s := rfl
theorem exec_cslli x (s : State) : exec (.cslli x) s = execCslli x s := rfl
theorem exec_csrli x (s : State) : exec (.csrli x) s = execCsrli x s := rfl
theorem exec_cld x (s : State) : exec (.cld x) s = execCld x s := rfl
theorem exec_cst x (s : State) : exec (.cst x) s = execCst x s := rfl
theorem exec_cbp x (s : State) : exec (.cbp x) s = execCbp x s := rfl
theorem exec_cbpn x (s : State) : exec (.cbpn x) s = execCbpn x s := rfl
theorem exec_cvadd x (s : State) : exec (.cvadd x) s = execCvadd x s := rfl
theorem exec_cvmul x (s : State) : exec (.cvmul x) s = execCvmul x s := rfl
theorem exec_cvfadd x (s : State) : exec (.cvfadd x) s = execCvfadd x s := rfl
theorem exec_cvfma x (s : State) : exec (.cvfma x) s = execCvfma x s := rfl
theorem exec_dispatch cluster (s : State) : exec (.dispatch cluster) s = execDispatch cluster s := rfl
theorem exec_launchCompletion launch (s : State) : exec (.launchCompletion launch) s = execLaunchCompletion launch s := rfl
theorem exec_chunkCommit slot (s : State) : exec (.chunkCommit slot) s = execChunkCommit slot s := rfl
theorem exec_externalClusterWrite cluster sector (s : State) : exec (.externalClusterWrite cluster sector) s = execExternalClusterWrite cluster sector s := rfl
theorem exec_impreciseFaultTrap slot (s : State) : exec (.impreciseFaultTrap slot) s = execImpreciseFaultTrap slot s := rfl
theorem exec_pendingResultArrival slot (s : State) : exec (.pendingResultArrival slot) s = execPendingResultArrival slot s := rfl
theorem exec_loadDataArrival slot (s : State) : exec (.loadDataArrival slot) s = execLoadDataArrival slot s := rfl
theorem exec_spanGrant slot (s : State) : exec (.spanGrant slot) s = execSpanGrant slot s := rfl
theorem exec_icacheFill core (s : State) : exec (.icacheFill core) s = execIcacheFill core s := rfl
theorem exec_migrationArrival slot (s : State) : exec (.migrationArrival slot) s = execMigrationArrival slot s := rfl
theorem exec_runQueueFallback slot (s : State) : exec (.runQueueFallback slot) s = execRunQueueFallback slot s := rfl
theorem exec_popWaitWake slot (s : State) : exec (.popWaitWake slot) s = execPopWaitWake slot s := rfl
theorem exec_capacityWaitWake slot (s : State) : exec (.capacityWaitWake slot) s = execCapacityWaitWake slot s := rfl
theorem exec_preemptionRequest cluster (s : State) : exec (.preemptionRequest cluster) s = execPreemptionRequest cluster s := rfl
theorem exec_timeSliceTrap slot (s : State) : exec (.timeSliceTrap slot) s = execTimeSliceTrap slot s := rfl
theorem exec_hostInterrupt slot (s : State) : exec (.hostInterrupt slot) s = execHostInterrupt slot s := rfl
theorem exec_slotReset slot (s : State) : exec (.slotReset slot) s = execSlotReset slot s := rfl
theorem exec_sleepWake slot (s : State) : exec (.sleepWake slot) s = execSleepWake slot s := rfl
theorem exec_pairPartnerTimeout slot (s : State) : exec (.pairPartnerTimeout slot) s = execPairPartnerTimeout slot s := rfl
theorem exec_agingStep queue seq (s : State) : exec (.agingStep queue seq) s = execAgingStep queue seq s := rfl
theorem exec_gangReservationStart queue (s : State) : exec (.gangReservationStart queue) s = execGangReservationStart queue s := rfl
theorem exec_closedClusterFallback queue (s : State) : exec (.closedClusterFallback queue) s = execClosedClusterFallback queue s := rfl
theorem exec_clusterSteal cluster (s : State) : exec (.clusterSteal cluster) s = execClusterSteal cluster s := rfl
theorem exec_resumeWaitTimeout queue (s : State) : exec (.resumeWaitTimeout queue) s = execResumeWaitTimeout queue s := rfl
theorem exec_homeTakeRequest ctr (s : State) : exec (.homeTakeRequest ctr) s = execHomeTakeRequest ctr s := rfl
theorem exec_homeGive ctr (s : State) : exec (.homeGive ctr) s = execHomeGive ctr s := rfl
theorem exec_recallMessage ctr cluster (s : State) : exec (.recallMessage ctr cluster) s = execRecallMessage ctr cluster s := rfl
theorem exec_recallExactPoint ctr (s : State) : exec (.recallExactPoint ctr) s = execRecallExactPoint ctr s := rfl
theorem exec_parkedTakeGrant ctr (s : State) : exec (.parkedTakeGrant ctr) s = execParkedTakeGrant ctr s := rfl
theorem exec_recallHolderTimeout ctr cluster (s : State) : exec (.recallHolderTimeout ctr cluster) s = execRecallHolderTimeout ctr cluster s := rfl
theorem exec_barwtWake slot (s : State) : exec (.barwtWake slot) s = execBarwtWake slot s := rfl
theorem exec_hcpy engine (s : State) : exec (.hcpy engine) s = execHcpy engine s := rfl
theorem exec_hcpyt engine (s : State) : exec (.hcpyt engine) s = execHcpyt engine s := rfl
theorem exec_hgth engine (s : State) : exec (.hgth engine) s = execHgth engine s := rfl
theorem exec_hsct engine (s : State) : exec (.hsct engine) s = execHsct engine s := rfl
theorem exec_hfil engine (s : State) : exec (.hfil engine) s = execHfil engine s := rfl
theorem exec_hred engine (s : State) : exec (.hred engine) s = execHred engine s := rfl
theorem exec_hsig engine (s : State) : exec (.hsig engine) s = execHsig engine s := rfl
theorem exec_engineCommandComplete engine (s : State) : exec (.engineCommandComplete engine) s = execEngineCommandComplete engine s := rfl
theorem exec_resultRecordPlace engine (s : State) : exec (.resultRecordPlace engine) s = execResultRecordPlace engine s := rfl
theorem exec_jobCardTile engine (s : State) : exec (.jobCardTile engine) s = execJobCardTile engine s := rfl
theorem exec_redaddPerform (s : State) : exec (.redaddPerform) s = execRedaddPerform s := rfl
theorem exec_replayEnqueueRetry (s : State) : exec (.replayEnqueueRetry) s = execReplayEnqueueRetry s := rfl
theorem exec_queueSwapIn queue (s : State) : exec (.queueSwapIn queue) s = execQueueSwapIn queue s := rfl
theorem exec_pendingQueueSwapIn die (s : State) : exec (.pendingQueueSwapIn die) s = execPendingQueueSwapIn die s := rfl
theorem exec_qctlMakeResident die asid handle (s : State) : exec (.qctlMakeResident die asid handle) s = execQctlMakeResident die asid handle s := rfl
theorem exec_qctlEvict die asid handle (s : State) : exec (.qctlEvict die asid handle) s = execQctlEvict die asid handle s := rfl
theorem exec_qctlRetire die asid handle (s : State) : exec (.qctlRetire die asid handle) s = execQctlRetire die asid handle s := rfl
theorem exec_sctlWrite die value (s : State) : exec (.sctlWrite die value) s = execSctlWrite die value s := rfl
theorem exec_hostWindowWrite port fn offset nbytes data (s : State) : exec (.hostWindowWrite port fn offset nbytes data) s = execHostWindowWrite port fn offset nbytes data s := rfl
theorem exec_heldWindowWriteDrop (s : State) : exec (.heldWindowWriteDrop) s = execHeldWindowWriteDrop s := rfl
theorem exec_translationRequest host who (s : State) : exec (.translationRequest host who) s = execTranslationRequest host who s := rfl
theorem exec_pageMove pte frame tier peer (s : State) : exec (.pageMove pte frame tier peer) s = execPageMove pte frame tier peer s := rfl
theorem exec_settleExpiry frame (s : State) : exec (.settleExpiry frame) s = execSettleExpiry frame s := rfl
theorem exec_directoryRead sector agent (s : State) : exec (.directoryRead sector agent) s = execDirectoryRead sector agent s := rfl
theorem exec_directoryWriteOwnership sector agent (s : State) : exec (.directoryWriteOwnership sector agent) s = execDirectoryWriteOwnership sector agent s := rfl
theorem exec_sectorEvict sector agent (s : State) : exec (.sectorEvict sector agent) s = execSectorEvict sector agent s := rfl
theorem exec_dieCacheLineEviction line (s : State) : exec (.dieCacheLineEviction line) s = execDieCacheLineEviction line s := rfl
theorem exec_ptbaseWrite slot value (s : State) : exec (.ptbaseWrite slot value) s = execPtbaseWrite slot value s := rfl
theorem exec_vctxWrite slot value (s : State) : exec (.vctxWrite slot value) s = execVctxWrite slot value s := rfl
theorem exec_vectorLengthWrite slot reg value (s : State) : exec (.vectorLengthWrite slot reg value) s = execVectorLengthWrite slot reg value s := rfl
theorem exec_tileShapeWrite slot reg value (s : State) : exec (.tileShapeWrite slot reg value) s = execTileShapeWrite slot reg value s := rfl
theorem exec_pwreqWrite slot value (s : State) : exec (.pwreqWrite slot value) s = execPwreqWrite slot value s := rfl
theorem exec_leaseWrite slot value (s : State) : exec (.leaseWrite slot value) s = execLeaseWrite slot value s := rfl
theorem exec_pwbudWrite slot value (s : State) : exec (.pwbudWrite slot value) s = execPwbudWrite slot value s := rfl
theorem exec_hmodeWrite part value (s : State) : exec (.hmodeWrite part value) s = execHmodeWrite part value s := rfl
theorem exec_registerWrite addr value (s : State) : exec (.registerWrite addr value) s = execRegisterWrite addr value s := rfl
theorem exec_ffaddWrite die tier value (s : State) : exec (.ffaddWrite die tier value) s = execFfaddWrite die tier value s := rfl
theorem exec_frameRecall die value (s : State) : exec (.frameRecall die value) s = execFrameRecall die value s := rfl
theorem exec_frameRecallComplete die (s : State) : exec (.frameRecallComplete die) s = execFrameRecallComplete die s := rfl
theorem exec_modctlWrite value (s : State) : exec (.modctlWrite value) s = execModctlWrite value s := rfl
theorem exec_modeNormalEntry (s : State) : exec (.modeNormalEntry) s = execModeNormalEntry s := rfl
theorem exec_moduleReset (s : State) : exec (.moduleReset) s = execModuleReset s := rfl
theorem exec_hostPortEnumerated port (s : State) : exec (.hostPortEnumerated port) s = execHostPortEnumerated port s := rfl
theorem exec_bondFabricTrained (s : State) : exec (.bondFabricTrained) s = execBondFabricTrained s := rfl
theorem exec_dieReady die (s : State) : exec (.dieReady die) s = execDieReady die s := rfl
theorem exec_clusterReady cluster (s : State) : exec (.clusterReady cluster) s = execClusterReady cluster s := rfl
theorem exec_bringupTimeout isDie unit (s : State) : exec (.bringupTimeout isDie unit) s = execBringupTimeout isDie unit s := rfl
theorem exec_slowLoopPeriod m (s : State) : exec (.slowLoopPeriod m) s = execSlowLoopPeriod m s := rfl
theorem exec_leaseExpiry slot (s : State) : exec (.leaseExpiry slot) s = execLeaseExpiry slot s := rfl
theorem exec_droopDetected cluster mv (s : State) : exec (.droopDetected cluster mv) s = execDroopDetected cluster mv s := rfl
theorem exec_railMonitorHold amps (s : State) : exec (.railMonitorHold amps) s = execRailMonitorHold amps s := rfl
theorem exec_stepRise cluster (s : State) : exec (.stepRise cluster) s = execStepRise cluster s := rfl
theorem exec_ccapWrite part cluster value (s : State) : exec (.ccapWrite part cluster value) s = execCcapWrite part cluster value s := rfl
theorem exec_clusterOvertemp cluster temp (s : State) : exec (.clusterOvertemp cluster temp) s = execClusterOvertemp cluster temp s := rfl
theorem exec_overtempClear cluster temp (s : State) : exec (.overtempClear cluster temp) s = execOvertempClear cluster temp s := rfl
theorem exec_thermalTrip cluster temp (s : State) : exec (.thermalTrip cluster temp) s = execThermalTrip cluster temp s := rfl
theorem exec_thermalTripReturn cluster temp (s : State) : exec (.thermalTripReturn cluster temp) s = execThermalTripReturn cluster temp s := rfl
theorem exec_railOvercurrent amps (s : State) : exec (.railOvercurrent amps) s = execRailOvercurrent amps s := rfl
theorem exec_powerTrip amps watts (s : State) : exec (.powerTrip amps watts) s = execPowerTrip amps watts s := rfl
theorem exec_watchdogExpiry asid (s : State) : exec (.watchdogExpiry asid) s = execWatchdogExpiry asid s := rfl
theorem exec_correctedError die info (s : State) : exec (.correctedError die info) s = execCorrectedError die info s := rfl
theorem exec_uncorrectedError asid reason addr (s : State) : exec (.uncorrectedError asid reason addr) s = execUncorrectedError asid reason addr s := rfl
theorem exec_persistentError core kind unit (s : State) : exec (.persistentError core kind unit) s = execPersistentError core kind unit s := rfl
theorem exec_laneSliceFence core (s : State) : exec (.laneSliceFence core) s = execLaneSliceFence core s := rfl
theorem exec_macroScrub core cell ok (s : State) : exec (.macroScrub core cell ok) s = execMacroScrub core cell ok s := rfl
theorem exec_birfelFlitReplay link (s : State) : exec (.birfelFlitReplay link) s = execBirfelFlitReplay link s := rfl
theorem exec_birfelLinkDrop link (s : State) : exec (.birfelLinkDrop link) s = execBirfelLinkDrop link s := rfl
theorem exec_peerUnreachable peer (s : State) : exec (.peerUnreachable peer) s = execPeerUnreachable peer s := rfl
theorem exec_peerFlagMessage stream seq addr value (s : State) : exec (.peerFlagMessage stream seq addr value) s = execPeerFlagMessage stream seq addr value s := rfl
theorem exec_bondLinkFailure die (s : State) : exec (.bondLinkFailure die) s = execBondLinkFailure die s := rfl
theorem exec_dieUnreachable die (s : State) : exec (.dieUnreachable die) s = execDieUnreachable die s := rfl
theorem exec_dieReturn die (s : State) : exec (.dieReturn die) s = execDieReturn die s := rfl
theorem exec_hostPortLinkDown port (s : State) : exec (.hostPortLinkDown port) s = execHostPortLinkDown port s := rfl
theorem exec_getVersion port (s : State) : exec (.getVersion port) s = execGetVersion port s := rfl
theorem exec_getCapabilities port (s : State) : exec (.getCapabilities port) s = execGetCapabilities port s := rfl
theorem exec_negotiateAlgorithms port (s : State) : exec (.negotiateAlgorithms port) s = execNegotiateAlgorithms port s := rfl
theorem exec_getDigests port (s : State) : exec (.getDigests port) s = execGetDigests port s := rfl
theorem exec_getCertificate port (s : State) : exec (.getCertificate port) s = execGetCertificate port s := rfl
theorem exec_challenge port nonce (s : State) : exec (.challenge port nonce) s = execChallenge port nonce s := rfl
theorem exec_getMeasurements port (s : State) : exec (.getMeasurements port) s = execGetMeasurements port s := rfl
theorem exec_mctpReport (s : State) : exec (.mctpReport) s = execMctpReport s := rfl
theorem exec_hctlWrite head value (s : State) : exec (.hctlWrite head value) s = execHctlWrite head value s := rfl
theorem exec_headRaise head (s : State) : exec (.headRaise head) s = execHeadRaise head s := rfl
theorem exec_headDeadline head (s : State) : exec (.headDeadline head) s = execHeadDeadline head s := rfl
theorem exec_scanoutReadFault head cause reason addr (s : State) : exec (.scanoutReadFault head cause reason addr) s = execScanoutReadFault head cause reason addr s := rfl
theorem exec_commitPacket cluster (s : State) : exec (.commitPacket cluster) s = execCommitPacket cluster s := rfl
theorem exec_resolveCredit (s : State) : exec (.resolveCredit) s = execResolveCredit s := rfl
theorem exec_stuckTile cluster tile (s : State) : exec (.stuckTile cluster tile) s = execStuckTile cluster tile s := rfl
theorem exec_tcskipWrite cluster value (s : State) : exec (.tcskipWrite cluster value) s = execTcskipWrite cluster value s := rfl
theorem exec_vectorUnitDispatch slot (s : State) : exec (.vectorUnitDispatch slot) s = execVectorUnitDispatch slot s := rfl
theorem exec_unallocatedEncoding reason (s : State) : exec (.unallocatedEncoding reason) s = execUnallocatedEncoding reason s := rfl
theorem exec_fetchFault reason level addr (s : State) : exec (.fetchFault reason level addr) s = execFetchFault reason level addr s := rfl
theorem exec_birfelLinkTrained link peer (s : State) : exec (.birfelLinkTrained link peer) s = execBirfelLinkTrained link peer s := rfl
theorem exec_presentationHeadUsable head (s : State) : exec (.presentationHeadUsable head) s = execPresentationHeadUsable head s := rfl

end Sys2Proof.Machine
end

