-- ==== Sys2Proof/Laws/Store.lean ====
section
/-! SUPPORT. Laws/Store.lean: a sparse table reads what was written, keeps every other key, and keeps its canonical form;
two tables in canonical form that read alike are the same table. -/

namespace Sys2Proof.Machine

variable {α : Type}

@[simp] theorem rd_nil (d : α) (k : Nat) : rd d [] k = d := rfl

theorem rd_del_same (d : α) (m : Store α) (k : Nat) : rd d (del m k) k = d := by
  induction m with
  | nil => rfl
  | cons e t ih =>
    obtain ⟨j, v⟩ := e
    by_cases h : j = k <;> simp [del, rd, h, ih]

theorem rd_del_other (d : α) (m : Store α) {k a : Nat} (h : a ≠ k) : rd d (del m k) a = rd d m a := by
  induction m with
  | nil => rfl
  | cons e t ih =>
    obtain ⟨j, v⟩ := e
    by_cases hj : j = k
    · subst hj
      simp [del, rd, ih, Ne.symm h]
    · simp [del, rd, hj, ih]

theorem rd_ins_same (d : α) (m : Store α) (k : Nat) (v : α) (hk : ∀ e ∈ m, e.1 ≠ k) : rd d (ins m k v) k = v := by
  induction m with
  | nil => simp [ins, rd]
  | cons e t ih =>
    obtain ⟨j, w⟩ := e
    have hj : j ≠ k := hk (j, w) (by simp)
    by_cases h : k < j
    · simp [ins, rd, h]
    · simp [ins, rd, h, hj, ih (fun e he => hk e (by simp [he]))]

theorem rd_ins_other (d : α) (m : Store α) {k a : Nat} (v : α) (h : a ≠ k) : rd d (ins m k v) a = rd d m a := by
  induction m with
  | nil => simp [ins, rd, Ne.symm h]
  | cons e t ih =>
    obtain ⟨j, w⟩ := e
    by_cases hj : k < j
    · simp [ins, rd, hj, Ne.symm h]
    · simp [ins, rd, hj, ih]

theorem del_keys (m : Store α) (k : Nat) : ∀ e ∈ del m k, e.1 ≠ k := by
  induction m with
  | nil => simp [del]
  | cons e t ih =>
    obtain ⟨j, v⟩ := e
    by_cases h : j = k
    · simpa [del, h] using ih
    · simpa [del, h] using ih

theorem del_subset (m : Store α) (k : Nat) : ∀ e ∈ del m k, e ∈ m := by
  induction m with
  | nil => simp [del]
  | cons e t ih =>
    obtain ⟨j, v⟩ := e
    intro x hx
    by_cases h : j = k
    · exact List.mem_cons_of_mem _ (ih x (by simpa [del, h] using hx))
    · rcases List.mem_cons.1 (by simpa [del, h] using hx) with rfl | hx
      · simp
      · exact List.mem_cons_of_mem _ (ih x hx)

variable [DecidableEq α]

/-- A read of the key just written gives the value written. -/
@[simp] theorem rd_wr_same (d : α) (m : Store α) (k : Nat) (v : α) : rd d (wr d m k v) k = v := by
  unfold wr
  split
  · next h => rw [rd_del_same, h]
  · exact rd_ins_same d _ k v (del_keys m k)

/-- A write leaves every other key alone. -/
theorem rd_wr_other (d : α) (m : Store α) {k a : Nat} (v : α) (h : a ≠ k) : rd d (wr d m k v) a = rd d m a := by
  unfold wr
  split
  · exact rd_del_other d m h
  · rw [rd_ins_other d _ v h, rd_del_other d m h]

theorem rd_wr (d : α) (m : Store α) (k a : Nat) (v : α) : rd d (wr d m k v) a = if a = k then v else rd d m a := by
  split
  · next h => subst h; simp
  · next h => exact rd_wr_other d m v h

/-! The canonical form. -/

/-- The canonical form said without recursion on pairs: every key is above the bound, rising, none at the default. -/
def above (d : α) : Nat → Store α → Prop
  | _, [] => True
  | b, (j, v) :: t => b ≤ j ∧ v ≠ d ∧ above d (j + 1) t

omit [DecidableEq α] in
theorem above_mono {d : α} {b c : Nat} {m : Store α} (h : b ≤ c) (hm : above d c m) : above d b m := by
  cases m with
  | nil => trivial
  | cons e t => exact ⟨h.trans hm.1, hm.2.1, hm.2.2⟩

theorem storeWf_cons (d : α) (j : Nat) (v : α) (t : Store α) :
    storeWf d ((j, v) :: t) = true ↔ v ≠ d ∧ above d (j + 1) t := by
  induction t generalizing j v with
  | nil => simp [storeWf, above]
  | cons e t ih =>
    obtain ⟨k, w⟩ := e
    simp only [storeWf, Bool.and_eq_true, decide_eq_true_eq, ih, above, Nat.succ_le_iff]
    tauto

theorem storeWf_iff (d : α) (m : Store α) : storeWf d m = true ↔ above d 0 m := by
  cases m with
  | nil => simp [storeWf, above]
  | cons e t =>
    obtain ⟨j, v⟩ := e
    simp [storeWf_cons, above]

omit [DecidableEq α] in
theorem above_del {d : α} {b : Nat} {m : Store α} (k : Nat) (h : above d b m) : above d b (del m k) := by
  induction m generalizing b with
  | nil => trivial
  | cons e t ih =>
    obtain ⟨j, v⟩ := e
    obtain ⟨h1, h2, h3⟩ := h
    by_cases hj : j = k
    · simpa [del, hj] using above_mono (by omega) (ih h3)
    · simpa [del, hj] using ⟨h1, h2, ih h3⟩

omit [DecidableEq α] in
theorem above_ins {d : α} {b : Nat} {m : Store α} {k : Nat} {v : α} (hv : v ≠ d) (hb : b ≤ k)
    (hk : ∀ e ∈ m, e.1 ≠ k) (h : above d b m) : above d b (ins m k v) := by
  induction m generalizing b with
  | nil => exact ⟨hb, hv, trivial⟩
  | cons e t ih =>
    obtain ⟨j, w⟩ := e
    obtain ⟨h1, h2, h3⟩ := h
    have hj : j ≠ k := hk (j, w) (by simp)
    by_cases hlt : k < j
    · simpa [ins, hlt] using ⟨hb, hv, hlt, h2, h3⟩
    · simpa [ins, hlt] using ⟨h1, h2, ih (by omega) (fun e he => hk e (by simp [he])) h3⟩

/-- A deletion keeps the canonical form. -/
theorem storeWf_del {d : α} {m : Store α} (k : Nat) (h : storeWf d m = true) : storeWf d (del m k) = true :=
  (storeWf_iff d _).2 (above_del k ((storeWf_iff d m).1 h))

/-- A write keeps the canonical form. -/
theorem storeWf_wr {d : α} {m : Store α} (k : Nat) (v : α) (h : storeWf d m = true) : storeWf d (wr d m k v) = true := by
  unfold wr
  split
  · exact storeWf_del k h
  · next hv =>
    exact (storeWf_iff d _).2 (above_ins hv (Nat.zero_le k) (del_keys m k) (above_del k ((storeWf_iff d m).1 h)))

omit [DecidableEq α] in
theorem above_filter {d : α} {b : Nat} {m : Store α} (f : Nat × α → Bool) (h : above d b m) : above d b (m.filter f) := by
  induction m generalizing b with
  | nil => trivial
  | cons e t ih =>
    obtain ⟨h1, h2, h3⟩ := h
    by_cases hf : f e = true
    · simpa [List.filter, hf] using ⟨h1, h2, ih h3⟩
    · simpa [List.filter, hf] using above_mono (by omega) (ih h3)

/-- Keeping some of the entries keeps the canonical form. -/
theorem storeWf_delWhere {d : α} {m : Store α} (f : Nat → Bool) (h : storeWf d m = true) :
    storeWf d (delWhere f m) = true :=
  (storeWf_iff d _).2 (above_filter _ ((storeWf_iff d m).1 h))

/-- Writing a list of values keeps the canonical form. -/
theorem storeWf_wrMany {d : α} {m : Store α} (k : Nat) (vs : List α) (h : storeWf d m = true) :
    storeWf d (wrMany d m k vs) = true := by
  induction vs generalizing m k with
  | nil => exact h
  | cons v vs ih => exact ih (k + 1) (storeWf_wr k v h)

/-! Several values at once. -/

/-- A write of values from `k` on leaves what lies outside them alone. -/
theorem rd_wrMany_other (d : α) (m : Store α) (k : Nat) (vs : List α) {a : Nat} (h : a < k ∨ k + vs.length ≤ a) :
    rd d (wrMany d m k vs) a = rd d m a := by
  induction vs generalizing m k with
  | nil => rfl
  | cons v vs ih =>
    simp only [List.length_cons] at h
    rw [wrMany, ih _ _ (by omega), rd_wr_other d m v (by omega)]

/-- A read inside the values just written gives the value written there. -/
theorem rd_wrMany_mem (d : α) (m : Store α) (k : Nat) (vs : List α) (i : Nat) (h : i < vs.length) :
    rd d (wrMany d m k vs) (k + i) = vs[i] := by
  induction vs generalizing m k i with
  | nil => simp at h
  | cons v vs ih =>
    cases i with
    | zero => rw [wrMany, rd_wrMany_other _ _ _ _ (by omega)]; simp
    | succ i =>
      have := ih (wr d m k v) (k + 1) i (by simpa using h)
      rw [wrMany, ← Nat.add_assoc, Nat.add_right_comm k i 1]
      simpa using this

/-- Values just written read back. -/
theorem rdMany_wrMany (d : α) (m : Store α) (k : Nat) (vs : List α) : rdMany d (wrMany d m k vs) k vs.length = vs := by
  induction vs generalizing m k with
  | nil => rfl
  | cons v vs ih =>
    simp only [List.length_cons, rdMany]
    rw [wrMany, ih, rd_wrMany_other _ _ _ _ (by omega), rd_wr_same]

omit [DecidableEq α] in
/-- Two tables that read alike from `k` on give the same values. -/
theorem rdMany_congr (d : α) (m m' : Store α) (k n : Nat) (h : ∀ a, k ≤ a → a < k + n → rd d m a = rd d m' a) :
    rdMany d m k n = rdMany d m' k n := by
  induction n generalizing k with
  | zero => rfl
  | succ n ih =>
    rw [rdMany, rdMany, h k (by omega) (by omega), ih (k + 1) (fun a h1 h2 => h a (by omega) (by omega))]

omit [DecidableEq α] in
@[simp] theorem rdMany_length (d : α) (m : Store α) (k n : Nat) : (rdMany d m k n).length = n := by
  induction n generalizing k with
  | zero => rfl
  | succ n ih => simp [rdMany, ih]

omit [DecidableEq α] in
/-- What reads at the default below a bound that every key meets. -/
theorem rd_below {d : α} {b : Nat} {m : Store α} (h : above d b m) {a : Nat} (ha : a < b) : rd d m a = d := by
  induction m generalizing b with
  | nil => rfl
  | cons e t ih =>
    obtain ⟨j, v⟩ := e
    obtain ⟨h1, -, h3⟩ := h
    rw [rd, if_neg (by omega), ih h3 (by omega)]

/-- Two tables in canonical form that read alike are the same table. -/
theorem store_ext {d : α} {m m' : Store α} (h : storeWf d m = true) (h' : storeWf d m' = true)
    (hr : ∀ a, rd d m a = rd d m' a) : m = m' := by
  have key : ∀ (m m' : Store α) (b : Nat), above d b m → above d b m' → (∀ a, rd d m a = rd d m' a) → m = m' := by
    intro m
    induction m with
    | nil =>
      intro m' b _ h' hr
      cases m' with
      | nil => rfl
      | cons e t =>
        have := hr e.1
        simp only [rd, if_true] at this
        exact absurd this.symm h'.2.1
    | cons e t ih =>
      obtain ⟨j, v⟩ := e
      intro m' b h h' hr
      cases m' with
      | nil =>
        have := hr j
        simp only [rd, if_true] at this
        exact absurd this h.2.1
      | cons e' t' =>
        obtain ⟨j', v'⟩ := e'
        obtain ⟨-, h2, h3⟩ := h
        obtain ⟨-, h2', h3'⟩ := h'
        rcases Nat.lt_trichotomy j j' with hlt | heq | hgt
        · have := hr j
          rw [rd, if_pos rfl, rd, if_neg (by omega), rd_below h3' (by omega)] at this
          exact absurd this h2
        · subst heq
          have hv := hr j
          simp only [rd, if_true] at hv
          subst hv
          refine congrArg _ (ih t' (j + 1) h3 h3' (fun a => ?_))
          have := hr a
          by_cases ha : j = a
          · subst ha
            rw [rd_below h3 (by omega), rd_below h3' (by omega)]
          · simpa [rd, ha] using this
        · have := hr j'
          rw [rd, if_neg (by omega), rd_below h3 (by omega), rd, if_pos rfl] at this
          exact absurd this.symm h2'
  exact key m m' 0 ((storeWf_iff d m).1 h) ((storeWf_iff d m').1 h') hr

end Sys2Proof.Machine
end

