-- ==== Sys2Proof/Laws/Image.lean ====
section
/-! SUPPORT. Laws/Image.lean: the lengths of the images that the saves write (R257 to R260). -/

namespace Sys2Proof.Machine

@[simp] theorem toLe_length (n v : Nat) : (toLe n v).length = n := by
  induction n generalizing v with
  | zero => rfl
  | succ n ih => rw [toLe, List.length_cons, ih]

theorem flatMap_length {α β : Type} (f : α → List β) (n : Nat) (h : ∀ x, (f x).length = n) (xs : List α) :
    (xs.flatMap f).length = xs.length * n := by
  induction xs with
  | nil => simp
  | cons x xs ih => rw [List.flatMap_cons, List.length_append, h, ih, List.length_cons]; ring

@[simp] theorem vecImage_length (v : Vec) : (vecImage v).length = vecImageLen v := by
  rw [vecImage, List.length_append, flatMap_length _ v.regBytes (fun _ => toLe_length _ _),
    flatMap_length _ (7 * (v.regBytes / 4)) (fun j => ?_), upFrom, upFrom, List.length_range', List.length_range', vecImageLen]
  · ring
  · rw [flatMap_length _ (v.regBytes / 4) (fun _ => toLe_length _ _), upFrom, List.length_range']

@[simp] theorem matImage_length (c : CoreSt) : (matImage c).length = 81928 := by
  rw [matImage]
  simp only [List.length_append, flatMap_length _ 4 (fun w : BitVec 32 => toLe_length 4 w.toNat), rdMany_length, toLe_length]

@[simp] theorem frameBytes_length (n no : Nat) : (frameBytes n no).length = if n = 0 then 8 else frameLen n := by
  rw [frameBytes]
  split
  · simp
  · next h =>
    have h1 : 16 ≤ frameLen n := by rw [frameLen, if_neg h]; omega
    simp only [List.length_append, toLe_length, List.length_map, upFrom, List.length_range']
    omega

end Sys2Proof.Machine
end

