-- ==== Sys2Proof/Laws/Issue.lean ====
section
/-! SUPPORT. Laws/Issue.lean: a word that a slot issues is carried out as exec of what it decodes to. -/

namespace Sys2Proof.Machine

/-- What a decoded pattern is carried out as: its instruction, or the exception of an unallocated encoding (R88). -/
def execDecoded (d : Decoded) (s : State) : Ran :=
  match d with
  | .instr i => exec i s
  | .unallocated r => exec (.unallocatedEncoding r) s

theorem runSys_eq (w : BitVec 32) (s : State) : runSys w s = execDecoded (decodeSys w) s := by
  unfold runSys decodeSys
  generalize (w.extractLsb' 28 4).toNat = n
  match n with
  | 0 => rfl
  | 1 => rfl
  | 2 => rfl
  | 3 => rfl
  | 4 => rfl
  | 5 => rfl
  | 6 => rfl
  | 7 => rfl
  | 8 => rfl
  | 9 => rfl
  | 10 => rfl
  | 11 => rfl
  | 12 => rfl
  | 13 => rfl
  | n + 14 => rfl

theorem runFence_eq (w : BitVec 32) (s : State) : runFence w s = execDecoded (decodeFence w) s := by
  unfold runFence decodeFence
  generalize (w.extractLsb' 25 7).toNat = n
  match n with
  | 0 => rfl
  | 1 => rfl
  | 2 => rfl
  | 3 => rfl
  | 4 => rfl
  | 5 => rfl
  | 6 => rfl
  | 7 => rfl
  | n + 8 => rfl

theorem runBpred_eq (w : BitVec 32) (s : State) : runBpred w s = execDecoded (decodeBpred w) s := by
  unfold runBpred decodeBpred
  generalize (w.extractLsb' 12 1).toNat = n
  match n with
  | 0 => rfl
  | n + 1 => rfl

theorem runInd_eq (w : BitVec 32) (s : State) : runInd w s = execDecoded (decodeInd w) s := by
  unfold runInd decodeInd
  generalize (w.extractLsb' 22 10).toNat = n
  match n with
  | 0 => rfl
  | 1 => rfl
  | n + 2 => rfl

theorem runInt_eq (w : BitVec 32) (s : State) : runInt w s = execDecoded (decodeInt w) s := by
  unfold runInt decodeInt
  generalize (w.extractLsb' 22 10).toNat = n
  match n with
  | 0 => rfl
  | 1 => rfl
  | 2 => rfl
  | 3 => rfl
  | 4 => rfl
  | 5 => rfl
  | 6 => rfl
  | 7 => rfl
  | 8 => rfl
  | 9 => rfl
  | 10 => rfl
  | 11 => rfl
  | 12 => rfl
  | 13 => rfl
  | 14 => rfl
  | 15 => rfl
  | 16 => rfl
  | 17 => rfl
  | 18 => rfl
  | 19 => rfl
  | 20 => rfl
  | 21 => rfl
  | 22 => rfl
  | n + 23 => rfl

theorem runInti_eq (w : BitVec 32) (s : State) : runInti w s = execDecoded (decodeInti w) s := by
  unfold runInti decodeInti
  generalize (w.extractLsb' 17 3).toNat = n
  match n with
  | 0 => rfl
  | 1 => rfl
  | 2 => rfl
  | 3 => rfl
  | 4 => rfl
  | 5 => rfl
  | 6 => rfl
  | n + 7 => rfl

theorem runCmp_eq (w : BitVec 32) (s : State) : runCmp w s = execDecoded (decodeCmp w) s := by
  unfold runCmp decodeCmp
  generalize (w.extractLsb' 22 10).toNat = n
  match n with
  | 0 => rfl
  | 1 => rfl
  | 2 => rfl
  | 3 => rfl
  | 4 => rfl
  | 5 => rfl
  | 6 => rfl
  | 7 => rfl
  | 8 => rfl
  | 9 => rfl
  | 10 => rfl
  | 11 => rfl
  | n + 12 => rfl

theorem runCmpi_eq (w : BitVec 32) (s : State) : runCmpi w s = execDecoded (decodeCmpi w) s := by
  unfold runCmpi decodeCmpi
  generalize (w.extractLsb' 17 3).toNat = n
  match n with
  | 0 => rfl
  | 1 => rfl
  | n + 2 => rfl

theorem runLoad_eq (w : BitVec 32) (s : State) : runLoad w s = execDecoded (decodeLoad w) s := by
  unfold runLoad decodeLoad
  generalize (w.extractLsb' 17 3).toNat = n
  match n with
  | 0 => rfl
  | 1 => rfl
  | 2 => rfl
  | 3 => rfl
  | 4 => rfl
  | 5 => rfl
  | 6 => rfl
  | n + 7 => rfl

theorem runStore_eq (w : BitVec 32) (s : State) : runStore w s = execDecoded (decodeStore w) s := by
  unfold runStore decodeStore
  generalize (w.extractLsb' 17 3).toNat = n
  match n with
  | 0 => rfl
  | 1 => rfl
  | 2 => rfl
  | 3 => rfl
  | n + 4 => rfl

theorem runSfp_eq (w : BitVec 32) (s : State) : runSfp w s = execDecoded (decodeSfp w) s := by
  unfold runSfp decodeSfp
  generalize (w.extractLsb' 22 10).toNat = n
  match n with
  | 0 => rfl
  | 1 => rfl
  | 2 => rfl
  | 3 => rfl
  | 4 => rfl
  | 5 => rfl
  | 6 => rfl
  | 7 => rfl
  | 8 => rfl
  | 9 => rfl
  | 10 => rfl
  | 11 => rfl
  | n + 12 => rfl

theorem runAmo_eq (w : BitVec 32) (s : State) : runAmo w s = execDecoded (decodeAmo w) s := by
  unfold runAmo decodeAmo
  generalize (w.extractLsb' 25 7).toNat = n
  match n with
  | 0 => rfl
  | 1 => rfl
  | 2 => rfl
  | 3 => rfl
  | 4 => rfl
  | 5 => rfl
  | 6 => rfl
  | 7 => rfl
  | 8 => rfl
  | 9 => rfl
  | 10 => rfl
  | 11 => rfl
  | 12 => rfl
  | n + 13 => rfl

theorem runQueue_eq (w : BitVec 32) (s : State) : runQueue w s = execDecoded (decodeQueue w) s := by
  unfold runQueue decodeQueue
  generalize (w.extractLsb' 25 7).toNat = n
  match n with
  | 0 => rfl
  | 1 => rfl
  | 2 => rfl
  | 3 => rfl
  | 4 => rfl
  | n + 5 => rfl

theorem runTask_eq (w : BitVec 32) (s : State) : runTask w s = execDecoded (decodeTask w) s := by
  unfold runTask decodeTask
  generalize (w.extractLsb' 25 7).toNat = n
  match n with
  | 0 => rfl
  | 1 => rfl
  | 2 => rfl
  | 3 => rfl
  | 4 => rfl
  | 5 => rfl
  | 6 => rfl
  | n + 7 => rfl

theorem runSctr_eq (w : BitVec 32) (s : State) : runSctr w s = execDecoded (decodeSctr w) s := by
  unfold runSctr decodeSctr
  generalize (w.extractLsb' 25 7).toNat = n
  match n with
  | 0 => rfl
  | 1 => rfl
  | 2 => rfl
  | 3 => rfl
  | 4 => rfl
  | 5 => rfl
  | 6 => rfl
  | n + 7 => rfl

theorem runBar_eq (w : BitVec 32) (s : State) : runBar w s = execDecoded (decodeBar w) s := by
  unfold runBar decodeBar
  generalize (w.extractLsb' 25 7).toNat = n
  match n with
  | 0 => rfl
  | 1 => rfl
  | 2 => rfl
  | 3 => rfl
  | 4 => rfl
  | n + 5 => rfl

theorem runVcfg_eq (w : BitVec 32) (s : State) : runVcfg w s = execDecoded (decodeVcfg w) s := by
  unfold runVcfg decodeVcfg
  generalize (w.extractLsb' 17 2).toNat = n
  match n with
  | 0 => rfl
  | 1 => rfl
  | 2 => rfl
  | n + 3 => rfl

theorem runVload_eq (w : BitVec 32) (s : State) : runVload w s = execDecoded (decodeVload w) s := by
  unfold runVload decodeVload
  generalize (w.extractLsb' 25 7).toNat = n
  match n with
  | 0 => rfl
  | 1 => rfl
  | 2 => rfl
  | 3 => rfl
  | 4 => rfl
  | 5 => rfl
  | 6 => rfl
  | n + 7 => rfl

theorem runVstore_eq (w : BitVec 32) (s : State) : runVstore w s = execDecoded (decodeVstore w) s := by
  unfold runVstore decodeVstore
  generalize (w.extractLsb' 25 7).toNat = n
  match n with
  | 0 => rfl
  | 1 => rfl
  | 2 => rfl
  | 3 => rfl
  | 4 => rfl
  | n + 5 => rfl

theorem runVamo_eq (w : BitVec 32) (s : State) : runVamo w s = execDecoded (decodeVamo w) s := by
  unfold runVamo decodeVamo
  generalize (w.extractLsb' 28 4).toNat = n
  match n with
  | 0 => rfl
  | 1 => rfl
  | 2 => rfl
  | 3 => rfl
  | 4 => rfl
  | 5 => rfl
  | 6 => rfl
  | 7 => rfl
  | 8 => rfl
  | 9 => rfl
  | 10 => rfl
  | 11 => rfl
  | 12 => rfl
  | 13 => rfl
  | 14 => rfl
  | n + 15 => rfl

theorem runVint_eq (w : BitVec 32) (s : State) : runVint w s = execDecoded (decodeVint w) s := by
  unfold runVint decodeVint
  generalize (w.extractLsb' 27 5).toNat = n
  match n with
  | 0 => rfl
  | 1 => rfl
  | 2 => rfl
  | 3 => rfl
  | 4 => rfl
  | 5 => rfl
  | 6 => rfl
  | 7 => rfl
  | 8 => rfl
  | 9 => rfl
  | 10 => rfl
  | 11 => rfl
  | 12 => rfl
  | 13 => rfl
  | 14 => rfl
  | 15 => rfl
  | n + 16 => rfl

theorem runVint2_eq (w : BitVec 32) (s : State) : runVint2 w s = execDecoded (decodeVint2 w) s := by
  unfold runVint2 decodeVint2
  generalize (w.extractLsb' 27 5).toNat = n
  match n with
  | 0 => rfl
  | 1 => rfl
  | 2 => rfl
  | 3 => rfl
  | n + 4 => rfl

theorem runVfp_eq (w : BitVec 32) (s : State) : runVfp w s = execDecoded (decodeVfp w) s := by
  unfold runVfp decodeVfp
  generalize (w.extractLsb' 27 5).toNat = n
  match n with
  | 0 => rfl
  | 1 => rfl
  | 2 => rfl
  | 3 => rfl
  | 4 => rfl
  | 5 => rfl
  | 6 => rfl
  | 7 => rfl
  | 8 => rfl
  | 9 => rfl
  | 10 => rfl
  | 11 => rfl
  | n + 12 => rfl

theorem runVfp2_eq (w : BitVec 32) (s : State) : runVfp2 w s = execDecoded (decodeVfp2 w) s := by
  unfold runVfp2 decodeVfp2
  generalize (w.extractLsb' 27 5).toNat = n
  match n with
  | 0 => rfl
  | 1 => rfl
  | 2 => rfl
  | 3 => rfl
  | 4 => rfl
  | 5 => rfl
  | 6 => rfl
  | 7 => rfl
  | 8 => rfl
  | n + 9 => rfl

theorem runVcmp_eq (w : BitVec 32) (s : State) : runVcmp w s = execDecoded (decodeVcmp w) s := by
  unfold runVcmp decodeVcmp
  generalize (w.extractLsb' 27 5).toNat = n
  match n with
  | 0 => rfl
  | 1 => rfl
  | 2 => rfl
  | 3 => rfl
  | 4 => rfl
  | 5 => rfl
  | 6 => rfl
  | 7 => rfl
  | 8 => rfl
  | 9 => rfl
  | n + 10 => rfl

theorem runVmask_eq (w : BitVec 32) (s : State) : runVmask w s = execDecoded (decodeVmask w) s := by
  unfold runVmask decodeVmask
  generalize (w.extractLsb' 27 5).toNat = n
  match n with
  | 0 => rfl
  | 1 => rfl
  | 2 => rfl
  | 3 => rfl
  | 4 => rfl
  | 5 => rfl
  | 6 => rfl
  | 7 => rfl
  | 8 => rfl
  | n + 9 => rfl

theorem runVperm_eq (w : BitVec 32) (s : State) : runVperm w s = execDecoded (decodeVperm w) s := by
  unfold runVperm decodeVperm
  generalize (w.extractLsb' 27 5).toNat = n
  match n with
  | 0 => rfl
  | 1 => rfl
  | 2 => rfl
  | 3 => rfl
  | 4 => rfl
  | 5 => rfl
  | 6 => rfl
  | 7 => rfl
  | 8 => rfl
  | 9 => rfl
  | 10 => rfl
  | 11 => rfl
  | n + 12 => rfl

theorem runVred_eq (w : BitVec 32) (s : State) : runVred w s = execDecoded (decodeVred w) s := by
  unfold runVred decodeVred
  generalize (w.extractLsb' 27 5).toNat = n
  match n with
  | 0 => rfl
  | 1 => rfl
  | 2 => rfl
  | 3 => rfl
  | 4 => rfl
  | 5 => rfl
  | 6 => rfl
  | n + 7 => rfl

theorem runMat_eq (w : BitVec 32) (s : State) : runMat w s = execDecoded (decodeMat w) s := by
  unfold runMat decodeMat
  generalize (w.extractLsb' 27 5).toNat = n
  match n with
  | 0 => rfl
  | 1 => rfl
  | 2 => rfl
  | 3 => rfl
  | 4 => rfl
  | 5 => rfl
  | 6 => rfl
  | 7 => rfl
  | 8 => rfl
  | 9 => rfl
  | n + 10 => rfl

theorem runGfx_eq (w : BitVec 32) (s : State) : runGfx w s = execDecoded (decodeGfx w) s := by
  unfold runGfx decodeGfx
  generalize (w.extractLsb' 27 5).toNat = n
  match n with
  | 0 => rfl
  | 1 => rfl
  | 2 => rfl
  | 3 => rfl
  | 4 => rfl
  | 5 => rfl
  | 6 => rfl
  | 7 => rfl
  | n + 8 => rfl

/-- A word is carried out as what it decodes to (R79, R87, R88). -/
theorem issueWord_eq (w : BitVec 32) (s : State) : issueWord w s = execDecoded (decodeWord w) s := by
  unfold issueWord decodeWord
  split
  · rfl
  · generalize majorOf w = n
    match n with
    | 0 => exact runSys_eq w s
    | 1 => exact runFence_eq w s
    | 2 => rfl
    | 3 => rfl
    | 4 => exact runBpred_eq w s
    | 5 => exact runInd_eq w s
    | 6 => rfl
    | 7 => rfl
    | 8 => rfl
    | 9 => exact runInt_eq w s
    | 10 => exact runInti_eq w s
    | 11 => exact runCmp_eq w s
    | 12 => exact runCmpi_eq w s
    | 13 => exact runLoad_eq w s
    | 14 => exact runStore_eq w s
    | 15 => exact runSfp_eq w s
    | 16 => exact runAmo_eq w s
    | 17 => exact runQueue_eq w s
    | 18 => exact runTask_eq w s
    | 19 => exact runSctr_eq w s
    | 20 => exact runBar_eq w s
    | 21 => rfl
    | 22 => rfl
    | 23 => rfl
    | 24 => exact runVcfg_eq w s
    | 25 => exact runVload_eq w s
    | 26 => exact runVstore_eq w s
    | 27 => exact runVamo_eq w s
    | 28 => exact runVint_eq w s
    | 29 => exact runVint2_eq w s
    | 30 => exact runVfp_eq w s
    | 31 => exact runVfp2_eq w s
    | 32 => exact runVcmp_eq w s
    | 33 => exact runVmask_eq w s
    | 34 => exact runVperm_eq w s
    | 35 => exact runVred_eq w s
    | 36 => exact runMat_eq w s
    | 37 => exact runGfx_eq w s
    | 38 => rfl
    | n + 39 => rfl

/-- A halfword is carried out as what it decodes to (R91, R92). -/
theorem issueHalf_eq (h : BitVec 16) (s : State) : issueHalf h s = execDecoded (decodeHalf h) s := by
  unfold issueHalf decodeHalf
  split
  · rfl
  · generalize (h.extractLsb' 1 5).toNat = n
    match n with
    | 0 => rfl
    | 1 => rfl
    | 2 => rfl
    | 3 => rfl
    | 4 => rfl
    | 5 => rfl
    | 6 => rfl
    | 7 => rfl
    | 8 => rfl
    | 9 => rfl
    | 10 => rfl
    | 11 => rfl
    | 12 => rfl
    | 13 => rfl
    | 14 => rfl
    | 15 => rfl
    | n + 16 => rfl

end Sys2Proof.Machine
end

