-- ==== Sys2Proof/Laws/PerInstr.lean ====
section
/-! SUPPORT. Laws/PerInstr.lean: what is said of every instruction as syntax, one lemma per constructor. -/

namespace Sys2Proof.Laws.Encodes

/-- The encoder gives an instruction a pattern exactly when the opcode table gives it an encoding. -/
def Statement (i : Instr) : Prop := (encode i).isSome = isEncoded i

theorem trap x : Statement (.trap x) := rfl
theorem eret x : Statement (.eret x) := rfl
theorem sysrd x : Statement (.sysrd x) := rfl
theorem syswr x : Statement (.syswr x) := rfl
theorem sysset x : Statement (.sysset x) := rfl
theorem sysclr x : Statement (.sysclr x) := rfl
theorem vsave x : Statement (.vsave x) := rfl
theorem vrstr x : Statement (.vrstr x) := rfl
theorem asave x : Statement (.asave x) := rfl
theorem arstr x : Statement (.arstr x) := rfl
theorem frsave x : Statement (.frsave x) := rfl
theorem frload x : Statement (.frload x) := rfl
theorem halt x : Statement (.halt x) := rfl
theorem brk x : Statement (.brk x) := rfl
theorem fence x : Statement (.fence x) := rfl
theorem fsmp x : Statement (.fsmp x) := rfl
theorem chunk x : Statement (.chunk x) := rfl
theorem dcwb x : Statement (.dcwb x) := rfl
theorem dcinv x : Statement (.dcinv x) := rfl
theorem icinv x : Statement (.icinv x) := rfl
theorem ipf x : Statement (.ipf x) := rfl
theorem dpf x : Statement (.dpf x) := rfl
theorem br x : Statement (.br x) := rfl
theorem call x : Statement (.call x) := rfl
theorem bp x : Statement (.bp x) := rfl
theorem bpn x : Statement (.bpn x) := rfl
theorem jr x : Statement (.jr x) := rfl
theorem callr x : Statement (.callr x) := rfl
theorem smloop x : Statement (.smloop x) := rfl
theorem liw x : Statement (.liw x) := rfl
theorem pcadd x : Statement (.pcadd x) := rfl
theorem add x : Statement (.add x) := rfl
theorem sub x : Statement (.sub x) := rfl
theorem mul x : Statement (.mul x) := rfl
theorem mulh x : Statement (.mulh x) := rfl
theorem mulhu x : Statement (.mulhu x) := rfl
theorem div x : Statement (.div x) := rfl
theorem divu x : Statement (.divu x) := rfl
theorem rem x : Statement (.rem x) := rfl
theorem remu x : Statement (.remu x) := rfl
theorem and x : Statement (.and x) := rfl
theorem or x : Statement (.or x) := rfl
theorem xor x : Statement (.xor x) := rfl
theorem sll x : Statement (.sll x) := rfl
theorem srl x : Statement (.srl x) := rfl
theorem sra x : Statement (.sra x) := rfl
theorem min x : Statement (.min x) := rfl
theorem max x : Statement (.max x) := rfl
theorem minu x : Statement (.minu x) := rfl
theorem maxu x : Statement (.maxu x) := rfl
theorem clz x : Statement (.clz x) := rfl
theorem ctz x : Statement (.ctz x) := rfl
theorem popc x : Statement (.popc x) := rfl
theorem sel x : Statement (.sel x) := rfl
theorem addi x : Statement (.addi x) := rfl
theorem andi x : Statement (.andi x) := rfl
theorem ori x : Statement (.ori x) := rfl
theorem xori x : Statement (.xori x) := rfl
theorem slli x : Statement (.slli x) := rfl
theorem srli x : Statement (.srli x) := rfl
theorem srai x : Statement (.srai x) := rfl
theorem cmpeq x : Statement (.cmpeq x) := rfl
theorem cmpne x : Statement (.cmpne x) := rfl
theorem cmplt x : Statement (.cmplt x) := rfl
theorem cmple x : Statement (.cmple x) := rfl
theorem cmpltu x : Statement (.cmpltu x) := rfl
theorem cmpleu x : Statement (.cmpleu x) := rfl
theorem pand x : Statement (.pand x) := rfl
theorem por x : Statement (.por x) := rfl
theorem pxor x : Statement (.pxor x) := rfl
theorem pnot x : Statement (.pnot x) := rfl
theorem prd x : Statement (.prd x) := rfl
theorem pwr x : Statement (.pwr x) := rfl
theorem cmpeqi x : Statement (.cmpeqi x) := rfl
theorem cmplti x : Statement (.cmplti x) := rfl
theorem ld8 x : Statement (.ld8 x) := rfl
theorem ld8u x : Statement (.ld8u x) := rfl
theorem ld16 x : Statement (.ld16 x) := rfl
theorem ld16u x : Statement (.ld16u x) := rfl
theorem ld32 x : Statement (.ld32 x) := rfl
theorem ld32u x : Statement (.ld32u x) := rfl
theorem ld64 x : Statement (.ld64 x) := rfl
theorem st8 x : Statement (.st8 x) := rfl
theorem st16 x : Statement (.st16 x) := rfl
theorem st32 x : Statement (.st32 x) := rfl
theorem st64 x : Statement (.st64 x) := rfl
theorem fadd x : Statement (.fadd x) := rfl
theorem fsub x : Statement (.fsub x) := rfl
theorem fmul x : Statement (.fmul x) := rfl
theorem fma x : Statement (.fma x) := rfl
theorem fdiv x : Statement (.fdiv x) := rfl
theorem fsqrt x : Statement (.fsqrt x) := rfl
theorem fcmpeq x : Statement (.fcmpeq x) := rfl
theorem fcmplt x : Statement (.fcmplt x) := rfl
theorem fcmple x : Statement (.fcmple x) := rfl
theorem fcmpun x : Statement (.fcmpun x) := rfl
theorem fcvtif x : Statement (.fcvtif x) := rfl
theorem fcvtfi x : Statement (.fcvtfi x) := rfl
theorem amoadd x : Statement (.amoadd x) := rfl
theorem amoand x : Statement (.amoand x) := rfl
theorem amoor x : Statement (.amoor x) := rfl
theorem amoxor x : Statement (.amoxor x) := rfl
theorem amomin x : Statement (.amomin x) := rfl
theorem amomax x : Statement (.amomax x) := rfl
theorem amominu x : Statement (.amominu x) := rfl
theorem amomaxu x : Statement (.amomaxu x) := rfl
theorem amoswp x : Statement (.amoswp x) := rfl
theorem amocas x : Statement (.amocas x) := rfl
theorem redadd x : Statement (.redadd x) := rfl
theorem lda x : Statement (.lda x) := rfl
theorem stl x : Statement (.stl x) := rfl
theorem qbind x : Statement (.qbind x) := rfl
theorem qfree x : Statement (.qfree x) := rfl
theorem qpushn x : Statement (.qpushn x) := rfl
theorem qpopn x : Statement (.qpopn x) := rfl
theorem qstat x : Statement (.qstat x) := rfl
theorem tqenq x : Statement (.tqenq x) := rfl
theorem jcenq x : Statement (.jcenq x) := rfl
theorem spawn x : Statement (.spawn x) := rfl
theorem migr x : Statement (.migr x) := rfl
theorem yield x : Statement (.yield x) := rfl
theorem exit x : Statement (.exit x) := rfl
theorem sleep x : Statement (.sleep x) := rfl
theorem scarm x : Statement (.scarm x) := rfl
theorem sctake x : Statement (.sctake x) := rfl
theorem sctakep x : Statement (.sctakep x) := rfl
theorem scgive x : Statement (.scgive x) := rfl
theorem scread x : Statement (.scread x) := rfl
theorem scset x : Statement (.scset x) := rfl
theorem scdsrm x : Statement (.scdsrm x) := rfl
theorem barinit x : Statement (.barinit x) := rfl
theorem bararr x : Statement (.bararr x) := rfl
theorem barexp x : Statement (.barexp x) := rfl
theorem barwt x : Statement (.barwt x) := rfl
theorem bartst x : Statement (.bartst x) := rfl
theorem setvl x : Statement (.setvl x) := rfl
theorem setvli x : Statement (.setvli x) := rfl
theorem vspan x : Statement (.vspan x) := rfl
theorem vld x : Statement (.vld x) := rfl
theorem vlds x : Statement (.vlds x) := rfl
theorem vldg x : Statement (.vldg x) := rfl
theorem vldff x : Statement (.vldff x) := rfl
theorem vldseg x : Statement (.vldseg x) := rfl
theorem vldb x : Statement (.vldb x) := rfl
theorem vldc x : Statement (.vldc x) := rfl
theorem vst x : Statement (.vst x) := rfl
theorem vsts x : Statement (.vsts x) := rfl
theorem vstsc x : Statement (.vstsc x) := rfl
theorem vstseg x : Statement (.vstseg x) := rfl
theorem vstb x : Statement (.vstb x) := rfl
theorem vamoadd x : Statement (.vamoadd x) := rfl
theorem vamomin x : Statement (.vamomin x) := rfl
theorem vamomax x : Statement (.vamomax x) := rfl
theorem vamoand x : Statement (.vamoand x) := rfl
theorem vamoor x : Statement (.vamoor x) := rfl
theorem vamoxor x : Statement (.vamoxor x) := rfl
theorem vamoswp x : Statement (.vamoswp x) := rfl
theorem vamocas x : Statement (.vamocas x) := rfl
theorem vamoaddNr x : Statement (.vamoaddNr x) := rfl
theorem vamominNr x : Statement (.vamominNr x) := rfl
theorem vamomaxNr x : Statement (.vamomaxNr x) := rfl
theorem vamoandNr x : Statement (.vamoandNr x) := rfl
theorem vamoorNr x : Statement (.vamoorNr x) := rfl
theorem vamoxorNr x : Statement (.vamoxorNr x) := rfl
theorem vamoswpNr x : Statement (.vamoswpNr x) := rfl
theorem vadd x : Statement (.vadd x) := rfl
theorem vsub x : Statement (.vsub x) := rfl
theorem vmul x : Statement (.vmul x) := rfl
theorem vmulh x : Statement (.vmulh x) := rfl
theorem vmulhu x : Statement (.vmulhu x) := rfl
theorem vmacc x : Statement (.vmacc x) := rfl
theorem vand x : Statement (.vand x) := rfl
theorem vor x : Statement (.vor x) := rfl
theorem vxor x : Statement (.vxor x) := rfl
theorem vsll x : Statement (.vsll x) := rfl
theorem vsrl x : Statement (.vsrl x) := rfl
theorem vsra x : Statement (.vsra x) := rfl
theorem vmin x : Statement (.vmin x) := rfl
theorem vmax x : Statement (.vmax x) := rfl
theorem vminu x : Statement (.vminu x) := rfl
theorem vmaxu x : Statement (.vmaxu x) := rfl
theorem vsadd x : Statement (.vsadd x) := rfl
theorem vssub x : Statement (.vssub x) := rfl
theorem vnarrow x : Statement (.vnarrow x) := rfl
theorem vwiden x : Statement (.vwiden x) := rfl
theorem vfadd x : Statement (.vfadd x) := rfl
theorem vfsub x : Statement (.vfsub x) := rfl
theorem vfmul x : Statement (.vfmul x) := rfl
theorem vfma x : Statement (.vfma x) := rfl
theorem vfms x : Statement (.vfms x) := rfl
theorem vfnma x : Statement (.vfnma x) := rfl
theorem vfmin x : Statement (.vfmin x) := rfl
theorem vfmax x : Statement (.vfmax x) := rfl
theorem vfabs x : Statement (.vfabs x) := rfl
theorem vfneg x : Statement (.vfneg x) := rfl
theorem vfdiv x : Statement (.vfdiv x) := rfl
theorem vfsqrt x : Statement (.vfsqrt x) := rfl
theorem vfrcp x : Statement (.vfrcp x) := rfl
theorem vfrsq x : Statement (.vfrsq x) := rfl
theorem vfexp2 x : Statement (.vfexp2 x) := rfl
theorem vflog2 x : Statement (.vflog2 x) := rfl
theorem vfsin x : Statement (.vfsin x) := rfl
theorem vfcos x : Statement (.vfcos x) := rfl
theorem vfcvt x : Statement (.vfcvt x) := rfl
theorem vfcvti x : Statement (.vfcvti x) := rfl
theorem vfcvtf x : Statement (.vfcvtf x) := rfl
theorem vcmpeq x : Statement (.vcmpeq x) := rfl
theorem vcmpne x : Statement (.vcmpne x) := rfl
theorem vcmplt x : Statement (.vcmplt x) := rfl
theorem vcmple x : Statement (.vcmple x) := rfl
theorem vcmpltu x : Statement (.vcmpltu x) := rfl
theorem vcmpleu x : Statement (.vcmpleu x) := rfl
theorem vfcmpeq x : Statement (.vfcmpeq x) := rfl
theorem vfcmplt x : Statement (.vfcmplt x) := rfl
theorem vfcmple x : Statement (.vfcmple x) := rfl
theorem vfcmpun x : Statement (.vfcmpun x) := rfl
theorem mand x : Statement (.mand x) := rfl
theorem mor x : Statement (.mor x) := rfl
theorem mxor x : Statement (.mxor x) := rfl
theorem mnot x : Statement (.mnot x) := rfl
theorem mffs x : Statement (.mffs x) := rfl
theorem mpop x : Statement (.mpop x) := rfl
theorem mset x : Statement (.mset x) := rfl
theorem vidx x : Statement (.vidx x) := rfl
theorem vmsel x : Statement (.vmsel x) := rfl
theorem vperm x : Statement (.vperm x) := rfl
theorem vslup x : Statement (.vslup x) := rfl
theorem vsldn x : Statement (.vsldn x) := rfl
theorem vcmpr x : Statement (.vcmpr x) := rfl
theorem vexpd x : Statement (.vexpd x) := rfl
theorem vbcst x : Statement (.vbcst x) := rfl
theorem vmvxs x : Statement (.vmvxs x) := rfl
theorem vmvsx x : Statement (.vmvsx x) := rfl
theorem vmov x : Statement (.vmov x) := rfl
theorem vxchg x : Statement (.vxchg x) := rfl
theorem vkrank x : Statement (.vkrank x) := rfl
theorem vhist x : Statement (.vhist x) := rfl
theorem vredsum x : Statement (.vredsum x) := rfl
theorem vredmax x : Statement (.vredmax x) := rfl
theorem vredmin x : Statement (.vredmin x) := rfl
theorem vfredo x : Statement (.vfredo x) := rfl
theorem vfredf x : Statement (.vfredf x) := rfl
theorem vfredmax x : Statement (.vfredmax x) := rfl
theorem vfredmin x : Statement (.vfredmin x) := rfl
theorem tset x : Statement (.tset x) := rfl
theorem tldb x : Statement (.tldb x) := rfl
theorem tmma x : Statement (.tmma x) := rfl
theorem tmmaf x : Statement (.tmmaf x) := rfl
theorem tmmap x : Statement (.tmmap x) := rfl
theorem tmmapf x : Statement (.tmmapf x) := rfl
theorem trda x : Statement (.trda x) := rfl
theorem tzacc x : Statement (.tzacc x) := rfl
theorem tadda x : Statement (.tadda x) := rfl
theorem mmsx x : Statement (.mmsx x) := rfl
theorem edge x : Statement (.edge x) := rfl
theorem boxt x : Statement (.boxt x) := rfl
theorem trit x : Statement (.trit x) := rfl
theorem texf x : Statement (.texf x) := rfl
theorem texq x : Statement (.texq x) := rfl
theorem pxcmt x : Statement (.pxcmt x) := rfl
theorem tclr x : Statement (.tclr x) := rfl
theorem trslv x : Statement (.trslv x) := rfl
theorem repf x : Statement (.repf x) := rfl
theorem cmov x : Statement (.cmov x) := rfl
theorem cli x : Statement (.cli x) := rfl
theorem caddi x : Statement (.caddi x) := rfl
theorem cadd x : Statement (.cadd x) := rfl
theorem csub x : Statement (.csub x) := rfl
theorem cand x : Statement (.cand x) := rfl
theorem cslli x : Statement (.cslli x) := rfl
theorem csrli x : Statement (.csrli x) := rfl
theorem cld x : Statement (.cld x) := rfl
theorem cst x : Statement (.cst x) := rfl
theorem cbp x : Statement (.cbp x) := rfl
theorem cbpn x : Statement (.cbpn x) := rfl
theorem cvadd x : Statement (.cvadd x) := rfl
theorem cvmul x : Statement (.cvmul x) := rfl
theorem cvfadd x : Statement (.cvfadd x) := rfl
theorem cvfma x : Statement (.cvfma x) := rfl
theorem dispatch cluster : Statement (.dispatch cluster) := rfl
theorem launchCompletion launch : Statement (.launchCompletion launch) := rfl
theorem chunkCommit slot : Statement (.chunkCommit slot) := rfl
theorem externalClusterWrite cluster sector : Statement (.externalClusterWrite cluster sector) := rfl
theorem impreciseFaultTrap slot : Statement (.impreciseFaultTrap slot) := rfl
theorem pendingResultArrival slot : Statement (.pendingResultArrival slot) := rfl
theorem loadDataArrival slot : Statement (.loadDataArrival slot) := rfl
theorem spanGrant slot : Statement (.spanGrant slot) := rfl
theorem icacheFill core : Statement (.icacheFill core) := rfl
theorem migrationArrival slot : Statement (.migrationArrival slot) := rfl
theorem runQueueFallback slot : Statement (.runQueueFallback slot) := rfl
theorem popWaitWake slot : Statement (.popWaitWake slot) := rfl
theorem capacityWaitWake slot : Statement (.capacityWaitWake slot) := rfl
theorem preemptionRequest cluster : Statement (.preemptionRequest cluster) := rfl
theorem timeSliceTrap slot : Statement (.timeSliceTrap slot) := rfl
theorem hostInterrupt slot : Statement (.hostInterrupt slot) := rfl
theorem slotReset slot : Statement (.slotReset slot) := rfl
theorem sleepWake slot : Statement (.sleepWake slot) := rfl
theorem pairPartnerTimeout slot : Statement (.pairPartnerTimeout slot) := rfl
theorem agingStep queue seq : Statement (.agingStep queue seq) := rfl
theorem gangReservationStart queue : Statement (.gangReservationStart queue) := rfl
theorem closedClusterFallback queue : Statement (.closedClusterFallback queue) := rfl
theorem clusterSteal cluster : Statement (.clusterSteal cluster) := rfl
theorem resumeWaitTimeout queue : Statement (.resumeWaitTimeout queue) := rfl
theorem homeTakeRequest ctr : Statement (.homeTakeRequest ctr) := rfl
theorem homeGive ctr : Statement (.homeGive ctr) := rfl
theorem recallMessage ctr cluster : Statement (.recallMessage ctr cluster) := rfl
theorem recallExactPoint ctr : Statement (.recallExactPoint ctr) := rfl
theorem parkedTakeGrant ctr : Statement (.parkedTakeGrant ctr) := rfl
theorem recallHolderTimeout ctr cluster : Statement (.recallHolderTimeout ctr cluster) := rfl
theorem barwtWake slot : Statement (.barwtWake slot) := rfl
theorem hcpy engine : Statement (.hcpy engine) := rfl
theorem hcpyt engine : Statement (.hcpyt engine) := rfl
theorem hgth engine : Statement (.hgth engine) := rfl
theorem hsct engine : Statement (.hsct engine) := rfl
theorem hfil engine : Statement (.hfil engine) := rfl
theorem hred engine : Statement (.hred engine) := rfl
theorem hsig engine : Statement (.hsig engine) := rfl
theorem engineCommandComplete engine : Statement (.engineCommandComplete engine) := rfl
theorem resultRecordPlace engine : Statement (.resultRecordPlace engine) := rfl
theorem jobCardTile engine : Statement (.jobCardTile engine) := rfl
theorem redaddPerform : Statement .redaddPerform := rfl
theorem replayEnqueueRetry : Statement .replayEnqueueRetry := rfl
theorem queueSwapIn queue : Statement (.queueSwapIn queue) := rfl
theorem pendingQueueSwapIn die : Statement (.pendingQueueSwapIn die) := rfl
theorem qctlMakeResident die asid handle : Statement (.qctlMakeResident die asid handle) := rfl
theorem qctlEvict die asid handle : Statement (.qctlEvict die asid handle) := rfl
theorem qctlRetire die asid handle : Statement (.qctlRetire die asid handle) := rfl
theorem sctlWrite die value : Statement (.sctlWrite die value) := rfl
theorem hostWindowWrite port fn offset nbytes data : Statement (.hostWindowWrite port fn offset nbytes data) := rfl
theorem heldWindowWriteDrop : Statement .heldWindowWriteDrop := rfl
theorem translationRequest host who : Statement (.translationRequest host who) := rfl
theorem pageMove pte frame tier peer : Statement (.pageMove pte frame tier peer) := rfl
theorem settleExpiry frame : Statement (.settleExpiry frame) := rfl
theorem directoryRead sector agent : Statement (.directoryRead sector agent) := rfl
theorem directoryWriteOwnership sector agent : Statement (.directoryWriteOwnership sector agent) := rfl
theorem sectorEvict sector agent : Statement (.sectorEvict sector agent) := rfl
theorem dieCacheLineEviction line : Statement (.dieCacheLineEviction line) := rfl
theorem ptbaseWrite slot value : Statement (.ptbaseWrite slot value) := rfl
theorem vctxWrite slot value : Statement (.vctxWrite slot value) := rfl
theorem vectorLengthWrite slot reg value : Statement (.vectorLengthWrite slot reg value) := rfl
theorem tileShapeWrite slot reg value : Statement (.tileShapeWrite slot reg value) := rfl
theorem pwreqWrite slot value : Statement (.pwreqWrite slot value) := rfl
theorem leaseWrite slot value : Statement (.leaseWrite slot value) := rfl
theorem pwbudWrite slot value : Statement (.pwbudWrite slot value) := rfl
theorem hmodeWrite part value : Statement (.hmodeWrite part value) := rfl
theorem registerWrite addr value : Statement (.registerWrite addr value) := rfl
theorem ffaddWrite die tier value : Statement (.ffaddWrite die tier value) := rfl
theorem frameRecall die value : Statement (.frameRecall die value) := rfl
theorem frameRecallComplete die : Statement (.frameRecallComplete die) := rfl
theorem modctlWrite value : Statement (.modctlWrite value) := rfl
theorem modeNormalEntry : Statement .modeNormalEntry := rfl
theorem moduleReset : Statement .moduleReset := rfl
theorem hostPortEnumerated port : Statement (.hostPortEnumerated port) := rfl
theorem bondFabricTrained : Statement .bondFabricTrained := rfl
theorem dieReady die : Statement (.dieReady die) := rfl
theorem clusterReady cluster : Statement (.clusterReady cluster) := rfl
theorem bringupTimeout isDie unit : Statement (.bringupTimeout isDie unit) := rfl
theorem slowLoopPeriod m : Statement (.slowLoopPeriod m) := rfl
theorem leaseExpiry slot : Statement (.leaseExpiry slot) := rfl
theorem droopDetected cluster mv : Statement (.droopDetected cluster mv) := rfl
theorem railMonitorHold amps : Statement (.railMonitorHold amps) := rfl
theorem stepRise cluster : Statement (.stepRise cluster) := rfl
theorem ccapWrite part cluster value : Statement (.ccapWrite part cluster value) := rfl
theorem clusterOvertemp cluster temp : Statement (.clusterOvertemp cluster temp) := rfl
theorem overtempClear cluster temp : Statement (.overtempClear cluster temp) := rfl
theorem thermalTrip cluster temp : Statement (.thermalTrip cluster temp) := rfl
theorem thermalTripReturn cluster temp : Statement (.thermalTripReturn cluster temp) := rfl
theorem railOvercurrent amps : Statement (.railOvercurrent amps) := rfl
theorem powerTrip amps watts : Statement (.powerTrip amps watts) := rfl
theorem watchdogExpiry asid : Statement (.watchdogExpiry asid) := rfl
theorem correctedError die info : Statement (.correctedError die info) := rfl
theorem uncorrectedError asid reason addr : Statement (.uncorrectedError asid reason addr) := rfl
theorem persistentError core kind unit : Statement (.persistentError core kind unit) := rfl
theorem laneSliceFence core : Statement (.laneSliceFence core) := rfl
theorem macroScrub core cell ok : Statement (.macroScrub core cell ok) := rfl
theorem birfelFlitReplay link : Statement (.birfelFlitReplay link) := rfl
theorem birfelLinkDrop link : Statement (.birfelLinkDrop link) := rfl
theorem peerUnreachable peer : Statement (.peerUnreachable peer) := rfl
theorem peerFlagMessage stream seq addr value : Statement (.peerFlagMessage stream seq addr value) := rfl
theorem bondLinkFailure die : Statement (.bondLinkFailure die) := rfl
theorem dieUnreachable die : Statement (.dieUnreachable die) := rfl
theorem dieReturn die : Statement (.dieReturn die) := rfl
theorem hostPortLinkDown port : Statement (.hostPortLinkDown port) := rfl
theorem getVersion port : Statement (.getVersion port) := rfl
theorem getCapabilities port : Statement (.getCapabilities port) := rfl
theorem negotiateAlgorithms port : Statement (.negotiateAlgorithms port) := rfl
theorem getDigests port : Statement (.getDigests port) := rfl
theorem getCertificate port : Statement (.getCertificate port) := rfl
theorem challenge port nonce : Statement (.challenge port nonce) := rfl
theorem getMeasurements port : Statement (.getMeasurements port) := rfl
theorem mctpReport : Statement .mctpReport := rfl
theorem hctlWrite head value : Statement (.hctlWrite head value) := rfl
theorem headRaise head : Statement (.headRaise head) := rfl
theorem headDeadline head : Statement (.headDeadline head) := rfl
theorem scanoutReadFault head cause reason addr : Statement (.scanoutReadFault head cause reason addr) := rfl
theorem commitPacket cluster : Statement (.commitPacket cluster) := rfl
theorem resolveCredit : Statement .resolveCredit := rfl
theorem stuckTile cluster tile : Statement (.stuckTile cluster tile) := rfl
theorem tcskipWrite cluster value : Statement (.tcskipWrite cluster value) := rfl
theorem vectorUnitDispatch slot : Statement (.vectorUnitDispatch slot) := rfl
theorem unallocatedEncoding reason : Statement (.unallocatedEncoding reason) := rfl
theorem fetchFault reason level addr : Statement (.fetchFault reason level addr) := rfl
theorem birfelLinkTrained link peer : Statement (.birfelLinkTrained link peer) := rfl
theorem presentationHeadUsable head : Statement (.presentationHeadUsable head) := rfl

end Sys2Proof.Laws.Encodes
end

