-- ==== Sys2Proof/Laws/State.lean ====
section
/-! SUPPORT. Laws/State.lean: for every named update of the state, what each field reads afterwards, and the accessors
read through the updates. -/

namespace Sys2Proof.Machine

/-! putSlot. -/

@[simp] theorem putSlot_cores (s : State) (k : Nat) (x : Slot) : (s.putSlot k x).cores = s.cores := rfl
@[simp] theorem putSlot_clusters (s : State) (k : Nat) (x : Slot) : (s.putSlot k x).clusters = s.clusters := rfl
@[simp] theorem putSlot_dies (s : State) (k : Nat) (x : Slot) : (s.putSlot k x).dies = s.dies := rfl
@[simp] theorem putSlot_mem (s : State) (k : Nat) (x : Slot) : (s.putSlot k x).mem = s.mem := rfl
@[simp] theorem putSlot_dir (s : State) (k : Nat) (x : Slot) : (s.putSlot k x).dir = s.dir := rfl
@[simp] theorem putSlot_moves (s : State) (k : Nat) (x : Slot) : (s.putSlot k x).moves = s.moves := rfl
@[simp] theorem putSlot_poison (s : State) (k : Nat) (x : Slot) : (s.putSlot k x).poison = s.poison := rfl
@[simp] theorem putSlot_dev (s : State) (k : Nat) (x : Slot) : (s.putSlot k x).dev = s.dev := rfl
@[simp] theorem putSlot_hmode (s : State) (k : Nat) (x : Slot) : (s.putSlot k x).hmode = s.hmode := rfl
@[simp] theorem putSlot_pool (s : State) (k : Nat) (x : Slot) : (s.putSlot k x).pool = s.pool := rfl
@[simp] theorem putSlot_colour (s : State) (k : Nat) (x : Slot) : (s.putSlot k x).colour = s.colour := rfl
@[simp] theorem putSlot_rdy (s : State) (k : Nat) (x : Slot) : (s.putSlot k x).rdy = s.rdy := rfl
@[simp] theorem putSlot_modctl (s : State) (k : Nat) (x : Slot) : (s.putSlot k x).modctl = s.modctl := rfl
@[simp] theorem putSlot_ctrs (s : State) (k : Nat) (x : Slot) : (s.putSlot k x).ctrs = s.ctrs := rfl
@[simp] theorem putSlot_queues (s : State) (k : Nat) (x : Slot) : (s.putSlot k x).queues = s.queues := rfl
@[simp] theorem putSlot_launches (s : State) (k : Nat) (x : Slot) : (s.putSlot k x).launches = s.launches := rfl
@[simp] theorem putSlot_procs (s : State) (k : Nat) (x : Slot) : (s.putSlot k x).procs = s.procs := rfl
@[simp] theorem putSlot_reds (s : State) (k : Nat) (x : Slot) : (s.putSlot k x).reds = s.reds := rfl
@[simp] theorem putSlot_replays (s : State) (k : Nat) (x : Slot) : (s.putSlot k x).replays = s.replays := rfl
@[simp] theorem putSlot_engines (s : State) (k : Nat) (x : Slot) : (s.putSlot k x).engines = s.engines := rfl
@[simp] theorem putSlot_results (s : State) (k : Nat) (x : Slot) : (s.putSlot k x).results = s.results := rfl
@[simp] theorem putSlot_heads (s : State) (k : Nat) (x : Slot) : (s.putSlot k x).heads = s.heads := rfl
@[simp] theorem putSlot_heldWrites (s : State) (k : Nat) (x : Slot) : (s.putSlot k x).heldWrites = s.heldWrites := rfl
@[simp] theorem putSlot_credits (s : State) (k : Nat) (x : Slot) : (s.putSlot k x).credits = s.credits := rfl
@[simp] theorem putSlot_translations (s : State) (k : Nat) (x : Slot) : (s.putSlot k x).translations = s.translations := rfl
@[simp] theorem putSlot_frames (s : State) (k : Nat) (x : Slot) : (s.putSlot k x).frames = s.frames := rfl
@[simp] theorem putSlot_streams (s : State) (k : Nat) (x : Slot) : (s.putSlot k x).streams = s.streams := rfl
@[simp] theorem putSlot_links (s : State) (k : Nat) (x : Slot) : (s.putSlot k x).links = s.links := rfl
@[simp] theorem putSlot_peersLost (s : State) (k : Nat) (x : Slot) : (s.putSlot k x).peersLost = s.peersLost := rfl
@[simp] theorem putSlot_cecnt (s : State) (k : Nat) (x : Slot) : (s.putSlot k x).cecnt = s.cecnt := rfl
@[simp] theorem putSlot_celast (s : State) (k : Nat) (x : Slot) : (s.putSlot k x).celast = s.celast := rfl
@[simp] theorem putSlot_retcnt (s : State) (k : Nat) (x : Slot) : (s.putSlot k x).retcnt = s.retcnt := rfl
@[simp] theorem putSlot_railHold (s : State) (k : Nat) (x : Slot) : (s.putSlot k x).railHold = s.railHold := rfl
@[simp] theorem putSlot_power (s : State) (k : Nat) (x : Slot) : (s.putSlot k x).power = s.power := rfl
@[simp] theorem putSlot_tripKept (s : State) (k : Nat) (x : Slot) : (s.putSlot k x).tripKept = s.tripKept := rfl
@[simp] theorem putSlot_absent (s : State) (k : Nat) (x : Slot) : (s.putSlot k x).absent = s.absent := rfl
@[simp] theorem putSlot_cameUp (s : State) (k : Nat) (x : Slot) : (s.putSlot k x).cameUp = s.cameUp := rfl
@[simp] theorem putSlot_bondAt (s : State) (k : Nat) (x : Slot) : (s.putSlot k x).bondAt = s.bondAt := rfl
@[simp] theorem putSlot_bondFailed (s : State) (k : Nat) (x : Slot) : (s.putSlot k x).bondFailed = s.bondFailed := rfl
@[simp] theorem putSlot_peerDown (s : State) (k : Nat) (x : Slot) : (s.putSlot k x).peerDown = s.peerDown := rfl
@[simp] theorem putSlot_lately (s : State) (k : Nat) (x : Slot) : (s.putSlot k x).lately = s.lately := rfl
@[simp] theorem putSlot_rootLog (s : State) (k : Nat) (x : Slot) : (s.putSlot k x).rootLog = s.rootLog := rfl
@[simp] theorem putSlot_output (s : State) (k : Nat) (x : Slot) : (s.putSlot k x).output = s.output := rfl
@[simp] theorem putSlot_msixHeld (s : State) (k : Nat) (x : Slot) : (s.putSlot k x).msixHeld = s.msixHeld := rfl
@[simp] theorem putSlot_cycle (s : State) (k : Nat) (x : Slot) : (s.putSlot k x).cycle = s.cycle := rfl
@[simp] theorem putSlot_agenda (s : State) (k : Nat) (x : Slot) : (s.putSlot k x).agenda = s.agenda := rfl
@[simp] theorem putSlot_turn (s : State) (k : Nat) (x : Slot) : (s.putSlot k x).turn = s.turn := rfl
@[simp] theorem putSlot_cur (s : State) (k : Nat) (x : Slot) : (s.putSlot k x).cur = s.cur := rfl
@[simp] theorem putSlot_free (s : State) (k : Nat) (x : Slot) : (s.putSlot k x).free = s.free := rfl
@[simp] theorem putSlot_nlaunch (s : State) (k : Nat) (x : Slot) : (s.putSlot k x).nlaunch = s.nlaunch := rfl

/-! onSlot. -/

@[simp] theorem onSlot_cores (s : State) (k : Nat) (f : Slot → Slot) : (s.onSlot k f).cores = s.cores := rfl
@[simp] theorem onSlot_clusters (s : State) (k : Nat) (f : Slot → Slot) : (s.onSlot k f).clusters = s.clusters := rfl
@[simp] theorem onSlot_dies (s : State) (k : Nat) (f : Slot → Slot) : (s.onSlot k f).dies = s.dies := rfl
@[simp] theorem onSlot_mem (s : State) (k : Nat) (f : Slot → Slot) : (s.onSlot k f).mem = s.mem := rfl
@[simp] theorem onSlot_dir (s : State) (k : Nat) (f : Slot → Slot) : (s.onSlot k f).dir = s.dir := rfl
@[simp] theorem onSlot_moves (s : State) (k : Nat) (f : Slot → Slot) : (s.onSlot k f).moves = s.moves := rfl
@[simp] theorem onSlot_poison (s : State) (k : Nat) (f : Slot → Slot) : (s.onSlot k f).poison = s.poison := rfl
@[simp] theorem onSlot_dev (s : State) (k : Nat) (f : Slot → Slot) : (s.onSlot k f).dev = s.dev := rfl
@[simp] theorem onSlot_hmode (s : State) (k : Nat) (f : Slot → Slot) : (s.onSlot k f).hmode = s.hmode := rfl
@[simp] theorem onSlot_pool (s : State) (k : Nat) (f : Slot → Slot) : (s.onSlot k f).pool = s.pool := rfl
@[simp] theorem onSlot_colour (s : State) (k : Nat) (f : Slot → Slot) : (s.onSlot k f).colour = s.colour := rfl
@[simp] theorem onSlot_rdy (s : State) (k : Nat) (f : Slot → Slot) : (s.onSlot k f).rdy = s.rdy := rfl
@[simp] theorem onSlot_modctl (s : State) (k : Nat) (f : Slot → Slot) : (s.onSlot k f).modctl = s.modctl := rfl
@[simp] theorem onSlot_ctrs (s : State) (k : Nat) (f : Slot → Slot) : (s.onSlot k f).ctrs = s.ctrs := rfl
@[simp] theorem onSlot_queues (s : State) (k : Nat) (f : Slot → Slot) : (s.onSlot k f).queues = s.queues := rfl
@[simp] theorem onSlot_launches (s : State) (k : Nat) (f : Slot → Slot) : (s.onSlot k f).launches = s.launches := rfl
@[simp] theorem onSlot_procs (s : State) (k : Nat) (f : Slot → Slot) : (s.onSlot k f).procs = s.procs := rfl
@[simp] theorem onSlot_reds (s : State) (k : Nat) (f : Slot → Slot) : (s.onSlot k f).reds = s.reds := rfl
@[simp] theorem onSlot_replays (s : State) (k : Nat) (f : Slot → Slot) : (s.onSlot k f).replays = s.replays := rfl
@[simp] theorem onSlot_engines (s : State) (k : Nat) (f : Slot → Slot) : (s.onSlot k f).engines = s.engines := rfl
@[simp] theorem onSlot_results (s : State) (k : Nat) (f : Slot → Slot) : (s.onSlot k f).results = s.results := rfl
@[simp] theorem onSlot_heads (s : State) (k : Nat) (f : Slot → Slot) : (s.onSlot k f).heads = s.heads := rfl
@[simp] theorem onSlot_heldWrites (s : State) (k : Nat) (f : Slot → Slot) : (s.onSlot k f).heldWrites = s.heldWrites := rfl
@[simp] theorem onSlot_credits (s : State) (k : Nat) (f : Slot → Slot) : (s.onSlot k f).credits = s.credits := rfl
@[simp] theorem onSlot_translations (s : State) (k : Nat) (f : Slot → Slot) : (s.onSlot k f).translations = s.translations := rfl
@[simp] theorem onSlot_frames (s : State) (k : Nat) (f : Slot → Slot) : (s.onSlot k f).frames = s.frames := rfl
@[simp] theorem onSlot_streams (s : State) (k : Nat) (f : Slot → Slot) : (s.onSlot k f).streams = s.streams := rfl
@[simp] theorem onSlot_links (s : State) (k : Nat) (f : Slot → Slot) : (s.onSlot k f).links = s.links := rfl
@[simp] theorem onSlot_peersLost (s : State) (k : Nat) (f : Slot → Slot) : (s.onSlot k f).peersLost = s.peersLost := rfl
@[simp] theorem onSlot_cecnt (s : State) (k : Nat) (f : Slot → Slot) : (s.onSlot k f).cecnt = s.cecnt := rfl
@[simp] theorem onSlot_celast (s : State) (k : Nat) (f : Slot → Slot) : (s.onSlot k f).celast = s.celast := rfl
@[simp] theorem onSlot_retcnt (s : State) (k : Nat) (f : Slot → Slot) : (s.onSlot k f).retcnt = s.retcnt := rfl
@[simp] theorem onSlot_railHold (s : State) (k : Nat) (f : Slot → Slot) : (s.onSlot k f).railHold = s.railHold := rfl
@[simp] theorem onSlot_power (s : State) (k : Nat) (f : Slot → Slot) : (s.onSlot k f).power = s.power := rfl
@[simp] theorem onSlot_tripKept (s : State) (k : Nat) (f : Slot → Slot) : (s.onSlot k f).tripKept = s.tripKept := rfl
@[simp] theorem onSlot_absent (s : State) (k : Nat) (f : Slot → Slot) : (s.onSlot k f).absent = s.absent := rfl
@[simp] theorem onSlot_cameUp (s : State) (k : Nat) (f : Slot → Slot) : (s.onSlot k f).cameUp = s.cameUp := rfl
@[simp] theorem onSlot_bondAt (s : State) (k : Nat) (f : Slot → Slot) : (s.onSlot k f).bondAt = s.bondAt := rfl
@[simp] theorem onSlot_bondFailed (s : State) (k : Nat) (f : Slot → Slot) : (s.onSlot k f).bondFailed = s.bondFailed := rfl
@[simp] theorem onSlot_peerDown (s : State) (k : Nat) (f : Slot → Slot) : (s.onSlot k f).peerDown = s.peerDown := rfl
@[simp] theorem onSlot_lately (s : State) (k : Nat) (f : Slot → Slot) : (s.onSlot k f).lately = s.lately := rfl
@[simp] theorem onSlot_rootLog (s : State) (k : Nat) (f : Slot → Slot) : (s.onSlot k f).rootLog = s.rootLog := rfl
@[simp] theorem onSlot_output (s : State) (k : Nat) (f : Slot → Slot) : (s.onSlot k f).output = s.output := rfl
@[simp] theorem onSlot_msixHeld (s : State) (k : Nat) (f : Slot → Slot) : (s.onSlot k f).msixHeld = s.msixHeld := rfl
@[simp] theorem onSlot_cycle (s : State) (k : Nat) (f : Slot → Slot) : (s.onSlot k f).cycle = s.cycle := rfl
@[simp] theorem onSlot_agenda (s : State) (k : Nat) (f : Slot → Slot) : (s.onSlot k f).agenda = s.agenda := rfl
@[simp] theorem onSlot_turn (s : State) (k : Nat) (f : Slot → Slot) : (s.onSlot k f).turn = s.turn := rfl
@[simp] theorem onSlot_cur (s : State) (k : Nat) (f : Slot → Slot) : (s.onSlot k f).cur = s.cur := rfl
@[simp] theorem onSlot_free (s : State) (k : Nat) (f : Slot → Slot) : (s.onSlot k f).free = s.free := rfl
@[simp] theorem onSlot_nlaunch (s : State) (k : Nat) (f : Slot → Slot) : (s.onSlot k f).nlaunch = s.nlaunch := rfl

/-! onMe. -/

@[simp] theorem onMe_cores (s : State) (f : Slot → Slot) : (s.onMe f).cores = s.cores := rfl
@[simp] theorem onMe_clusters (s : State) (f : Slot → Slot) : (s.onMe f).clusters = s.clusters := rfl
@[simp] theorem onMe_dies (s : State) (f : Slot → Slot) : (s.onMe f).dies = s.dies := rfl
@[simp] theorem onMe_mem (s : State) (f : Slot → Slot) : (s.onMe f).mem = s.mem := rfl
@[simp] theorem onMe_dir (s : State) (f : Slot → Slot) : (s.onMe f).dir = s.dir := rfl
@[simp] theorem onMe_moves (s : State) (f : Slot → Slot) : (s.onMe f).moves = s.moves := rfl
@[simp] theorem onMe_poison (s : State) (f : Slot → Slot) : (s.onMe f).poison = s.poison := rfl
@[simp] theorem onMe_dev (s : State) (f : Slot → Slot) : (s.onMe f).dev = s.dev := rfl
@[simp] theorem onMe_hmode (s : State) (f : Slot → Slot) : (s.onMe f).hmode = s.hmode := rfl
@[simp] theorem onMe_pool (s : State) (f : Slot → Slot) : (s.onMe f).pool = s.pool := rfl
@[simp] theorem onMe_colour (s : State) (f : Slot → Slot) : (s.onMe f).colour = s.colour := rfl
@[simp] theorem onMe_rdy (s : State) (f : Slot → Slot) : (s.onMe f).rdy = s.rdy := rfl
@[simp] theorem onMe_modctl (s : State) (f : Slot → Slot) : (s.onMe f).modctl = s.modctl := rfl
@[simp] theorem onMe_ctrs (s : State) (f : Slot → Slot) : (s.onMe f).ctrs = s.ctrs := rfl
@[simp] theorem onMe_queues (s : State) (f : Slot → Slot) : (s.onMe f).queues = s.queues := rfl
@[simp] theorem onMe_launches (s : State) (f : Slot → Slot) : (s.onMe f).launches = s.launches := rfl
@[simp] theorem onMe_procs (s : State) (f : Slot → Slot) : (s.onMe f).procs = s.procs := rfl
@[simp] theorem onMe_reds (s : State) (f : Slot → Slot) : (s.onMe f).reds = s.reds := rfl
@[simp] theorem onMe_replays (s : State) (f : Slot → Slot) : (s.onMe f).replays = s.replays := rfl
@[simp] theorem onMe_engines (s : State) (f : Slot → Slot) : (s.onMe f).engines = s.engines := rfl
@[simp] theorem onMe_results (s : State) (f : Slot → Slot) : (s.onMe f).results = s.results := rfl
@[simp] theorem onMe_heads (s : State) (f : Slot → Slot) : (s.onMe f).heads = s.heads := rfl
@[simp] theorem onMe_heldWrites (s : State) (f : Slot → Slot) : (s.onMe f).heldWrites = s.heldWrites := rfl
@[simp] theorem onMe_credits (s : State) (f : Slot → Slot) : (s.onMe f).credits = s.credits := rfl
@[simp] theorem onMe_translations (s : State) (f : Slot → Slot) : (s.onMe f).translations = s.translations := rfl
@[simp] theorem onMe_frames (s : State) (f : Slot → Slot) : (s.onMe f).frames = s.frames := rfl
@[simp] theorem onMe_streams (s : State) (f : Slot → Slot) : (s.onMe f).streams = s.streams := rfl
@[simp] theorem onMe_links (s : State) (f : Slot → Slot) : (s.onMe f).links = s.links := rfl
@[simp] theorem onMe_peersLost (s : State) (f : Slot → Slot) : (s.onMe f).peersLost = s.peersLost := rfl
@[simp] theorem onMe_cecnt (s : State) (f : Slot → Slot) : (s.onMe f).cecnt = s.cecnt := rfl
@[simp] theorem onMe_celast (s : State) (f : Slot → Slot) : (s.onMe f).celast = s.celast := rfl
@[simp] theorem onMe_retcnt (s : State) (f : Slot → Slot) : (s.onMe f).retcnt = s.retcnt := rfl
@[simp] theorem onMe_railHold (s : State) (f : Slot → Slot) : (s.onMe f).railHold = s.railHold := rfl
@[simp] theorem onMe_power (s : State) (f : Slot → Slot) : (s.onMe f).power = s.power := rfl
@[simp] theorem onMe_tripKept (s : State) (f : Slot → Slot) : (s.onMe f).tripKept = s.tripKept := rfl
@[simp] theorem onMe_absent (s : State) (f : Slot → Slot) : (s.onMe f).absent = s.absent := rfl
@[simp] theorem onMe_cameUp (s : State) (f : Slot → Slot) : (s.onMe f).cameUp = s.cameUp := rfl
@[simp] theorem onMe_bondAt (s : State) (f : Slot → Slot) : (s.onMe f).bondAt = s.bondAt := rfl
@[simp] theorem onMe_bondFailed (s : State) (f : Slot → Slot) : (s.onMe f).bondFailed = s.bondFailed := rfl
@[simp] theorem onMe_peerDown (s : State) (f : Slot → Slot) : (s.onMe f).peerDown = s.peerDown := rfl
@[simp] theorem onMe_lately (s : State) (f : Slot → Slot) : (s.onMe f).lately = s.lately := rfl
@[simp] theorem onMe_rootLog (s : State) (f : Slot → Slot) : (s.onMe f).rootLog = s.rootLog := rfl
@[simp] theorem onMe_output (s : State) (f : Slot → Slot) : (s.onMe f).output = s.output := rfl
@[simp] theorem onMe_msixHeld (s : State) (f : Slot → Slot) : (s.onMe f).msixHeld = s.msixHeld := rfl
@[simp] theorem onMe_cycle (s : State) (f : Slot → Slot) : (s.onMe f).cycle = s.cycle := rfl
@[simp] theorem onMe_agenda (s : State) (f : Slot → Slot) : (s.onMe f).agenda = s.agenda := rfl
@[simp] theorem onMe_turn (s : State) (f : Slot → Slot) : (s.onMe f).turn = s.turn := rfl
@[simp] theorem onMe_cur (s : State) (f : Slot → Slot) : (s.onMe f).cur = s.cur := rfl
@[simp] theorem onMe_free (s : State) (f : Slot → Slot) : (s.onMe f).free = s.free := rfl
@[simp] theorem onMe_nlaunch (s : State) (f : Slot → Slot) : (s.onMe f).nlaunch = s.nlaunch := rfl

/-! wake. -/

@[simp] theorem wake_cores (s : State) (k : Nat) : (s.wake k).cores = s.cores := rfl
@[simp] theorem wake_clusters (s : State) (k : Nat) : (s.wake k).clusters = s.clusters := rfl
@[simp] theorem wake_dies (s : State) (k : Nat) : (s.wake k).dies = s.dies := rfl
@[simp] theorem wake_mem (s : State) (k : Nat) : (s.wake k).mem = s.mem := rfl
@[simp] theorem wake_dir (s : State) (k : Nat) : (s.wake k).dir = s.dir := rfl
@[simp] theorem wake_moves (s : State) (k : Nat) : (s.wake k).moves = s.moves := rfl
@[simp] theorem wake_poison (s : State) (k : Nat) : (s.wake k).poison = s.poison := rfl
@[simp] theorem wake_dev (s : State) (k : Nat) : (s.wake k).dev = s.dev := rfl
@[simp] theorem wake_hmode (s : State) (k : Nat) : (s.wake k).hmode = s.hmode := rfl
@[simp] theorem wake_pool (s : State) (k : Nat) : (s.wake k).pool = s.pool := rfl
@[simp] theorem wake_colour (s : State) (k : Nat) : (s.wake k).colour = s.colour := rfl
@[simp] theorem wake_rdy (s : State) (k : Nat) : (s.wake k).rdy = s.rdy := rfl
@[simp] theorem wake_modctl (s : State) (k : Nat) : (s.wake k).modctl = s.modctl := rfl
@[simp] theorem wake_ctrs (s : State) (k : Nat) : (s.wake k).ctrs = s.ctrs := rfl
@[simp] theorem wake_queues (s : State) (k : Nat) : (s.wake k).queues = s.queues := rfl
@[simp] theorem wake_launches (s : State) (k : Nat) : (s.wake k).launches = s.launches := rfl
@[simp] theorem wake_procs (s : State) (k : Nat) : (s.wake k).procs = s.procs := rfl
@[simp] theorem wake_reds (s : State) (k : Nat) : (s.wake k).reds = s.reds := rfl
@[simp] theorem wake_replays (s : State) (k : Nat) : (s.wake k).replays = s.replays := rfl
@[simp] theorem wake_engines (s : State) (k : Nat) : (s.wake k).engines = s.engines := rfl
@[simp] theorem wake_results (s : State) (k : Nat) : (s.wake k).results = s.results := rfl
@[simp] theorem wake_heads (s : State) (k : Nat) : (s.wake k).heads = s.heads := rfl
@[simp] theorem wake_heldWrites (s : State) (k : Nat) : (s.wake k).heldWrites = s.heldWrites := rfl
@[simp] theorem wake_credits (s : State) (k : Nat) : (s.wake k).credits = s.credits := rfl
@[simp] theorem wake_translations (s : State) (k : Nat) : (s.wake k).translations = s.translations := rfl
@[simp] theorem wake_frames (s : State) (k : Nat) : (s.wake k).frames = s.frames := rfl
@[simp] theorem wake_streams (s : State) (k : Nat) : (s.wake k).streams = s.streams := rfl
@[simp] theorem wake_links (s : State) (k : Nat) : (s.wake k).links = s.links := rfl
@[simp] theorem wake_peersLost (s : State) (k : Nat) : (s.wake k).peersLost = s.peersLost := rfl
@[simp] theorem wake_cecnt (s : State) (k : Nat) : (s.wake k).cecnt = s.cecnt := rfl
@[simp] theorem wake_celast (s : State) (k : Nat) : (s.wake k).celast = s.celast := rfl
@[simp] theorem wake_retcnt (s : State) (k : Nat) : (s.wake k).retcnt = s.retcnt := rfl
@[simp] theorem wake_railHold (s : State) (k : Nat) : (s.wake k).railHold = s.railHold := rfl
@[simp] theorem wake_power (s : State) (k : Nat) : (s.wake k).power = s.power := rfl
@[simp] theorem wake_tripKept (s : State) (k : Nat) : (s.wake k).tripKept = s.tripKept := rfl
@[simp] theorem wake_absent (s : State) (k : Nat) : (s.wake k).absent = s.absent := rfl
@[simp] theorem wake_cameUp (s : State) (k : Nat) : (s.wake k).cameUp = s.cameUp := rfl
@[simp] theorem wake_bondAt (s : State) (k : Nat) : (s.wake k).bondAt = s.bondAt := rfl
@[simp] theorem wake_bondFailed (s : State) (k : Nat) : (s.wake k).bondFailed = s.bondFailed := rfl
@[simp] theorem wake_peerDown (s : State) (k : Nat) : (s.wake k).peerDown = s.peerDown := rfl
@[simp] theorem wake_lately (s : State) (k : Nat) : (s.wake k).lately = s.lately := rfl
@[simp] theorem wake_rootLog (s : State) (k : Nat) : (s.wake k).rootLog = s.rootLog := rfl
@[simp] theorem wake_output (s : State) (k : Nat) : (s.wake k).output = s.output := rfl
@[simp] theorem wake_msixHeld (s : State) (k : Nat) : (s.wake k).msixHeld = s.msixHeld := rfl
@[simp] theorem wake_cycle (s : State) (k : Nat) : (s.wake k).cycle = s.cycle := rfl
@[simp] theorem wake_agenda (s : State) (k : Nat) : (s.wake k).agenda = s.agenda := rfl
@[simp] theorem wake_turn (s : State) (k : Nat) : (s.wake k).turn = s.turn := rfl
@[simp] theorem wake_cur (s : State) (k : Nat) : (s.wake k).cur = s.cur := rfl
@[simp] theorem wake_free (s : State) (k : Nat) : (s.wake k).free = s.free := rfl
@[simp] theorem wake_nlaunch (s : State) (k : Nat) : (s.wake k).nlaunch = s.nlaunch := rfl

/-! count. -/

@[simp] theorem count_cores (s : State) (k ev : Nat) : (s.count k ev).cores = s.cores := rfl
@[simp] theorem count_clusters (s : State) (k ev : Nat) : (s.count k ev).clusters = s.clusters := rfl
@[simp] theorem count_dies (s : State) (k ev : Nat) : (s.count k ev).dies = s.dies := rfl
@[simp] theorem count_mem (s : State) (k ev : Nat) : (s.count k ev).mem = s.mem := rfl
@[simp] theorem count_dir (s : State) (k ev : Nat) : (s.count k ev).dir = s.dir := rfl
@[simp] theorem count_moves (s : State) (k ev : Nat) : (s.count k ev).moves = s.moves := rfl
@[simp] theorem count_poison (s : State) (k ev : Nat) : (s.count k ev).poison = s.poison := rfl
@[simp] theorem count_dev (s : State) (k ev : Nat) : (s.count k ev).dev = s.dev := rfl
@[simp] theorem count_hmode (s : State) (k ev : Nat) : (s.count k ev).hmode = s.hmode := rfl
@[simp] theorem count_pool (s : State) (k ev : Nat) : (s.count k ev).pool = s.pool := rfl
@[simp] theorem count_colour (s : State) (k ev : Nat) : (s.count k ev).colour = s.colour := rfl
@[simp] theorem count_rdy (s : State) (k ev : Nat) : (s.count k ev).rdy = s.rdy := rfl
@[simp] theorem count_modctl (s : State) (k ev : Nat) : (s.count k ev).modctl = s.modctl := rfl
@[simp] theorem count_ctrs (s : State) (k ev : Nat) : (s.count k ev).ctrs = s.ctrs := rfl
@[simp] theorem count_queues (s : State) (k ev : Nat) : (s.count k ev).queues = s.queues := rfl
@[simp] theorem count_launches (s : State) (k ev : Nat) : (s.count k ev).launches = s.launches := rfl
@[simp] theorem count_procs (s : State) (k ev : Nat) : (s.count k ev).procs = s.procs := rfl
@[simp] theorem count_reds (s : State) (k ev : Nat) : (s.count k ev).reds = s.reds := rfl
@[simp] theorem count_replays (s : State) (k ev : Nat) : (s.count k ev).replays = s.replays := rfl
@[simp] theorem count_engines (s : State) (k ev : Nat) : (s.count k ev).engines = s.engines := rfl
@[simp] theorem count_results (s : State) (k ev : Nat) : (s.count k ev).results = s.results := rfl
@[simp] theorem count_heads (s : State) (k ev : Nat) : (s.count k ev).heads = s.heads := rfl
@[simp] theorem count_heldWrites (s : State) (k ev : Nat) : (s.count k ev).heldWrites = s.heldWrites := rfl
@[simp] theorem count_credits (s : State) (k ev : Nat) : (s.count k ev).credits = s.credits := rfl
@[simp] theorem count_translations (s : State) (k ev : Nat) : (s.count k ev).translations = s.translations := rfl
@[simp] theorem count_frames (s : State) (k ev : Nat) : (s.count k ev).frames = s.frames := rfl
@[simp] theorem count_streams (s : State) (k ev : Nat) : (s.count k ev).streams = s.streams := rfl
@[simp] theorem count_links (s : State) (k ev : Nat) : (s.count k ev).links = s.links := rfl
@[simp] theorem count_peersLost (s : State) (k ev : Nat) : (s.count k ev).peersLost = s.peersLost := rfl
@[simp] theorem count_cecnt (s : State) (k ev : Nat) : (s.count k ev).cecnt = s.cecnt := rfl
@[simp] theorem count_celast (s : State) (k ev : Nat) : (s.count k ev).celast = s.celast := rfl
@[simp] theorem count_retcnt (s : State) (k ev : Nat) : (s.count k ev).retcnt = s.retcnt := rfl
@[simp] theorem count_railHold (s : State) (k ev : Nat) : (s.count k ev).railHold = s.railHold := rfl
@[simp] theorem count_power (s : State) (k ev : Nat) : (s.count k ev).power = s.power := rfl
@[simp] theorem count_tripKept (s : State) (k ev : Nat) : (s.count k ev).tripKept = s.tripKept := rfl
@[simp] theorem count_absent (s : State) (k ev : Nat) : (s.count k ev).absent = s.absent := rfl
@[simp] theorem count_cameUp (s : State) (k ev : Nat) : (s.count k ev).cameUp = s.cameUp := rfl
@[simp] theorem count_bondAt (s : State) (k ev : Nat) : (s.count k ev).bondAt = s.bondAt := rfl
@[simp] theorem count_bondFailed (s : State) (k ev : Nat) : (s.count k ev).bondFailed = s.bondFailed := rfl
@[simp] theorem count_peerDown (s : State) (k ev : Nat) : (s.count k ev).peerDown = s.peerDown := rfl
@[simp] theorem count_lately (s : State) (k ev : Nat) : (s.count k ev).lately = s.lately := rfl
@[simp] theorem count_rootLog (s : State) (k ev : Nat) : (s.count k ev).rootLog = s.rootLog := rfl
@[simp] theorem count_output (s : State) (k ev : Nat) : (s.count k ev).output = s.output := rfl
@[simp] theorem count_msixHeld (s : State) (k ev : Nat) : (s.count k ev).msixHeld = s.msixHeld := rfl
@[simp] theorem count_cycle (s : State) (k ev : Nat) : (s.count k ev).cycle = s.cycle := rfl
@[simp] theorem count_agenda (s : State) (k ev : Nat) : (s.count k ev).agenda = s.agenda := rfl
@[simp] theorem count_turn (s : State) (k ev : Nat) : (s.count k ev).turn = s.turn := rfl
@[simp] theorem count_cur (s : State) (k ev : Nat) : (s.count k ev).cur = s.cur := rfl
@[simp] theorem count_free (s : State) (k ev : Nat) : (s.count k ev).free = s.free := rfl
@[simp] theorem count_nlaunch (s : State) (k ev : Nat) : (s.count k ev).nlaunch = s.nlaunch := rfl

/-! onCore. -/

@[simp] theorem onCore_slots (s : State) (c : Nat) (f : CoreSt → CoreSt) : (s.onCore c f).slots = s.slots := rfl
@[simp] theorem onCore_clusters (s : State) (c : Nat) (f : CoreSt → CoreSt) : (s.onCore c f).clusters = s.clusters := rfl
@[simp] theorem onCore_dies (s : State) (c : Nat) (f : CoreSt → CoreSt) : (s.onCore c f).dies = s.dies := rfl
@[simp] theorem onCore_mem (s : State) (c : Nat) (f : CoreSt → CoreSt) : (s.onCore c f).mem = s.mem := rfl
@[simp] theorem onCore_dir (s : State) (c : Nat) (f : CoreSt → CoreSt) : (s.onCore c f).dir = s.dir := rfl
@[simp] theorem onCore_moves (s : State) (c : Nat) (f : CoreSt → CoreSt) : (s.onCore c f).moves = s.moves := rfl
@[simp] theorem onCore_poison (s : State) (c : Nat) (f : CoreSt → CoreSt) : (s.onCore c f).poison = s.poison := rfl
@[simp] theorem onCore_dev (s : State) (c : Nat) (f : CoreSt → CoreSt) : (s.onCore c f).dev = s.dev := rfl
@[simp] theorem onCore_hmode (s : State) (c : Nat) (f : CoreSt → CoreSt) : (s.onCore c f).hmode = s.hmode := rfl
@[simp] theorem onCore_pool (s : State) (c : Nat) (f : CoreSt → CoreSt) : (s.onCore c f).pool = s.pool := rfl
@[simp] theorem onCore_colour (s : State) (c : Nat) (f : CoreSt → CoreSt) : (s.onCore c f).colour = s.colour := rfl
@[simp] theorem onCore_rdy (s : State) (c : Nat) (f : CoreSt → CoreSt) : (s.onCore c f).rdy = s.rdy := rfl
@[simp] theorem onCore_modctl (s : State) (c : Nat) (f : CoreSt → CoreSt) : (s.onCore c f).modctl = s.modctl := rfl
@[simp] theorem onCore_ctrs (s : State) (c : Nat) (f : CoreSt → CoreSt) : (s.onCore c f).ctrs = s.ctrs := rfl
@[simp] theorem onCore_queues (s : State) (c : Nat) (f : CoreSt → CoreSt) : (s.onCore c f).queues = s.queues := rfl
@[simp] theorem onCore_launches (s : State) (c : Nat) (f : CoreSt → CoreSt) : (s.onCore c f).launches = s.launches := rfl
@[simp] theorem onCore_procs (s : State) (c : Nat) (f : CoreSt → CoreSt) : (s.onCore c f).procs = s.procs := rfl
@[simp] theorem onCore_reds (s : State) (c : Nat) (f : CoreSt → CoreSt) : (s.onCore c f).reds = s.reds := rfl
@[simp] theorem onCore_replays (s : State) (c : Nat) (f : CoreSt → CoreSt) : (s.onCore c f).replays = s.replays := rfl
@[simp] theorem onCore_engines (s : State) (c : Nat) (f : CoreSt → CoreSt) : (s.onCore c f).engines = s.engines := rfl
@[simp] theorem onCore_results (s : State) (c : Nat) (f : CoreSt → CoreSt) : (s.onCore c f).results = s.results := rfl
@[simp] theorem onCore_heads (s : State) (c : Nat) (f : CoreSt → CoreSt) : (s.onCore c f).heads = s.heads := rfl
@[simp] theorem onCore_heldWrites (s : State) (c : Nat) (f : CoreSt → CoreSt) : (s.onCore c f).heldWrites = s.heldWrites := rfl
@[simp] theorem onCore_credits (s : State) (c : Nat) (f : CoreSt → CoreSt) : (s.onCore c f).credits = s.credits := rfl
@[simp] theorem onCore_translations (s : State) (c : Nat) (f : CoreSt → CoreSt) : (s.onCore c f).translations = s.translations := rfl
@[simp] theorem onCore_frames (s : State) (c : Nat) (f : CoreSt → CoreSt) : (s.onCore c f).frames = s.frames := rfl
@[simp] theorem onCore_streams (s : State) (c : Nat) (f : CoreSt → CoreSt) : (s.onCore c f).streams = s.streams := rfl
@[simp] theorem onCore_links (s : State) (c : Nat) (f : CoreSt → CoreSt) : (s.onCore c f).links = s.links := rfl
@[simp] theorem onCore_peersLost (s : State) (c : Nat) (f : CoreSt → CoreSt) : (s.onCore c f).peersLost = s.peersLost := rfl
@[simp] theorem onCore_cecnt (s : State) (c : Nat) (f : CoreSt → CoreSt) : (s.onCore c f).cecnt = s.cecnt := rfl
@[simp] theorem onCore_celast (s : State) (c : Nat) (f : CoreSt → CoreSt) : (s.onCore c f).celast = s.celast := rfl
@[simp] theorem onCore_retcnt (s : State) (c : Nat) (f : CoreSt → CoreSt) : (s.onCore c f).retcnt = s.retcnt := rfl
@[simp] theorem onCore_railHold (s : State) (c : Nat) (f : CoreSt → CoreSt) : (s.onCore c f).railHold = s.railHold := rfl
@[simp] theorem onCore_power (s : State) (c : Nat) (f : CoreSt → CoreSt) : (s.onCore c f).power = s.power := rfl
@[simp] theorem onCore_tripKept (s : State) (c : Nat) (f : CoreSt → CoreSt) : (s.onCore c f).tripKept = s.tripKept := rfl
@[simp] theorem onCore_absent (s : State) (c : Nat) (f : CoreSt → CoreSt) : (s.onCore c f).absent = s.absent := rfl
@[simp] theorem onCore_cameUp (s : State) (c : Nat) (f : CoreSt → CoreSt) : (s.onCore c f).cameUp = s.cameUp := rfl
@[simp] theorem onCore_bondAt (s : State) (c : Nat) (f : CoreSt → CoreSt) : (s.onCore c f).bondAt = s.bondAt := rfl
@[simp] theorem onCore_bondFailed (s : State) (c : Nat) (f : CoreSt → CoreSt) : (s.onCore c f).bondFailed = s.bondFailed := rfl
@[simp] theorem onCore_peerDown (s : State) (c : Nat) (f : CoreSt → CoreSt) : (s.onCore c f).peerDown = s.peerDown := rfl
@[simp] theorem onCore_lately (s : State) (c : Nat) (f : CoreSt → CoreSt) : (s.onCore c f).lately = s.lately := rfl
@[simp] theorem onCore_rootLog (s : State) (c : Nat) (f : CoreSt → CoreSt) : (s.onCore c f).rootLog = s.rootLog := rfl
@[simp] theorem onCore_output (s : State) (c : Nat) (f : CoreSt → CoreSt) : (s.onCore c f).output = s.output := rfl
@[simp] theorem onCore_msixHeld (s : State) (c : Nat) (f : CoreSt → CoreSt) : (s.onCore c f).msixHeld = s.msixHeld := rfl
@[simp] theorem onCore_cycle (s : State) (c : Nat) (f : CoreSt → CoreSt) : (s.onCore c f).cycle = s.cycle := rfl
@[simp] theorem onCore_agenda (s : State) (c : Nat) (f : CoreSt → CoreSt) : (s.onCore c f).agenda = s.agenda := rfl
@[simp] theorem onCore_turn (s : State) (c : Nat) (f : CoreSt → CoreSt) : (s.onCore c f).turn = s.turn := rfl
@[simp] theorem onCore_cur (s : State) (c : Nat) (f : CoreSt → CoreSt) : (s.onCore c f).cur = s.cur := rfl
@[simp] theorem onCore_free (s : State) (c : Nat) (f : CoreSt → CoreSt) : (s.onCore c f).free = s.free := rfl
@[simp] theorem onCore_nlaunch (s : State) (c : Nat) (f : CoreSt → CoreSt) : (s.onCore c f).nlaunch = s.nlaunch := rfl

/-! onCluster. -/

@[simp] theorem onCluster_slots (s : State) (c : Nat) (f : ClusterSt → ClusterSt) : (s.onCluster c f).slots = s.slots := rfl
@[simp] theorem onCluster_cores (s : State) (c : Nat) (f : ClusterSt → ClusterSt) : (s.onCluster c f).cores = s.cores := rfl
@[simp] theorem onCluster_dies (s : State) (c : Nat) (f : ClusterSt → ClusterSt) : (s.onCluster c f).dies = s.dies := rfl
@[simp] theorem onCluster_mem (s : State) (c : Nat) (f : ClusterSt → ClusterSt) : (s.onCluster c f).mem = s.mem := rfl
@[simp] theorem onCluster_dir (s : State) (c : Nat) (f : ClusterSt → ClusterSt) : (s.onCluster c f).dir = s.dir := rfl
@[simp] theorem onCluster_moves (s : State) (c : Nat) (f : ClusterSt → ClusterSt) : (s.onCluster c f).moves = s.moves := rfl
@[simp] theorem onCluster_poison (s : State) (c : Nat) (f : ClusterSt → ClusterSt) : (s.onCluster c f).poison = s.poison := rfl
@[simp] theorem onCluster_dev (s : State) (c : Nat) (f : ClusterSt → ClusterSt) : (s.onCluster c f).dev = s.dev := rfl
@[simp] theorem onCluster_hmode (s : State) (c : Nat) (f : ClusterSt → ClusterSt) : (s.onCluster c f).hmode = s.hmode := rfl
@[simp] theorem onCluster_pool (s : State) (c : Nat) (f : ClusterSt → ClusterSt) : (s.onCluster c f).pool = s.pool := rfl
@[simp] theorem onCluster_colour (s : State) (c : Nat) (f : ClusterSt → ClusterSt) : (s.onCluster c f).colour = s.colour := rfl
@[simp] theorem onCluster_rdy (s : State) (c : Nat) (f : ClusterSt → ClusterSt) : (s.onCluster c f).rdy = s.rdy := rfl
@[simp] theorem onCluster_modctl (s : State) (c : Nat) (f : ClusterSt → ClusterSt) : (s.onCluster c f).modctl = s.modctl := rfl
@[simp] theorem onCluster_ctrs (s : State) (c : Nat) (f : ClusterSt → ClusterSt) : (s.onCluster c f).ctrs = s.ctrs := rfl
@[simp] theorem onCluster_queues (s : State) (c : Nat) (f : ClusterSt → ClusterSt) : (s.onCluster c f).queues = s.queues := rfl
@[simp] theorem onCluster_launches (s : State) (c : Nat) (f : ClusterSt → ClusterSt) : (s.onCluster c f).launches = s.launches := rfl
@[simp] theorem onCluster_procs (s : State) (c : Nat) (f : ClusterSt → ClusterSt) : (s.onCluster c f).procs = s.procs := rfl
@[simp] theorem onCluster_reds (s : State) (c : Nat) (f : ClusterSt → ClusterSt) : (s.onCluster c f).reds = s.reds := rfl
@[simp] theorem onCluster_replays (s : State) (c : Nat) (f : ClusterSt → ClusterSt) : (s.onCluster c f).replays = s.replays := rfl
@[simp] theorem onCluster_engines (s : State) (c : Nat) (f : ClusterSt → ClusterSt) : (s.onCluster c f).engines = s.engines := rfl
@[simp] theorem onCluster_results (s : State) (c : Nat) (f : ClusterSt → ClusterSt) : (s.onCluster c f).results = s.results := rfl
@[simp] theorem onCluster_heads (s : State) (c : Nat) (f : ClusterSt → ClusterSt) : (s.onCluster c f).heads = s.heads := rfl
@[simp] theorem onCluster_heldWrites (s : State) (c : Nat) (f : ClusterSt → ClusterSt) : (s.onCluster c f).heldWrites = s.heldWrites := rfl
@[simp] theorem onCluster_credits (s : State) (c : Nat) (f : ClusterSt → ClusterSt) : (s.onCluster c f).credits = s.credits := rfl
@[simp] theorem onCluster_translations (s : State) (c : Nat) (f : ClusterSt → ClusterSt) : (s.onCluster c f).translations = s.translations := rfl
@[simp] theorem onCluster_frames (s : State) (c : Nat) (f : ClusterSt → ClusterSt) : (s.onCluster c f).frames = s.frames := rfl
@[simp] theorem onCluster_streams (s : State) (c : Nat) (f : ClusterSt → ClusterSt) : (s.onCluster c f).streams = s.streams := rfl
@[simp] theorem onCluster_links (s : State) (c : Nat) (f : ClusterSt → ClusterSt) : (s.onCluster c f).links = s.links := rfl
@[simp] theorem onCluster_peersLost (s : State) (c : Nat) (f : ClusterSt → ClusterSt) : (s.onCluster c f).peersLost = s.peersLost := rfl
@[simp] theorem onCluster_cecnt (s : State) (c : Nat) (f : ClusterSt → ClusterSt) : (s.onCluster c f).cecnt = s.cecnt := rfl
@[simp] theorem onCluster_celast (s : State) (c : Nat) (f : ClusterSt → ClusterSt) : (s.onCluster c f).celast = s.celast := rfl
@[simp] theorem onCluster_retcnt (s : State) (c : Nat) (f : ClusterSt → ClusterSt) : (s.onCluster c f).retcnt = s.retcnt := rfl
@[simp] theorem onCluster_railHold (s : State) (c : Nat) (f : ClusterSt → ClusterSt) : (s.onCluster c f).railHold = s.railHold := rfl
@[simp] theorem onCluster_power (s : State) (c : Nat) (f : ClusterSt → ClusterSt) : (s.onCluster c f).power = s.power := rfl
@[simp] theorem onCluster_tripKept (s : State) (c : Nat) (f : ClusterSt → ClusterSt) : (s.onCluster c f).tripKept = s.tripKept := rfl
@[simp] theorem onCluster_absent (s : State) (c : Nat) (f : ClusterSt → ClusterSt) : (s.onCluster c f).absent = s.absent := rfl
@[simp] theorem onCluster_cameUp (s : State) (c : Nat) (f : ClusterSt → ClusterSt) : (s.onCluster c f).cameUp = s.cameUp := rfl
@[simp] theorem onCluster_bondAt (s : State) (c : Nat) (f : ClusterSt → ClusterSt) : (s.onCluster c f).bondAt = s.bondAt := rfl
@[simp] theorem onCluster_bondFailed (s : State) (c : Nat) (f : ClusterSt → ClusterSt) : (s.onCluster c f).bondFailed = s.bondFailed := rfl
@[simp] theorem onCluster_peerDown (s : State) (c : Nat) (f : ClusterSt → ClusterSt) : (s.onCluster c f).peerDown = s.peerDown := rfl
@[simp] theorem onCluster_lately (s : State) (c : Nat) (f : ClusterSt → ClusterSt) : (s.onCluster c f).lately = s.lately := rfl
@[simp] theorem onCluster_rootLog (s : State) (c : Nat) (f : ClusterSt → ClusterSt) : (s.onCluster c f).rootLog = s.rootLog := rfl
@[simp] theorem onCluster_output (s : State) (c : Nat) (f : ClusterSt → ClusterSt) : (s.onCluster c f).output = s.output := rfl
@[simp] theorem onCluster_msixHeld (s : State) (c : Nat) (f : ClusterSt → ClusterSt) : (s.onCluster c f).msixHeld = s.msixHeld := rfl
@[simp] theorem onCluster_cycle (s : State) (c : Nat) (f : ClusterSt → ClusterSt) : (s.onCluster c f).cycle = s.cycle := rfl
@[simp] theorem onCluster_agenda (s : State) (c : Nat) (f : ClusterSt → ClusterSt) : (s.onCluster c f).agenda = s.agenda := rfl
@[simp] theorem onCluster_turn (s : State) (c : Nat) (f : ClusterSt → ClusterSt) : (s.onCluster c f).turn = s.turn := rfl
@[simp] theorem onCluster_cur (s : State) (c : Nat) (f : ClusterSt → ClusterSt) : (s.onCluster c f).cur = s.cur := rfl
@[simp] theorem onCluster_free (s : State) (c : Nat) (f : ClusterSt → ClusterSt) : (s.onCluster c f).free = s.free := rfl
@[simp] theorem onCluster_nlaunch (s : State) (c : Nat) (f : ClusterSt → ClusterSt) : (s.onCluster c f).nlaunch = s.nlaunch := rfl

/-! onDie. -/

@[simp] theorem onDie_slots (s : State) (d : Nat) (f : DieSt → DieSt) : (s.onDie d f).slots = s.slots := rfl
@[simp] theorem onDie_cores (s : State) (d : Nat) (f : DieSt → DieSt) : (s.onDie d f).cores = s.cores := rfl
@[simp] theorem onDie_clusters (s : State) (d : Nat) (f : DieSt → DieSt) : (s.onDie d f).clusters = s.clusters := rfl
@[simp] theorem onDie_mem (s : State) (d : Nat) (f : DieSt → DieSt) : (s.onDie d f).mem = s.mem := rfl
@[simp] theorem onDie_dir (s : State) (d : Nat) (f : DieSt → DieSt) : (s.onDie d f).dir = s.dir := rfl
@[simp] theorem onDie_moves (s : State) (d : Nat) (f : DieSt → DieSt) : (s.onDie d f).moves = s.moves := rfl
@[simp] theorem onDie_poison (s : State) (d : Nat) (f : DieSt → DieSt) : (s.onDie d f).poison = s.poison := rfl
@[simp] theorem onDie_dev (s : State) (d : Nat) (f : DieSt → DieSt) : (s.onDie d f).dev = s.dev := rfl
@[simp] theorem onDie_hmode (s : State) (d : Nat) (f : DieSt → DieSt) : (s.onDie d f).hmode = s.hmode := rfl
@[simp] theorem onDie_pool (s : State) (d : Nat) (f : DieSt → DieSt) : (s.onDie d f).pool = s.pool := rfl
@[simp] theorem onDie_colour (s : State) (d : Nat) (f : DieSt → DieSt) : (s.onDie d f).colour = s.colour := rfl
@[simp] theorem onDie_rdy (s : State) (d : Nat) (f : DieSt → DieSt) : (s.onDie d f).rdy = s.rdy := rfl
@[simp] theorem onDie_modctl (s : State) (d : Nat) (f : DieSt → DieSt) : (s.onDie d f).modctl = s.modctl := rfl
@[simp] theorem onDie_ctrs (s : State) (d : Nat) (f : DieSt → DieSt) : (s.onDie d f).ctrs = s.ctrs := rfl
@[simp] theorem onDie_queues (s : State) (d : Nat) (f : DieSt → DieSt) : (s.onDie d f).queues = s.queues := rfl
@[simp] theorem onDie_launches (s : State) (d : Nat) (f : DieSt → DieSt) : (s.onDie d f).launches = s.launches := rfl
@[simp] theorem onDie_procs (s : State) (d : Nat) (f : DieSt → DieSt) : (s.onDie d f).procs = s.procs := rfl
@[simp] theorem onDie_reds (s : State) (d : Nat) (f : DieSt → DieSt) : (s.onDie d f).reds = s.reds := rfl
@[simp] theorem onDie_replays (s : State) (d : Nat) (f : DieSt → DieSt) : (s.onDie d f).replays = s.replays := rfl
@[simp] theorem onDie_engines (s : State) (d : Nat) (f : DieSt → DieSt) : (s.onDie d f).engines = s.engines := rfl
@[simp] theorem onDie_results (s : State) (d : Nat) (f : DieSt → DieSt) : (s.onDie d f).results = s.results := rfl
@[simp] theorem onDie_heads (s : State) (d : Nat) (f : DieSt → DieSt) : (s.onDie d f).heads = s.heads := rfl
@[simp] theorem onDie_heldWrites (s : State) (d : Nat) (f : DieSt → DieSt) : (s.onDie d f).heldWrites = s.heldWrites := rfl
@[simp] theorem onDie_credits (s : State) (d : Nat) (f : DieSt → DieSt) : (s.onDie d f).credits = s.credits := rfl
@[simp] theorem onDie_translations (s : State) (d : Nat) (f : DieSt → DieSt) : (s.onDie d f).translations = s.translations := rfl
@[simp] theorem onDie_frames (s : State) (d : Nat) (f : DieSt → DieSt) : (s.onDie d f).frames = s.frames := rfl
@[simp] theorem onDie_streams (s : State) (d : Nat) (f : DieSt → DieSt) : (s.onDie d f).streams = s.streams := rfl
@[simp] theorem onDie_links (s : State) (d : Nat) (f : DieSt → DieSt) : (s.onDie d f).links = s.links := rfl
@[simp] theorem onDie_peersLost (s : State) (d : Nat) (f : DieSt → DieSt) : (s.onDie d f).peersLost = s.peersLost := rfl
@[simp] theorem onDie_cecnt (s : State) (d : Nat) (f : DieSt → DieSt) : (s.onDie d f).cecnt = s.cecnt := rfl
@[simp] theorem onDie_celast (s : State) (d : Nat) (f : DieSt → DieSt) : (s.onDie d f).celast = s.celast := rfl
@[simp] theorem onDie_retcnt (s : State) (d : Nat) (f : DieSt → DieSt) : (s.onDie d f).retcnt = s.retcnt := rfl
@[simp] theorem onDie_railHold (s : State) (d : Nat) (f : DieSt → DieSt) : (s.onDie d f).railHold = s.railHold := rfl
@[simp] theorem onDie_power (s : State) (d : Nat) (f : DieSt → DieSt) : (s.onDie d f).power = s.power := rfl
@[simp] theorem onDie_tripKept (s : State) (d : Nat) (f : DieSt → DieSt) : (s.onDie d f).tripKept = s.tripKept := rfl
@[simp] theorem onDie_absent (s : State) (d : Nat) (f : DieSt → DieSt) : (s.onDie d f).absent = s.absent := rfl
@[simp] theorem onDie_cameUp (s : State) (d : Nat) (f : DieSt → DieSt) : (s.onDie d f).cameUp = s.cameUp := rfl
@[simp] theorem onDie_bondAt (s : State) (d : Nat) (f : DieSt → DieSt) : (s.onDie d f).bondAt = s.bondAt := rfl
@[simp] theorem onDie_bondFailed (s : State) (d : Nat) (f : DieSt → DieSt) : (s.onDie d f).bondFailed = s.bondFailed := rfl
@[simp] theorem onDie_peerDown (s : State) (d : Nat) (f : DieSt → DieSt) : (s.onDie d f).peerDown = s.peerDown := rfl
@[simp] theorem onDie_lately (s : State) (d : Nat) (f : DieSt → DieSt) : (s.onDie d f).lately = s.lately := rfl
@[simp] theorem onDie_rootLog (s : State) (d : Nat) (f : DieSt → DieSt) : (s.onDie d f).rootLog = s.rootLog := rfl
@[simp] theorem onDie_output (s : State) (d : Nat) (f : DieSt → DieSt) : (s.onDie d f).output = s.output := rfl
@[simp] theorem onDie_msixHeld (s : State) (d : Nat) (f : DieSt → DieSt) : (s.onDie d f).msixHeld = s.msixHeld := rfl
@[simp] theorem onDie_cycle (s : State) (d : Nat) (f : DieSt → DieSt) : (s.onDie d f).cycle = s.cycle := rfl
@[simp] theorem onDie_agenda (s : State) (d : Nat) (f : DieSt → DieSt) : (s.onDie d f).agenda = s.agenda := rfl
@[simp] theorem onDie_turn (s : State) (d : Nat) (f : DieSt → DieSt) : (s.onDie d f).turn = s.turn := rfl
@[simp] theorem onDie_cur (s : State) (d : Nat) (f : DieSt → DieSt) : (s.onDie d f).cur = s.cur := rfl
@[simp] theorem onDie_free (s : State) (d : Nat) (f : DieSt → DieSt) : (s.onDie d f).free = s.free := rfl
@[simp] theorem onDie_nlaunch (s : State) (d : Nat) (f : DieSt → DieSt) : (s.onDie d f).nlaunch = s.nlaunch := rfl

/-! putQueue. -/

@[simp] theorem putQueue_slots (s : State) (k : Nat) (q : Option QueueSt) : (s.putQueue k q).slots = s.slots := rfl
@[simp] theorem putQueue_cores (s : State) (k : Nat) (q : Option QueueSt) : (s.putQueue k q).cores = s.cores := rfl
@[simp] theorem putQueue_clusters (s : State) (k : Nat) (q : Option QueueSt) : (s.putQueue k q).clusters = s.clusters := rfl
@[simp] theorem putQueue_dies (s : State) (k : Nat) (q : Option QueueSt) : (s.putQueue k q).dies = s.dies := rfl
@[simp] theorem putQueue_mem (s : State) (k : Nat) (q : Option QueueSt) : (s.putQueue k q).mem = s.mem := rfl
@[simp] theorem putQueue_dir (s : State) (k : Nat) (q : Option QueueSt) : (s.putQueue k q).dir = s.dir := rfl
@[simp] theorem putQueue_moves (s : State) (k : Nat) (q : Option QueueSt) : (s.putQueue k q).moves = s.moves := rfl
@[simp] theorem putQueue_poison (s : State) (k : Nat) (q : Option QueueSt) : (s.putQueue k q).poison = s.poison := rfl
@[simp] theorem putQueue_dev (s : State) (k : Nat) (q : Option QueueSt) : (s.putQueue k q).dev = s.dev := rfl
@[simp] theorem putQueue_hmode (s : State) (k : Nat) (q : Option QueueSt) : (s.putQueue k q).hmode = s.hmode := rfl
@[simp] theorem putQueue_pool (s : State) (k : Nat) (q : Option QueueSt) : (s.putQueue k q).pool = s.pool := rfl
@[simp] theorem putQueue_colour (s : State) (k : Nat) (q : Option QueueSt) : (s.putQueue k q).colour = s.colour := rfl
@[simp] theorem putQueue_rdy (s : State) (k : Nat) (q : Option QueueSt) : (s.putQueue k q).rdy = s.rdy := rfl
@[simp] theorem putQueue_modctl (s : State) (k : Nat) (q : Option QueueSt) : (s.putQueue k q).modctl = s.modctl := rfl
@[simp] theorem putQueue_ctrs (s : State) (k : Nat) (q : Option QueueSt) : (s.putQueue k q).ctrs = s.ctrs := rfl
@[simp] theorem putQueue_launches (s : State) (k : Nat) (q : Option QueueSt) : (s.putQueue k q).launches = s.launches := rfl
@[simp] theorem putQueue_procs (s : State) (k : Nat) (q : Option QueueSt) : (s.putQueue k q).procs = s.procs := rfl
@[simp] theorem putQueue_reds (s : State) (k : Nat) (q : Option QueueSt) : (s.putQueue k q).reds = s.reds := rfl
@[simp] theorem putQueue_replays (s : State) (k : Nat) (q : Option QueueSt) : (s.putQueue k q).replays = s.replays := rfl
@[simp] theorem putQueue_engines (s : State) (k : Nat) (q : Option QueueSt) : (s.putQueue k q).engines = s.engines := rfl
@[simp] theorem putQueue_results (s : State) (k : Nat) (q : Option QueueSt) : (s.putQueue k q).results = s.results := rfl
@[simp] theorem putQueue_heads (s : State) (k : Nat) (q : Option QueueSt) : (s.putQueue k q).heads = s.heads := rfl
@[simp] theorem putQueue_heldWrites (s : State) (k : Nat) (q : Option QueueSt) : (s.putQueue k q).heldWrites = s.heldWrites := rfl
@[simp] theorem putQueue_credits (s : State) (k : Nat) (q : Option QueueSt) : (s.putQueue k q).credits = s.credits := rfl
@[simp] theorem putQueue_translations (s : State) (k : Nat) (q : Option QueueSt) : (s.putQueue k q).translations = s.translations := rfl
@[simp] theorem putQueue_frames (s : State) (k : Nat) (q : Option QueueSt) : (s.putQueue k q).frames = s.frames := rfl
@[simp] theorem putQueue_streams (s : State) (k : Nat) (q : Option QueueSt) : (s.putQueue k q).streams = s.streams := rfl
@[simp] theorem putQueue_links (s : State) (k : Nat) (q : Option QueueSt) : (s.putQueue k q).links = s.links := rfl
@[simp] theorem putQueue_peersLost (s : State) (k : Nat) (q : Option QueueSt) : (s.putQueue k q).peersLost = s.peersLost := rfl
@[simp] theorem putQueue_cecnt (s : State) (k : Nat) (q : Option QueueSt) : (s.putQueue k q).cecnt = s.cecnt := rfl
@[simp] theorem putQueue_celast (s : State) (k : Nat) (q : Option QueueSt) : (s.putQueue k q).celast = s.celast := rfl
@[simp] theorem putQueue_retcnt (s : State) (k : Nat) (q : Option QueueSt) : (s.putQueue k q).retcnt = s.retcnt := rfl
@[simp] theorem putQueue_railHold (s : State) (k : Nat) (q : Option QueueSt) : (s.putQueue k q).railHold = s.railHold := rfl
@[simp] theorem putQueue_power (s : State) (k : Nat) (q : Option QueueSt) : (s.putQueue k q).power = s.power := rfl
@[simp] theorem putQueue_tripKept (s : State) (k : Nat) (q : Option QueueSt) : (s.putQueue k q).tripKept = s.tripKept := rfl
@[simp] theorem putQueue_absent (s : State) (k : Nat) (q : Option QueueSt) : (s.putQueue k q).absent = s.absent := rfl
@[simp] theorem putQueue_cameUp (s : State) (k : Nat) (q : Option QueueSt) : (s.putQueue k q).cameUp = s.cameUp := rfl
@[simp] theorem putQueue_bondAt (s : State) (k : Nat) (q : Option QueueSt) : (s.putQueue k q).bondAt = s.bondAt := rfl
@[simp] theorem putQueue_bondFailed (s : State) (k : Nat) (q : Option QueueSt) : (s.putQueue k q).bondFailed = s.bondFailed := rfl
@[simp] theorem putQueue_peerDown (s : State) (k : Nat) (q : Option QueueSt) : (s.putQueue k q).peerDown = s.peerDown := rfl
@[simp] theorem putQueue_lately (s : State) (k : Nat) (q : Option QueueSt) : (s.putQueue k q).lately = s.lately := rfl
@[simp] theorem putQueue_rootLog (s : State) (k : Nat) (q : Option QueueSt) : (s.putQueue k q).rootLog = s.rootLog := rfl
@[simp] theorem putQueue_output (s : State) (k : Nat) (q : Option QueueSt) : (s.putQueue k q).output = s.output := rfl
@[simp] theorem putQueue_msixHeld (s : State) (k : Nat) (q : Option QueueSt) : (s.putQueue k q).msixHeld = s.msixHeld := rfl
@[simp] theorem putQueue_cycle (s : State) (k : Nat) (q : Option QueueSt) : (s.putQueue k q).cycle = s.cycle := rfl
@[simp] theorem putQueue_agenda (s : State) (k : Nat) (q : Option QueueSt) : (s.putQueue k q).agenda = s.agenda := rfl
@[simp] theorem putQueue_turn (s : State) (k : Nat) (q : Option QueueSt) : (s.putQueue k q).turn = s.turn := rfl
@[simp] theorem putQueue_cur (s : State) (k : Nat) (q : Option QueueSt) : (s.putQueue k q).cur = s.cur := rfl
@[simp] theorem putQueue_free (s : State) (k : Nat) (q : Option QueueSt) : (s.putQueue k q).free = s.free := rfl
@[simp] theorem putQueue_nlaunch (s : State) (k : Nat) (q : Option QueueSt) : (s.putQueue k q).nlaunch = s.nlaunch := rfl

/-! onEngine. -/

@[simp] theorem onEngine_slots (s : State) (e : Nat) (f : EngineSt → EngineSt) : (s.onEngine e f).slots = s.slots := rfl
@[simp] theorem onEngine_cores (s : State) (e : Nat) (f : EngineSt → EngineSt) : (s.onEngine e f).cores = s.cores := rfl
@[simp] theorem onEngine_clusters (s : State) (e : Nat) (f : EngineSt → EngineSt) : (s.onEngine e f).clusters = s.clusters := rfl
@[simp] theorem onEngine_dies (s : State) (e : Nat) (f : EngineSt → EngineSt) : (s.onEngine e f).dies = s.dies := rfl
@[simp] theorem onEngine_mem (s : State) (e : Nat) (f : EngineSt → EngineSt) : (s.onEngine e f).mem = s.mem := rfl
@[simp] theorem onEngine_dir (s : State) (e : Nat) (f : EngineSt → EngineSt) : (s.onEngine e f).dir = s.dir := rfl
@[simp] theorem onEngine_moves (s : State) (e : Nat) (f : EngineSt → EngineSt) : (s.onEngine e f).moves = s.moves := rfl
@[simp] theorem onEngine_poison (s : State) (e : Nat) (f : EngineSt → EngineSt) : (s.onEngine e f).poison = s.poison := rfl
@[simp] theorem onEngine_dev (s : State) (e : Nat) (f : EngineSt → EngineSt) : (s.onEngine e f).dev = s.dev := rfl
@[simp] theorem onEngine_hmode (s : State) (e : Nat) (f : EngineSt → EngineSt) : (s.onEngine e f).hmode = s.hmode := rfl
@[simp] theorem onEngine_pool (s : State) (e : Nat) (f : EngineSt → EngineSt) : (s.onEngine e f).pool = s.pool := rfl
@[simp] theorem onEngine_colour (s : State) (e : Nat) (f : EngineSt → EngineSt) : (s.onEngine e f).colour = s.colour := rfl
@[simp] theorem onEngine_rdy (s : State) (e : Nat) (f : EngineSt → EngineSt) : (s.onEngine e f).rdy = s.rdy := rfl
@[simp] theorem onEngine_modctl (s : State) (e : Nat) (f : EngineSt → EngineSt) : (s.onEngine e f).modctl = s.modctl := rfl
@[simp] theorem onEngine_ctrs (s : State) (e : Nat) (f : EngineSt → EngineSt) : (s.onEngine e f).ctrs = s.ctrs := rfl
@[simp] theorem onEngine_queues (s : State) (e : Nat) (f : EngineSt → EngineSt) : (s.onEngine e f).queues = s.queues := rfl
@[simp] theorem onEngine_launches (s : State) (e : Nat) (f : EngineSt → EngineSt) : (s.onEngine e f).launches = s.launches := rfl
@[simp] theorem onEngine_procs (s : State) (e : Nat) (f : EngineSt → EngineSt) : (s.onEngine e f).procs = s.procs := rfl
@[simp] theorem onEngine_reds (s : State) (e : Nat) (f : EngineSt → EngineSt) : (s.onEngine e f).reds = s.reds := rfl
@[simp] theorem onEngine_replays (s : State) (e : Nat) (f : EngineSt → EngineSt) : (s.onEngine e f).replays = s.replays := rfl
@[simp] theorem onEngine_results (s : State) (e : Nat) (f : EngineSt → EngineSt) : (s.onEngine e f).results = s.results := rfl
@[simp] theorem onEngine_heads (s : State) (e : Nat) (f : EngineSt → EngineSt) : (s.onEngine e f).heads = s.heads := rfl
@[simp] theorem onEngine_heldWrites (s : State) (e : Nat) (f : EngineSt → EngineSt) : (s.onEngine e f).heldWrites = s.heldWrites := rfl
@[simp] theorem onEngine_credits (s : State) (e : Nat) (f : EngineSt → EngineSt) : (s.onEngine e f).credits = s.credits := rfl
@[simp] theorem onEngine_translations (s : State) (e : Nat) (f : EngineSt → EngineSt) : (s.onEngine e f).translations = s.translations := rfl
@[simp] theorem onEngine_frames (s : State) (e : Nat) (f : EngineSt → EngineSt) : (s.onEngine e f).frames = s.frames := rfl
@[simp] theorem onEngine_streams (s : State) (e : Nat) (f : EngineSt → EngineSt) : (s.onEngine e f).streams = s.streams := rfl
@[simp] theorem onEngine_links (s : State) (e : Nat) (f : EngineSt → EngineSt) : (s.onEngine e f).links = s.links := rfl
@[simp] theorem onEngine_peersLost (s : State) (e : Nat) (f : EngineSt → EngineSt) : (s.onEngine e f).peersLost = s.peersLost := rfl
@[simp] theorem onEngine_cecnt (s : State) (e : Nat) (f : EngineSt → EngineSt) : (s.onEngine e f).cecnt = s.cecnt := rfl
@[simp] theorem onEngine_celast (s : State) (e : Nat) (f : EngineSt → EngineSt) : (s.onEngine e f).celast = s.celast := rfl
@[simp] theorem onEngine_retcnt (s : State) (e : Nat) (f : EngineSt → EngineSt) : (s.onEngine e f).retcnt = s.retcnt := rfl
@[simp] theorem onEngine_railHold (s : State) (e : Nat) (f : EngineSt → EngineSt) : (s.onEngine e f).railHold = s.railHold := rfl
@[simp] theorem onEngine_power (s : State) (e : Nat) (f : EngineSt → EngineSt) : (s.onEngine e f).power = s.power := rfl
@[simp] theorem onEngine_tripKept (s : State) (e : Nat) (f : EngineSt → EngineSt) : (s.onEngine e f).tripKept = s.tripKept := rfl
@[simp] theorem onEngine_absent (s : State) (e : Nat) (f : EngineSt → EngineSt) : (s.onEngine e f).absent = s.absent := rfl
@[simp] theorem onEngine_cameUp (s : State) (e : Nat) (f : EngineSt → EngineSt) : (s.onEngine e f).cameUp = s.cameUp := rfl
@[simp] theorem onEngine_bondAt (s : State) (e : Nat) (f : EngineSt → EngineSt) : (s.onEngine e f).bondAt = s.bondAt := rfl
@[simp] theorem onEngine_bondFailed (s : State) (e : Nat) (f : EngineSt → EngineSt) : (s.onEngine e f).bondFailed = s.bondFailed := rfl
@[simp] theorem onEngine_peerDown (s : State) (e : Nat) (f : EngineSt → EngineSt) : (s.onEngine e f).peerDown = s.peerDown := rfl
@[simp] theorem onEngine_lately (s : State) (e : Nat) (f : EngineSt → EngineSt) : (s.onEngine e f).lately = s.lately := rfl
@[simp] theorem onEngine_rootLog (s : State) (e : Nat) (f : EngineSt → EngineSt) : (s.onEngine e f).rootLog = s.rootLog := rfl
@[simp] theorem onEngine_output (s : State) (e : Nat) (f : EngineSt → EngineSt) : (s.onEngine e f).output = s.output := rfl
@[simp] theorem onEngine_msixHeld (s : State) (e : Nat) (f : EngineSt → EngineSt) : (s.onEngine e f).msixHeld = s.msixHeld := rfl
@[simp] theorem onEngine_cycle (s : State) (e : Nat) (f : EngineSt → EngineSt) : (s.onEngine e f).cycle = s.cycle := rfl
@[simp] theorem onEngine_agenda (s : State) (e : Nat) (f : EngineSt → EngineSt) : (s.onEngine e f).agenda = s.agenda := rfl
@[simp] theorem onEngine_turn (s : State) (e : Nat) (f : EngineSt → EngineSt) : (s.onEngine e f).turn = s.turn := rfl
@[simp] theorem onEngine_cur (s : State) (e : Nat) (f : EngineSt → EngineSt) : (s.onEngine e f).cur = s.cur := rfl
@[simp] theorem onEngine_free (s : State) (e : Nat) (f : EngineSt → EngineSt) : (s.onEngine e f).free = s.free := rfl
@[simp] theorem onEngine_nlaunch (s : State) (e : Nat) (f : EngineSt → EngineSt) : (s.onEngine e f).nlaunch = s.nlaunch := rfl

/-! putResults. -/

@[simp] theorem putResults_slots (s : State) (k : Nat) (l : List (Word × Word)) : (s.putResults k l).slots = s.slots := rfl
@[simp] theorem putResults_cores (s : State) (k : Nat) (l : List (Word × Word)) : (s.putResults k l).cores = s.cores := rfl
@[simp] theorem putResults_clusters (s : State) (k : Nat) (l : List (Word × Word)) : (s.putResults k l).clusters = s.clusters := rfl
@[simp] theorem putResults_dies (s : State) (k : Nat) (l : List (Word × Word)) : (s.putResults k l).dies = s.dies := rfl
@[simp] theorem putResults_mem (s : State) (k : Nat) (l : List (Word × Word)) : (s.putResults k l).mem = s.mem := rfl
@[simp] theorem putResults_dir (s : State) (k : Nat) (l : List (Word × Word)) : (s.putResults k l).dir = s.dir := rfl
@[simp] theorem putResults_moves (s : State) (k : Nat) (l : List (Word × Word)) : (s.putResults k l).moves = s.moves := rfl
@[simp] theorem putResults_poison (s : State) (k : Nat) (l : List (Word × Word)) : (s.putResults k l).poison = s.poison := rfl
@[simp] theorem putResults_dev (s : State) (k : Nat) (l : List (Word × Word)) : (s.putResults k l).dev = s.dev := rfl
@[simp] theorem putResults_hmode (s : State) (k : Nat) (l : List (Word × Word)) : (s.putResults k l).hmode = s.hmode := rfl
@[simp] theorem putResults_pool (s : State) (k : Nat) (l : List (Word × Word)) : (s.putResults k l).pool = s.pool := rfl
@[simp] theorem putResults_colour (s : State) (k : Nat) (l : List (Word × Word)) : (s.putResults k l).colour = s.colour := rfl
@[simp] theorem putResults_rdy (s : State) (k : Nat) (l : List (Word × Word)) : (s.putResults k l).rdy = s.rdy := rfl
@[simp] theorem putResults_modctl (s : State) (k : Nat) (l : List (Word × Word)) : (s.putResults k l).modctl = s.modctl := rfl
@[simp] theorem putResults_ctrs (s : State) (k : Nat) (l : List (Word × Word)) : (s.putResults k l).ctrs = s.ctrs := rfl
@[simp] theorem putResults_queues (s : State) (k : Nat) (l : List (Word × Word)) : (s.putResults k l).queues = s.queues := rfl
@[simp] theorem putResults_launches (s : State) (k : Nat) (l : List (Word × Word)) : (s.putResults k l).launches = s.launches := rfl
@[simp] theorem putResults_procs (s : State) (k : Nat) (l : List (Word × Word)) : (s.putResults k l).procs = s.procs := rfl
@[simp] theorem putResults_reds (s : State) (k : Nat) (l : List (Word × Word)) : (s.putResults k l).reds = s.reds := rfl
@[simp] theorem putResults_replays (s : State) (k : Nat) (l : List (Word × Word)) : (s.putResults k l).replays = s.replays := rfl
@[simp] theorem putResults_engines (s : State) (k : Nat) (l : List (Word × Word)) : (s.putResults k l).engines = s.engines := rfl
@[simp] theorem putResults_heads (s : State) (k : Nat) (l : List (Word × Word)) : (s.putResults k l).heads = s.heads := rfl
@[simp] theorem putResults_heldWrites (s : State) (k : Nat) (l : List (Word × Word)) : (s.putResults k l).heldWrites = s.heldWrites := rfl
@[simp] theorem putResults_credits (s : State) (k : Nat) (l : List (Word × Word)) : (s.putResults k l).credits = s.credits := rfl
@[simp] theorem putResults_translations (s : State) (k : Nat) (l : List (Word × Word)) : (s.putResults k l).translations = s.translations := rfl
@[simp] theorem putResults_frames (s : State) (k : Nat) (l : List (Word × Word)) : (s.putResults k l).frames = s.frames := rfl
@[simp] theorem putResults_streams (s : State) (k : Nat) (l : List (Word × Word)) : (s.putResults k l).streams = s.streams := rfl
@[simp] theorem putResults_links (s : State) (k : Nat) (l : List (Word × Word)) : (s.putResults k l).links = s.links := rfl
@[simp] theorem putResults_peersLost (s : State) (k : Nat) (l : List (Word × Word)) : (s.putResults k l).peersLost = s.peersLost := rfl
@[simp] theorem putResults_cecnt (s : State) (k : Nat) (l : List (Word × Word)) : (s.putResults k l).cecnt = s.cecnt := rfl
@[simp] theorem putResults_celast (s : State) (k : Nat) (l : List (Word × Word)) : (s.putResults k l).celast = s.celast := rfl
@[simp] theorem putResults_retcnt (s : State) (k : Nat) (l : List (Word × Word)) : (s.putResults k l).retcnt = s.retcnt := rfl
@[simp] theorem putResults_railHold (s : State) (k : Nat) (l : List (Word × Word)) : (s.putResults k l).railHold = s.railHold := rfl
@[simp] theorem putResults_power (s : State) (k : Nat) (l : List (Word × Word)) : (s.putResults k l).power = s.power := rfl
@[simp] theorem putResults_tripKept (s : State) (k : Nat) (l : List (Word × Word)) : (s.putResults k l).tripKept = s.tripKept := rfl
@[simp] theorem putResults_absent (s : State) (k : Nat) (l : List (Word × Word)) : (s.putResults k l).absent = s.absent := rfl
@[simp] theorem putResults_cameUp (s : State) (k : Nat) (l : List (Word × Word)) : (s.putResults k l).cameUp = s.cameUp := rfl
@[simp] theorem putResults_bondAt (s : State) (k : Nat) (l : List (Word × Word)) : (s.putResults k l).bondAt = s.bondAt := rfl
@[simp] theorem putResults_bondFailed (s : State) (k : Nat) (l : List (Word × Word)) : (s.putResults k l).bondFailed = s.bondFailed := rfl
@[simp] theorem putResults_peerDown (s : State) (k : Nat) (l : List (Word × Word)) : (s.putResults k l).peerDown = s.peerDown := rfl
@[simp] theorem putResults_lately (s : State) (k : Nat) (l : List (Word × Word)) : (s.putResults k l).lately = s.lately := rfl
@[simp] theorem putResults_rootLog (s : State) (k : Nat) (l : List (Word × Word)) : (s.putResults k l).rootLog = s.rootLog := rfl
@[simp] theorem putResults_output (s : State) (k : Nat) (l : List (Word × Word)) : (s.putResults k l).output = s.output := rfl
@[simp] theorem putResults_msixHeld (s : State) (k : Nat) (l : List (Word × Word)) : (s.putResults k l).msixHeld = s.msixHeld := rfl
@[simp] theorem putResults_cycle (s : State) (k : Nat) (l : List (Word × Word)) : (s.putResults k l).cycle = s.cycle := rfl
@[simp] theorem putResults_agenda (s : State) (k : Nat) (l : List (Word × Word)) : (s.putResults k l).agenda = s.agenda := rfl
@[simp] theorem putResults_turn (s : State) (k : Nat) (l : List (Word × Word)) : (s.putResults k l).turn = s.turn := rfl
@[simp] theorem putResults_cur (s : State) (k : Nat) (l : List (Word × Word)) : (s.putResults k l).cur = s.cur := rfl
@[simp] theorem putResults_free (s : State) (k : Nat) (l : List (Word × Word)) : (s.putResults k l).free = s.free := rfl
@[simp] theorem putResults_nlaunch (s : State) (k : Nat) (l : List (Word × Word)) : (s.putResults k l).nlaunch = s.nlaunch := rfl

/-! putBytes. -/

@[simp] theorem putBytes_slots (s : State) (k : Nat) (bs : List Byte) : (s.putBytes k bs).slots = s.slots := rfl
@[simp] theorem putBytes_cores (s : State) (k : Nat) (bs : List Byte) : (s.putBytes k bs).cores = s.cores := rfl
@[simp] theorem putBytes_clusters (s : State) (k : Nat) (bs : List Byte) : (s.putBytes k bs).clusters = s.clusters := rfl
@[simp] theorem putBytes_dies (s : State) (k : Nat) (bs : List Byte) : (s.putBytes k bs).dies = s.dies := rfl
@[simp] theorem putBytes_dir (s : State) (k : Nat) (bs : List Byte) : (s.putBytes k bs).dir = s.dir := rfl
@[simp] theorem putBytes_moves (s : State) (k : Nat) (bs : List Byte) : (s.putBytes k bs).moves = s.moves := rfl
@[simp] theorem putBytes_dev (s : State) (k : Nat) (bs : List Byte) : (s.putBytes k bs).dev = s.dev := rfl
@[simp] theorem putBytes_hmode (s : State) (k : Nat) (bs : List Byte) : (s.putBytes k bs).hmode = s.hmode := rfl
@[simp] theorem putBytes_pool (s : State) (k : Nat) (bs : List Byte) : (s.putBytes k bs).pool = s.pool := rfl
@[simp] theorem putBytes_colour (s : State) (k : Nat) (bs : List Byte) : (s.putBytes k bs).colour = s.colour := rfl
@[simp] theorem putBytes_rdy (s : State) (k : Nat) (bs : List Byte) : (s.putBytes k bs).rdy = s.rdy := rfl
@[simp] theorem putBytes_modctl (s : State) (k : Nat) (bs : List Byte) : (s.putBytes k bs).modctl = s.modctl := rfl
@[simp] theorem putBytes_ctrs (s : State) (k : Nat) (bs : List Byte) : (s.putBytes k bs).ctrs = s.ctrs := rfl
@[simp] theorem putBytes_queues (s : State) (k : Nat) (bs : List Byte) : (s.putBytes k bs).queues = s.queues := rfl
@[simp] theorem putBytes_launches (s : State) (k : Nat) (bs : List Byte) : (s.putBytes k bs).launches = s.launches := rfl
@[simp] theorem putBytes_procs (s : State) (k : Nat) (bs : List Byte) : (s.putBytes k bs).procs = s.procs := rfl
@[simp] theorem putBytes_reds (s : State) (k : Nat) (bs : List Byte) : (s.putBytes k bs).reds = s.reds := rfl
@[simp] theorem putBytes_replays (s : State) (k : Nat) (bs : List Byte) : (s.putBytes k bs).replays = s.replays := rfl
@[simp] theorem putBytes_engines (s : State) (k : Nat) (bs : List Byte) : (s.putBytes k bs).engines = s.engines := rfl
@[simp] theorem putBytes_results (s : State) (k : Nat) (bs : List Byte) : (s.putBytes k bs).results = s.results := rfl
@[simp] theorem putBytes_heads (s : State) (k : Nat) (bs : List Byte) : (s.putBytes k bs).heads = s.heads := rfl
@[simp] theorem putBytes_heldWrites (s : State) (k : Nat) (bs : List Byte) : (s.putBytes k bs).heldWrites = s.heldWrites := rfl
@[simp] theorem putBytes_credits (s : State) (k : Nat) (bs : List Byte) : (s.putBytes k bs).credits = s.credits := rfl
@[simp] theorem putBytes_translations (s : State) (k : Nat) (bs : List Byte) : (s.putBytes k bs).translations = s.translations := rfl
@[simp] theorem putBytes_frames (s : State) (k : Nat) (bs : List Byte) : (s.putBytes k bs).frames = s.frames := rfl
@[simp] theorem putBytes_streams (s : State) (k : Nat) (bs : List Byte) : (s.putBytes k bs).streams = s.streams := rfl
@[simp] theorem putBytes_links (s : State) (k : Nat) (bs : List Byte) : (s.putBytes k bs).links = s.links := rfl
@[simp] theorem putBytes_peersLost (s : State) (k : Nat) (bs : List Byte) : (s.putBytes k bs).peersLost = s.peersLost := rfl
@[simp] theorem putBytes_cecnt (s : State) (k : Nat) (bs : List Byte) : (s.putBytes k bs).cecnt = s.cecnt := rfl
@[simp] theorem putBytes_celast (s : State) (k : Nat) (bs : List Byte) : (s.putBytes k bs).celast = s.celast := rfl
@[simp] theorem putBytes_retcnt (s : State) (k : Nat) (bs : List Byte) : (s.putBytes k bs).retcnt = s.retcnt := rfl
@[simp] theorem putBytes_railHold (s : State) (k : Nat) (bs : List Byte) : (s.putBytes k bs).railHold = s.railHold := rfl
@[simp] theorem putBytes_power (s : State) (k : Nat) (bs : List Byte) : (s.putBytes k bs).power = s.power := rfl
@[simp] theorem putBytes_tripKept (s : State) (k : Nat) (bs : List Byte) : (s.putBytes k bs).tripKept = s.tripKept := rfl
@[simp] theorem putBytes_absent (s : State) (k : Nat) (bs : List Byte) : (s.putBytes k bs).absent = s.absent := rfl
@[simp] theorem putBytes_cameUp (s : State) (k : Nat) (bs : List Byte) : (s.putBytes k bs).cameUp = s.cameUp := rfl
@[simp] theorem putBytes_bondAt (s : State) (k : Nat) (bs : List Byte) : (s.putBytes k bs).bondAt = s.bondAt := rfl
@[simp] theorem putBytes_bondFailed (s : State) (k : Nat) (bs : List Byte) : (s.putBytes k bs).bondFailed = s.bondFailed := rfl
@[simp] theorem putBytes_peerDown (s : State) (k : Nat) (bs : List Byte) : (s.putBytes k bs).peerDown = s.peerDown := rfl
@[simp] theorem putBytes_lately (s : State) (k : Nat) (bs : List Byte) : (s.putBytes k bs).lately = s.lately := rfl
@[simp] theorem putBytes_rootLog (s : State) (k : Nat) (bs : List Byte) : (s.putBytes k bs).rootLog = s.rootLog := rfl
@[simp] theorem putBytes_output (s : State) (k : Nat) (bs : List Byte) : (s.putBytes k bs).output = s.output := rfl
@[simp] theorem putBytes_msixHeld (s : State) (k : Nat) (bs : List Byte) : (s.putBytes k bs).msixHeld = s.msixHeld := rfl
@[simp] theorem putBytes_cycle (s : State) (k : Nat) (bs : List Byte) : (s.putBytes k bs).cycle = s.cycle := rfl
@[simp] theorem putBytes_agenda (s : State) (k : Nat) (bs : List Byte) : (s.putBytes k bs).agenda = s.agenda := rfl
@[simp] theorem putBytes_turn (s : State) (k : Nat) (bs : List Byte) : (s.putBytes k bs).turn = s.turn := rfl
@[simp] theorem putBytes_cur (s : State) (k : Nat) (bs : List Byte) : (s.putBytes k bs).cur = s.cur := rfl
@[simp] theorem putBytes_free (s : State) (k : Nat) (bs : List Byte) : (s.putBytes k bs).free = s.free := rfl
@[simp] theorem putBytes_nlaunch (s : State) (k : Nat) (bs : List Byte) : (s.putBytes k bs).nlaunch = s.nlaunch := rfl

/-! putDreg. -/

@[simp] theorem putDreg_slots (s : State) (a : Nat) (v : Word) : (s.putDreg a v).slots = s.slots := rfl
@[simp] theorem putDreg_cores (s : State) (a : Nat) (v : Word) : (s.putDreg a v).cores = s.cores := rfl
@[simp] theorem putDreg_clusters (s : State) (a : Nat) (v : Word) : (s.putDreg a v).clusters = s.clusters := rfl
@[simp] theorem putDreg_dies (s : State) (a : Nat) (v : Word) : (s.putDreg a v).dies = s.dies := rfl
@[simp] theorem putDreg_mem (s : State) (a : Nat) (v : Word) : (s.putDreg a v).mem = s.mem := rfl
@[simp] theorem putDreg_dir (s : State) (a : Nat) (v : Word) : (s.putDreg a v).dir = s.dir := rfl
@[simp] theorem putDreg_moves (s : State) (a : Nat) (v : Word) : (s.putDreg a v).moves = s.moves := rfl
@[simp] theorem putDreg_poison (s : State) (a : Nat) (v : Word) : (s.putDreg a v).poison = s.poison := rfl
@[simp] theorem putDreg_hmode (s : State) (a : Nat) (v : Word) : (s.putDreg a v).hmode = s.hmode := rfl
@[simp] theorem putDreg_pool (s : State) (a : Nat) (v : Word) : (s.putDreg a v).pool = s.pool := rfl
@[simp] theorem putDreg_colour (s : State) (a : Nat) (v : Word) : (s.putDreg a v).colour = s.colour := rfl
@[simp] theorem putDreg_rdy (s : State) (a : Nat) (v : Word) : (s.putDreg a v).rdy = s.rdy := rfl
@[simp] theorem putDreg_modctl (s : State) (a : Nat) (v : Word) : (s.putDreg a v).modctl = s.modctl := rfl
@[simp] theorem putDreg_ctrs (s : State) (a : Nat) (v : Word) : (s.putDreg a v).ctrs = s.ctrs := rfl
@[simp] theorem putDreg_queues (s : State) (a : Nat) (v : Word) : (s.putDreg a v).queues = s.queues := rfl
@[simp] theorem putDreg_launches (s : State) (a : Nat) (v : Word) : (s.putDreg a v).launches = s.launches := rfl
@[simp] theorem putDreg_procs (s : State) (a : Nat) (v : Word) : (s.putDreg a v).procs = s.procs := rfl
@[simp] theorem putDreg_reds (s : State) (a : Nat) (v : Word) : (s.putDreg a v).reds = s.reds := rfl
@[simp] theorem putDreg_replays (s : State) (a : Nat) (v : Word) : (s.putDreg a v).replays = s.replays := rfl
@[simp] theorem putDreg_engines (s : State) (a : Nat) (v : Word) : (s.putDreg a v).engines = s.engines := rfl
@[simp] theorem putDreg_results (s : State) (a : Nat) (v : Word) : (s.putDreg a v).results = s.results := rfl
@[simp] theorem putDreg_heads (s : State) (a : Nat) (v : Word) : (s.putDreg a v).heads = s.heads := rfl
@[simp] theorem putDreg_heldWrites (s : State) (a : Nat) (v : Word) : (s.putDreg a v).heldWrites = s.heldWrites := rfl
@[simp] theorem putDreg_credits (s : State) (a : Nat) (v : Word) : (s.putDreg a v).credits = s.credits := rfl
@[simp] theorem putDreg_translations (s : State) (a : Nat) (v : Word) : (s.putDreg a v).translations = s.translations := rfl
@[simp] theorem putDreg_frames (s : State) (a : Nat) (v : Word) : (s.putDreg a v).frames = s.frames := rfl
@[simp] theorem putDreg_streams (s : State) (a : Nat) (v : Word) : (s.putDreg a v).streams = s.streams := rfl
@[simp] theorem putDreg_links (s : State) (a : Nat) (v : Word) : (s.putDreg a v).links = s.links := rfl
@[simp] theorem putDreg_peersLost (s : State) (a : Nat) (v : Word) : (s.putDreg a v).peersLost = s.peersLost := rfl
@[simp] theorem putDreg_cecnt (s : State) (a : Nat) (v : Word) : (s.putDreg a v).cecnt = s.cecnt := rfl
@[simp] theorem putDreg_celast (s : State) (a : Nat) (v : Word) : (s.putDreg a v).celast = s.celast := rfl
@[simp] theorem putDreg_retcnt (s : State) (a : Nat) (v : Word) : (s.putDreg a v).retcnt = s.retcnt := rfl
@[simp] theorem putDreg_railHold (s : State) (a : Nat) (v : Word) : (s.putDreg a v).railHold = s.railHold := rfl
@[simp] theorem putDreg_power (s : State) (a : Nat) (v : Word) : (s.putDreg a v).power = s.power := rfl
@[simp] theorem putDreg_tripKept (s : State) (a : Nat) (v : Word) : (s.putDreg a v).tripKept = s.tripKept := rfl
@[simp] theorem putDreg_absent (s : State) (a : Nat) (v : Word) : (s.putDreg a v).absent = s.absent := rfl
@[simp] theorem putDreg_cameUp (s : State) (a : Nat) (v : Word) : (s.putDreg a v).cameUp = s.cameUp := rfl
@[simp] theorem putDreg_bondAt (s : State) (a : Nat) (v : Word) : (s.putDreg a v).bondAt = s.bondAt := rfl
@[simp] theorem putDreg_bondFailed (s : State) (a : Nat) (v : Word) : (s.putDreg a v).bondFailed = s.bondFailed := rfl
@[simp] theorem putDreg_peerDown (s : State) (a : Nat) (v : Word) : (s.putDreg a v).peerDown = s.peerDown := rfl
@[simp] theorem putDreg_lately (s : State) (a : Nat) (v : Word) : (s.putDreg a v).lately = s.lately := rfl
@[simp] theorem putDreg_rootLog (s : State) (a : Nat) (v : Word) : (s.putDreg a v).rootLog = s.rootLog := rfl
@[simp] theorem putDreg_output (s : State) (a : Nat) (v : Word) : (s.putDreg a v).output = s.output := rfl
@[simp] theorem putDreg_msixHeld (s : State) (a : Nat) (v : Word) : (s.putDreg a v).msixHeld = s.msixHeld := rfl
@[simp] theorem putDreg_cycle (s : State) (a : Nat) (v : Word) : (s.putDreg a v).cycle = s.cycle := rfl
@[simp] theorem putDreg_agenda (s : State) (a : Nat) (v : Word) : (s.putDreg a v).agenda = s.agenda := rfl
@[simp] theorem putDreg_turn (s : State) (a : Nat) (v : Word) : (s.putDreg a v).turn = s.turn := rfl
@[simp] theorem putDreg_cur (s : State) (a : Nat) (v : Word) : (s.putDreg a v).cur = s.cur := rfl
@[simp] theorem putDreg_free (s : State) (a : Nat) (v : Word) : (s.putDreg a v).free = s.free := rfl
@[simp] theorem putDreg_nlaunch (s : State) (a : Nat) (v : Word) : (s.putDreg a v).nlaunch = s.nlaunch := rfl

/-! Slots: the pc moved on, a register written, the chunk closed, the exception registers written. -/

@[simp] theorem skip_pc (x : Regs) (n : Nat) : (x.skip n).pc = x.pc + word n := rfl
@[simp] theorem set_pc (x : Regs) (r : Reg) (v : Word) : (x.set r v).pc = x.pc := rfl
@[simp] theorem land_pc (x : Regs) (r : Reg) (v : Word) : (x.land r v).pc = x.pc := rfl
@[simp] theorem setP_pc (x : Regs) (r : Reg) (v : Bool) : (x.setP r v).pc = x.pc := rfl
@[simp] theorem skip_s (x : Regs) (n : Nat) : (x.skip n).s = x.s := rfl
@[simp] theorem setP_s (x : Regs) (r : Reg) (v : Bool) : (x.setP r v).s = x.s := rfl
@[simp] theorem skip_p (x : Regs) (n : Nat) : (x.skip n).p = x.p := rfl
@[simp] theorem set_p (x : Regs) (r : Reg) (v : Word) : (x.set r v).p = x.p := rfl
@[simp] theorem land_p (x : Regs) (r : Reg) (v : Word) : (x.land r v).p = x.p := rfl
@[simp] theorem skip_cdst (x : Regs) (n : Nat) : (x.skip n).cdst = x.cdst := rfl
@[simp] theorem set_cdst (x : Regs) (r : Reg) (v : Word) : (x.set r v).cdst = r := rfl
@[simp] theorem land_cdst (x : Regs) (r : Reg) (v : Word) : (x.land r v).cdst = x.cdst := rfl
@[simp] theorem setP_cdst (x : Regs) (r : Reg) (v : Bool) : (x.setP r v).cdst = x.cdst := rfl
@[simp] theorem skip_cvdst (x : Regs) (n : Nat) : (x.skip n).cvdst = x.cvdst := rfl
@[simp] theorem set_cvdst (x : Regs) (r : Reg) (v : Word) : (x.set r v).cvdst = x.cvdst := rfl
@[simp] theorem land_cvdst (x : Regs) (r : Reg) (v : Word) : (x.land r v).cvdst = x.cvdst := rfl
@[simp] theorem setP_cvdst (x : Regs) (r : Reg) (v : Bool) : (x.setP r v).cvdst = x.cvdst := rfl
@[simp] theorem skip_vl (x : Regs) (n : Nat) : (x.skip n).vl = x.vl := rfl
@[simp] theorem set_vl (x : Regs) (r : Reg) (v : Word) : (x.set r v).vl = x.vl := rfl
@[simp] theorem land_vl (x : Regs) (r : Reg) (v : Word) : (x.land r v).vl = x.vl := rfl
@[simp] theorem setP_vl (x : Regs) (r : Reg) (v : Bool) : (x.setP r v).vl = x.vl := rfl
@[simp] theorem skip_vtype (x : Regs) (n : Nat) : (x.skip n).vtype = x.vtype := rfl
@[simp] theorem set_vtype (x : Regs) (r : Reg) (v : Word) : (x.set r v).vtype = x.vtype := rfl
@[simp] theorem land_vtype (x : Regs) (r : Reg) (v : Word) : (x.land r v).vtype = x.vtype := rfl
@[simp] theorem setP_vtype (x : Regs) (r : Reg) (v : Bool) : (x.setP r v).vtype = x.vtype := rfl
@[simp] theorem close_res (x : Slot) : x.close.res = x.res := rfl
@[simp] theorem trapRegs_res (x : Slot) (c : Cause) (e : Word) : (trapRegs x c e).res = x.res := rfl
@[simp] theorem eret_res (now : Nat) (x : Slot) : (x.eret now).res = x.res := rfl
@[simp] theorem holdFrame_res (x : Slot) : (holdFrame x).res = x.res := rfl
@[simp] theorem landArrivals_res (x : Slot) : (landArrivals x).res = x.res := rfl
@[simp] theorem close_regs (x : Slot) : x.close.regs = x.regs := rfl
@[simp] theorem holdFrame_regs (x : Slot) : (holdFrame x).regs = x.regs := rfl
@[simp] theorem close_sys (x : Slot) : x.close.sys = x.sys := rfl
@[simp] theorem holdFrame_sys (x : Slot) : (holdFrame x).sys = x.sys := rfl
@[simp] theorem landArrivals_sys (x : Slot) : (landArrivals x).sys = x.sys := rfl
@[simp] theorem close_vec (x : Slot) : x.close.vec = x.vec := rfl
@[simp] theorem trapRegs_vec (x : Slot) (c : Cause) (e : Word) : (trapRegs x c e).vec = x.vec := rfl
@[simp] theorem eret_vec (now : Nat) (x : Slot) : (x.eret now).vec = x.vec := rfl
@[simp] theorem holdFrame_vec (x : Slot) : (holdFrame x).vec = x.vec := rfl
@[simp] theorem landArrivals_vec (x : Slot) : (landArrivals x).vec = x.vec := rfl
@[simp] theorem trapRegs_chunk (x : Slot) (c : Cause) (e : Word) : (trapRegs x c e).chunk = x.chunk := rfl
@[simp] theorem eret_chunk (now : Nat) (x : Slot) : (x.eret now).chunk = x.chunk := rfl
@[simp] theorem holdFrame_chunk (x : Slot) : (holdFrame x).chunk = x.chunk := rfl
@[simp] theorem landArrivals_chunk (x : Slot) : (landArrivals x).chunk = x.chunk := rfl
@[simp] theorem close_vq (x : Slot) : x.close.vq = x.vq := rfl
@[simp] theorem trapRegs_vq (x : Slot) (c : Cause) (e : Word) : (trapRegs x c e).vq = x.vq := rfl
@[simp] theorem landArrivals_vq (x : Slot) : (landArrivals x).vq = x.vq := rfl
@[simp] theorem close_held (x : Slot) : x.close.held = x.held := rfl
@[simp] theorem trapRegs_held (x : Slot) (c : Cause) (e : Word) : (trapRegs x c e).held = x.held := rfl
@[simp] theorem landArrivals_held (x : Slot) : (landArrivals x).held = x.held := rfl
@[simp] theorem close_vfault (x : Slot) : x.close.vfault = x.vfault := rfl
@[simp] theorem trapRegs_vfault (x : Slot) (c : Cause) (e : Word) : (trapRegs x c e).vfault = x.vfault := rfl
@[simp] theorem eret_vfault (now : Nat) (x : Slot) : (x.eret now).vfault = x.vfault := rfl
@[simp] theorem holdFrame_vfault (x : Slot) : (holdFrame x).vfault = x.vfault := rfl
@[simp] theorem landArrivals_vfault (x : Slot) : (landArrivals x).vfault = x.vfault := rfl
@[simp] theorem close_arrivals (x : Slot) : x.close.arrivals = x.arrivals := rfl
@[simp] theorem trapRegs_arrivals (x : Slot) (c : Cause) (e : Word) : (trapRegs x c e).arrivals = x.arrivals := rfl
@[simp] theorem eret_arrivals (now : Nat) (x : Slot) : (x.eret now).arrivals = x.arrivals := rfl
@[simp] theorem holdFrame_arrivals (x : Slot) : (holdFrame x).arrivals = x.arrivals := rfl
@[simp] theorem close_wait (x : Slot) : x.close.wait = x.wait := rfl
@[simp] theorem eret_wait (now : Nat) (x : Slot) : (x.eret now).wait = x.wait := rfl
@[simp] theorem holdFrame_wait (x : Slot) : (holdFrame x).wait = x.wait := rfl
@[simp] theorem landArrivals_wait (x : Slot) : (landArrivals x).wait = x.wait := rfl
@[simp] theorem close_answer (x : Slot) : x.close.answer = x.answer := rfl
@[simp] theorem trapRegs_answer (x : Slot) (c : Cause) (e : Word) : (trapRegs x c e).answer = x.answer := rfl
@[simp] theorem eret_answer (now : Nat) (x : Slot) : (x.eret now).answer = x.answer := rfl
@[simp] theorem holdFrame_answer (x : Slot) : (holdFrame x).answer = x.answer := rfl
@[simp] theorem landArrivals_answer (x : Slot) : (landArrivals x).answer = x.answer := rfl
@[simp] theorem close_granted (x : Slot) : x.close.granted = x.granted := rfl
@[simp] theorem trapRegs_granted (x : Slot) (c : Cause) (e : Word) : (trapRegs x c e).granted = x.granted := rfl
@[simp] theorem eret_granted (now : Nat) (x : Slot) : (x.eret now).granted = x.granted := rfl
@[simp] theorem holdFrame_granted (x : Slot) : (holdFrame x).granted = x.granted := rfl
@[simp] theorem landArrivals_granted (x : Slot) : (landArrivals x).granted = x.granted := rfl
@[simp] theorem close_ports (x : Slot) : x.close.ports = x.ports := rfl
@[simp] theorem trapRegs_ports (x : Slot) (c : Cause) (e : Word) : (trapRegs x c e).ports = x.ports := rfl
@[simp] theorem eret_ports (now : Nat) (x : Slot) : (x.eret now).ports = x.ports := rfl
@[simp] theorem holdFrame_ports (x : Slot) : (holdFrame x).ports = x.ports := rfl
@[simp] theorem landArrivals_ports (x : Slot) : (landArrivals x).ports = x.ports := rfl
@[simp] theorem close_preempt (x : Slot) : x.close.preempt = x.preempt := rfl
@[simp] theorem trapRegs_preempt (x : Slot) (c : Cause) (e : Word) : (trapRegs x c e).preempt = x.preempt := rfl
@[simp] theorem eret_preempt (now : Nat) (x : Slot) : (x.eret now).preempt = x.preempt := rfl
@[simp] theorem holdFrame_preempt (x : Slot) : (holdFrame x).preempt = x.preempt := rfl
@[simp] theorem landArrivals_preempt (x : Slot) : (landArrivals x).preempt = x.preempt := rfl
@[simp] theorem close_irq (x : Slot) : x.close.irq = x.irq := rfl
@[simp] theorem trapRegs_irq (x : Slot) (c : Cause) (e : Word) : (trapRegs x c e).irq = x.irq := rfl
@[simp] theorem eret_irq (now : Nat) (x : Slot) : (x.eret now).irq = x.irq := rfl
@[simp] theorem holdFrame_irq (x : Slot) : (holdFrame x).irq = x.irq := rfl
@[simp] theorem landArrivals_irq (x : Slot) : (landArrivals x).irq = x.irq := rfl
@[simp] theorem close_last (x : Slot) : x.close.last = x.last := rfl
@[simp] theorem trapRegs_last (x : Slot) (c : Cause) (e : Word) : (trapRegs x c e).last = x.last := rfl
@[simp] theorem eret_last (now : Nat) (x : Slot) : (x.eret now).last = x.last := rfl
@[simp] theorem holdFrame_last (x : Slot) : (holdFrame x).last = x.last := rfl
@[simp] theorem landArrivals_last (x : Slot) : (landArrivals x).last = x.last := rfl
@[simp] theorem close_squashes (x : Slot) : x.close.squashes = x.squashes := rfl
@[simp] theorem trapRegs_squashes (x : Slot) (c : Cause) (e : Word) : (trapRegs x c e).squashes = x.squashes := rfl
@[simp] theorem eret_squashes (now : Nat) (x : Slot) : (x.eret now).squashes = x.squashes := rfl
@[simp] theorem holdFrame_squashes (x : Slot) : (holdFrame x).squashes = x.squashes := rfl
@[simp] theorem landArrivals_squashes (x : Slot) : (landArrivals x).squashes = x.squashes := rfl
@[simp] theorem close_single (x : Slot) : x.close.single = x.single := rfl
@[simp] theorem trapRegs_single (x : Slot) (c : Cause) (e : Word) : (trapRegs x c e).single = x.single := rfl
@[simp] theorem eret_single (now : Nat) (x : Slot) : (x.eret now).single = x.single := rfl
@[simp] theorem holdFrame_single (x : Slot) : (holdFrame x).single = x.single := rfl
@[simp] theorem landArrivals_single (x : Slot) : (landArrivals x).single = x.single := rfl
@[simp] theorem close_qualified (x : Slot) : x.close.qualified = x.qualified := rfl
@[simp] theorem trapRegs_qualified (x : Slot) (c : Cause) (e : Word) : (trapRegs x c e).qualified = x.qualified := rfl
@[simp] theorem eret_qualified (now : Nat) (x : Slot) : (x.eret now).qualified = x.qualified := rfl
@[simp] theorem holdFrame_qualified (x : Slot) : (holdFrame x).qualified = x.qualified := rfl
@[simp] theorem landArrivals_qualified (x : Slot) : (landArrivals x).qualified = x.qualified := rfl
@[simp] theorem close_remote (x : Slot) : x.close.remote = x.remote := rfl
@[simp] theorem trapRegs_remote (x : Slot) (c : Cause) (e : Word) : (trapRegs x c e).remote = x.remote := rfl
@[simp] theorem eret_remote (now : Nat) (x : Slot) : (x.eret now).remote = x.remote := rfl
@[simp] theorem holdFrame_remote (x : Slot) : (holdFrame x).remote = x.remote := rfl
@[simp] theorem landArrivals_remote (x : Slot) : (landArrivals x).remote = x.remote := rfl
@[simp] theorem close_task (x : Slot) : x.close.task = x.task := rfl
@[simp] theorem trapRegs_task (x : Slot) (c : Cause) (e : Word) : (trapRegs x c e).task = x.task := rfl
@[simp] theorem eret_task (now : Nat) (x : Slot) : (x.eret now).task = x.task := rfl
@[simp] theorem holdFrame_task (x : Slot) : (holdFrame x).task = x.task := rfl
@[simp] theorem landArrivals_task (x : Slot) : (landArrivals x).task = x.task := rfl
@[simp] theorem close_pairSince (x : Slot) : x.close.pairSince = x.pairSince := rfl
@[simp] theorem trapRegs_pairSince (x : Slot) (c : Cause) (e : Word) : (trapRegs x c e).pairSince = x.pairSince := rfl
@[simp] theorem eret_pairSince (now : Nat) (x : Slot) : (x.eret now).pairSince = x.pairSince := rfl
@[simp] theorem holdFrame_pairSince (x : Slot) : (holdFrame x).pairSince = x.pairSince := rfl
@[simp] theorem landArrivals_pairSince (x : Slot) : (landArrivals x).pairSince = x.pairSince := rfl
@[simp] theorem close_fetchLine (x : Slot) : x.close.fetchLine = x.fetchLine := rfl
@[simp] theorem holdFrame_fetchLine (x : Slot) : (holdFrame x).fetchLine = x.fetchLine := rfl
@[simp] theorem landArrivals_fetchLine (x : Slot) : (landArrivals x).fetchLine = x.fetchLine := rfl
@[simp] theorem close_vqSince (x : Slot) : x.close.vqSince = x.vqSince := rfl
@[simp] theorem trapRegs_vqSince (x : Slot) (c : Cause) (e : Word) : (trapRegs x c e).vqSince = x.vqSince := rfl
@[simp] theorem holdFrame_vqSince (x : Slot) : (holdFrame x).vqSince = x.vqSince := rfl
@[simp] theorem landArrivals_vqSince (x : Slot) : (landArrivals x).vqSince = x.vqSince := rfl

/-! Accessors through updates. -/

@[simp] theorem slot_putSlot_same (s : State) (k : Nat) (x : Slot) : (s.putSlot k x).slot k = x := by
  simp [State.putSlot, State.slot]

theorem slot_putSlot_other (s : State) {k j : Nat} (x : Slot) (h : j ≠ k) : (s.putSlot k x).slot j = s.slot j := by
  simp [State.putSlot, State.slot, rd_wr_other _ _ _ h]

@[simp] theorem slot_onSlot_same (s : State) (k : Nat) (f : Slot → Slot) : (s.onSlot k f).slot k = f (s.slot k) :=
  slot_putSlot_same s k _

theorem slot_onSlot_other (s : State) {k j : Nat} (f : Slot → Slot) (h : j ≠ k) : (s.onSlot k f).slot j = s.slot j :=
  slot_putSlot_other s _ h

@[simp] theorem me_onMe (s : State) (f : Slot → Slot) : (s.onMe f).me = f s.me := slot_onSlot_same s s.cur f

@[simp] theorem slot_onMe_same (s : State) (f : Slot → Slot) : (s.onMe f).slot s.cur = f s.me := slot_onSlot_same s s.cur f

theorem slot_onMe_other (s : State) {j : Nat} (f : Slot → Slot) (h : j ≠ s.cur) : (s.onMe f).slot j = s.slot j :=
  slot_onSlot_other s f h

@[simp] theorem slot_onCore (s : State) (c j : Nat) (f : CoreSt → CoreSt) : (s.onCore c f).slot j = s.slot j := rfl
@[simp] theorem slot_onCluster (s : State) (c j : Nat) (f : ClusterSt → ClusterSt) : (s.onCluster c f).slot j = s.slot j := rfl
@[simp] theorem slot_onEngine (s : State) (c j : Nat) (f : EngineSt → EngineSt) : (s.onEngine c f).slot j = s.slot j := rfl
@[simp] theorem slot_putQueue (s : State) (c j : Nat) (q : Option QueueSt) : (s.putQueue c q).slot j = s.slot j := rfl
@[simp] theorem slot_putBytes (s : State) (c j : Nat) (b : List Byte) : (s.putBytes c b).slot j = s.slot j := rfl
@[simp] theorem core_onMe (s : State) (f : Slot → Slot) (c : Nat) : (s.onMe f).core c = s.core c := rfl
@[simp] theorem cluster_onMe (s : State) (f : Slot → Slot) (c : Nat) : (s.onMe f).cluster c = s.cluster c := rfl
@[simp] theorem core_onSlot (s : State) (k : Nat) (f : Slot → Slot) (c : Nat) : (s.onSlot k f).core c = s.core c := rfl
@[simp] theorem cluster_onSlot (s : State) (k : Nat) (f : Slot → Slot) (c : Nat) : (s.onSlot k f).cluster c = s.cluster c := rfl

@[simp] theorem core_onCore_same (s : State) (c : Nat) (f : CoreSt → CoreSt) : (s.onCore c f).core c = f (s.core c) := by
  simp [State.onCore, State.core]

theorem core_onCore_other (s : State) {c j : Nat} (f : CoreSt → CoreSt) (h : j ≠ c) : (s.onCore c f).core j = s.core j := by
  simp [State.onCore, State.core, rd_wr_other _ _ _ h]

@[simp] theorem cluster_onCluster_same (s : State) (c : Nat) (f : ClusterSt → ClusterSt) :
    (s.onCluster c f).cluster c = f (s.cluster c) := by
  simp [State.onCluster, State.cluster]

theorem cluster_onCluster_other (s : State) {c j : Nat} (f : ClusterSt → ClusterSt) (h : j ≠ c) :
    (s.onCluster c f).cluster j = s.cluster j := by
  simp [State.onCluster, State.cluster, rd_wr_other _ _ _ h]

@[simp] theorem engine_onEngine_same (s : State) (e : Nat) (f : EngineSt → EngineSt) :
    (s.onEngine e f).engine e = f (s.engine e) := by
  simp [State.onEngine, State.engine]

@[simp] theorem queue_putQueue_same (s : State) (k : Nat) (q : Option QueueSt) : (s.putQueue k q).queue k = q := by
  simp [State.putQueue, State.queue]

/-! Registers (R63, R64). -/

@[simp] theorem get_zero_register (x : Regs) : x.get 31 = 0 := by simp [Regs.get]

/-- A register reads what was written to it; zr reads zero. -/
theorem get_set_same (x : Regs) (r : Reg) (v : Word) : (x.set r v).get r = if r = 31 then 0 else v := by
  unfold Regs.get Regs.set
  split <;> simp [*]

/-- A write leaves every other register alone. -/
theorem get_set_other (x : Regs) {r q : Reg} (v : Word) (h : q ≠ r) : (x.set r v).get q = x.get q := by
  unfold Regs.get Regs.set
  split
  · rfl
  · split
    · rfl
    · exact rd_wr_other _ _ _ (fun e => h (BitVec.eq_of_toNat_eq e))

@[simp] theorem get_skip (x : Regs) (n : Nat) (r : Reg) : (x.skip n).get r = x.get r := rfl

/-- A predicate bit reads what was written to it. -/
theorem getP_setP_same (x : Regs) (r : Reg) (v : Bool) : (x.setP r v).getP r = v := by
  unfold Regs.getP Regs.setP
  cases v <;> simp [r.isLt]

/-- A write of a predicate bit leaves every other bit alone. -/
theorem getP_setP_other (x : Regs) {r q : Reg} (v : Bool) (h : q ≠ r) : (x.setP r v).getP q = x.getP q := by
  have hn : q.toNat ≠ r.toNat := fun e => h (BitVec.eq_of_toNat_eq e)
  have hq := q.isLt
  have hr := r.isLt
  unfold Regs.getP Regs.setP
  have h32 : q.toNat < 32 := hq
  cases v <;> simp only [Bool.false_eq_true, if_true, if_false, BitVec.getLsbD_or, BitVec.getLsbD_and, BitVec.getLsbD_not,
    BitVec.getLsbD_shiftLeft, BitVec.getLsbD_one, h32] <;>
    rcases Nat.lt_or_gt_of_ne hn with hl | hl <;> simp [hl, Nat.not_lt.2 (Nat.le_of_lt hl), Nat.sub_ne_zero_of_lt]

end Sys2Proof.Machine
end

