-- ==== Sys2Proof/Laws/Run.lean ====
section
/-! SUPPORT. Laws/Run.lean: what issuing an instruction comes to: its checks passed, its sources read, its effect carried
out, and its retirement into the open chunk or as a chunk of its own. -/

namespace Sys2Proof.Machine

variable {s : State} {rs : List Reg}

/-- A full check list that finds nothing wrong with a scalar instruction. -/
theorem decodeFault_scalar {x : Slot} {own : Bool} {f : Form} (hp : f.priv = true → x.spv = true)
    (hr : f.reason = none) (hf : f.full = true → x.light = false)
    (hl : ∀ r ∈ f.srcs ++ f.dsts, HasRegister x r) (hv : f.vec = false) (hm : f.mat = 0) :
    decodeFault x own f = none := by
  have h1 : ¬(f.priv = true ∧ x.spv = false) := fun h => by simp [hp h.1] at h
  have h2 : ¬(x.light = true ∧ (f.full = true ∨
      (f.srcs ++ f.dsts).any (fun r => decide (10 ≤ r.toNat ∧ r.toNat ≤ 30)) = true)) := by
    rintro ⟨hx, hfull | hany⟩
    · simp [hf hfull] at hx
    · obtain ⟨r, hmem, hd⟩ := List.any_eq_true.1 hany
      have hd := of_decide_eq_true hd
      rcases hl r hmem hx with h | rfl
      · omega
      · simp at hd
  rw [decodeFault, if_neg h1, hr]
  simp only []
  rw [if_neg h2, if_neg (by simp [hv]), matFault, if_pos hm]

/-- A scalar instruction is under no held-frame rule. -/
theorem heldFault_scalar {x : Slot} {f : Form} (hv : f.vec = false) (hm : f.mat = 0) : heldFault x f = false := by
  simp [heldFault, hv, hm]

/-- The held-frame rule asks for a supervisor and a held frame. -/
theorem heldFault_free {x : Slot} {f : Form} (hh : x.spv = false ∨ x.held = []) : heldFault x f = false := by
  rcases hh with h | h <;> simp [heldFault, h]

/-- What the checks of a vector instruction come to when none fails. -/
theorem decodeFault_vector {x : Slot} {own : Bool} {f : Form} (hp : f.priv = false) (hr : f.reason = none)
    (hf : x.light = false) (hv : f.vec = true → x.vec.vecField ≠ 0) (hm : matFault x own f.mat = none) :
    decodeFault x own f = none := by
  have h3 : ¬(f.vec = true ∧ x.vec.vecField = 0) := fun h => hv h.1 h.2
  simp [decodeFault, hp, hr, hf, h3, hm]

theorem popAll_unbound (s : State) (l : List Reg) (got : List (Reg × Word)) (h : ∀ r ∈ l, isBound s.me r = false) :
    popAll s l got = .ok got s := by
  induction l with
  | nil => rfl
  | cons r rs ih =>
    have hr : boundPort s.me r = none := by simpa [isBound] using h r (by simp)
    rw [popAll, hr]
    exact ih (fun q hq => h q (by simp [hq]))

theorem popSources_unbound {f : Form} (h : ∀ r ∈ f.srcs, isBound s.me r = false) : popSources f s = .ok [] s := by
  rw [popSources, popAll_unbound s _ _ h]

@[simp] theorem srcVal_nil (s : State) (r : Reg) : srcVal s [] r = s.me.regs.get r := rfl

theorem writeDst_unbound (s : State) (d : Reg) (v : Word) (h : isBound s.me d = false) :
    writeDst s d v = .ok () (s.onMe (fun x => { x with regs := x.regs.set d v })) := by
  have hd : boundPort s.me d = none := by simpa [isBound] using h
  rw [writeDst, hd]

theorem wr_wr {α : Type} [DecidableEq α] (d : α) (m : Store α) (k : Nat) (v w : α) :
    wr d (wr d m k v) k w = wr d m k w := by
  have hdi : ∀ (m : Store α) (v : α), (∀ e ∈ m, e.1 ≠ k) → del (ins m k v) k = m := by
    intro m v
    induction m with
    | nil => intro _; simp [ins, del]
    | cons e t ih =>
      obtain ⟨j, u⟩ := e
      intro h
      have hj : j ≠ k := h (j, u) (by simp)
      have hdt : ∀ (t : Store α), (∀ e ∈ t, e.1 ≠ k) → del t k = t := by
        intro t
        induction t with
        | nil => intro _; rfl
        | cons e t ih =>
          intro h
          have := h e (by simp)
          simp [del, this, ih (fun e he => h e (by simp [he]))]
      by_cases hlt : k < j
      · simp [ins, hlt, del, hj, hdt t (fun e he => h e (by simp [he]))]
      · simp [ins, hlt, del, hj, ih (fun e he => h e (by simp [he]))]
  have hdd : ∀ (m : Store α), del (del m k) k = del m k := by
    intro m
    induction m with
    | nil => rfl
    | cons e t ih =>
      obtain ⟨j, u⟩ := e
      by_cases hj : j = k <;> simp [del, hj, ih]
  have hdel : del (wr d m k v) k = del m k := by
    unfold wr
    split
    · exact hdd m
    · exact hdi _ _ (del_keys m k)
  conv_lhs => rw [wr, hdel]
  rfl

/-- Two changes of one slot are one change. -/
theorem onSlot_onSlot (s : State) (k : Nat) (f g : Slot → Slot) :
    (s.onSlot k f).onSlot k g = s.onSlot k (fun x => g (f x)) := by
  simp only [State.onSlot, slot_putSlot_same]
  simp only [State.putSlot, wr_wr]

theorem onMe_onMe (s : State) (f g : Slot → Slot) : (s.onMe f).onMe g = s.onMe (fun x => g (f x)) :=
  onSlot_onSlot s s.cur f g

/-- A write of an unbound register and the move of the pc are one change of the registers. -/
theorem writeAdvance_unbound (s : State) (d : Reg) (v : Word) (n : Nat) (h : isBound s.me d = false) :
    writeAdvance s d v n = .ok () (s.onMe (fun x => { x with regs := (x.regs.set d v).skip n })) := by
  rw [writeAdvance, writeDst_unbound s d v h]
  simp only [R.bind, advance, onMe_onMe]

theorem run_thread (f : Form) (s : State) (body : List (Reg × Word) → State → R Unit) (h : RunsThread s) :
    run f s body = .next (runSlot f s body) := by
  unfold run
  rcases h with h | h <;> rw [h]

/-- What a slot comes to whose instruction passes its checks and finds its registers ready. -/
theorem runSlot_ready {f : Form} {body : List (Reg × Word) → State → R Unit}
    (hd : decodeFault s.me (isOwner s s.cur) f = none) (hh : heldFault s.me f = false) (hr : Ready s (f.srcs ++ f.dsts))
    (ha : f.irrev = true → NoChunk s) : runSlot f s body = finish f.irrev f.count s (body [] s) := by
  have h1 : (f.srcs ++ f.dsts).find? (fun r => (pendingRegs s.me).contains r) = none := by
    simp only [List.find?_eq_none, List.contains_iff_mem]
    exact fun r hm => hr.arrived r hm
  have h2 : (f.srcs ++ f.dsts).any (fun r => (chunkPending s.me).contains r) = false := by
    simp only [List.any_eq_false, List.contains_iff_mem]
    exact fun r hm => hr.promised r hm
  have h3 : f.srcs.any (isBound s.me) = false := by
    simp only [List.any_eq_false]
    intro r hm
    simp [hr.unbound r (by simp [hm])]
  have h4 : (f.irrev && decide (s.me.chunk.count ≠ 0)) = false := by
    cases hi : f.irrev
    · rfl
    · simp [show s.me.chunk.count = 0 from congrArg Chunk.count (ha hi)]
  simp only [runSlot, hd, hh, h1, h2, h3, Bool.or_false, h4, Bool.false_eq_true, if_false]
  rw [popSources_unbound (fun r hm => hr.unbound r (by simp [hm]))]
  rfl

/-- An instruction that passes its checks and finds its registers ready answers a next state. -/
theorem run_ready {f : Form} {body : List (Reg × Word) → State → R Unit}
    (hd : decodeFault s.me (isOwner s s.cur) f = none) (hh : heldFault s.me f = false) (hr : Ready s (f.srcs ++ f.dsts))
    (ha : f.irrev = true → NoChunk s) : run f s body = .next (finish f.irrev f.count s (body [] s)) := by
  rw [run_thread f s body hr.thread, runSlot_ready hd hh hr ha]

/-- A scalar instruction without privilege that passes its checks and finds its registers ready. -/
theorem run_scalar {f : Form} {body : List (Reg × Word) → State → R Unit} {l : List Reg} (h : Ready s l)
    (hl : ∀ r ∈ f.srcs ++ f.dsts, r ∈ l) (hr : f.reason = none) (hf : f.full = true → s.me.light = false)
    (hp : f.priv = true → s.me.spv = true) (hv : f.vec = false) (hm : f.mat = 0)
    (ha : f.irrev = true → NoChunk s) : run f s body = .next (finish f.irrev f.count s (body [] s)) :=
  run_ready (decodeFault_scalar hp hr hf (fun r hm => h.has r (hl r hm)) hv hm) (heldFault_scalar hv hm)
    ⟨h.thread, fun r hm => h.has r (hl r hm), fun r hm => h.arrived r (hl r hm), fun r hm => h.promised r (hl r hm),
      fun r hm => h.unbound r (hl r hm)⟩ ha

/-! Event counters and retirement. -/

theorem countOne_eq (b : Bool) (e n : Nat) (w : SysRegs) (h : Nat × Word) :
    ∃ c v, countOne b e n w h = { w with evc := c, evsel := v } := by
  by_cases hc : (h.2.getLsbD 18 && (if b then h.2.getLsbD 17 else h.2.getLsbD 16) &&
      decide (fieldOf h.2 7 0 = e ∧ e ≠ 0)) = true
  · exact ⟨_, _, if_pos hc⟩
  · exact ⟨w.evc, w.evsel, if_neg hc⟩

/-- Counting an event touches nothing but the event counters and their overflow bits. -/
theorem countAs_eq (x : Slot) (b : Bool) (e n : Nat) :
    ∃ c v, countAs x b e n = { x with sys := { x.sys with evc := c, evsel := v } } := by
  have key : ∀ (l : List (Nat × Word)) (w : SysRegs),
      ∃ c v, l.foldl (countOne b e n) w = { w with evc := c, evsel := v } := by
    intro l
    induction l with
    | nil => exact fun w => ⟨w.evc, w.evsel, rfl⟩
    | cons h t ih =>
      intro w
      obtain ⟨c', v', hw⟩ := countOne_eq b e n w h
      obtain ⟨c, v, hcv⟩ := ih (countOne b e n w h)
      refine ⟨c, v, ?_⟩
      rw [List.foldl_cons, hcv, hw]
  obtain ⟨c, v, h⟩ := key x.sys.evsel x.sys
  exact ⟨c, v, congrArg (fun q => { x with sys := q }) h⟩

/-- The issuing slot after an instruction of the slot `x0` has joined its chunk, but for the event counters. -/
def joined (x0 : Slot) (prot : Bool) (n : Nat) (x : Slot) : Slot :=
  { x with
    chunk := { x.chunk with
      count := x.chunk.count + n
      ckpt := if x0.chunk.count = 0 then some x0.regs else x.chunk.ckpt
      ckptPorts := if x0.chunk.count = 0 then x0.ports else x.chunk.ckptPorts
      prot := prot || x.chunk.prot
      closed := x.chunk.closed || decide ((if 0 < x0.single then 1 else 256) ≤ x.chunk.count + n) }
    single := x0.single - n
    qualified := x0.qualified && !prot
    granted := none
    answer := none
    remote := false }

/-- Everything that joining the chunk can do: the slot's chunk, its event counters, and who last held the protected place. -/
theorem joinChunk_eq (s0 s1 : State) (n : Nat) (hcur : s1.cur = s0.cur) :
    ∃ prot c v cl, joinChunk s0 s1 n = { s1.onMe (fun x => { joined s0.me prot n x with
        sys := { x.sys with evc := c, evsel := v } }) with clusters := cl } ∧
      ∀ k, { rd .reset cl k with lastProt := 0 } = { s1.cluster k with lastProt := 0 } := by
  cases hp : (decide (s0.me.chunk.count = 0) && getsProtection s0 s0.cur)
  · refine ⟨false, s1.me.sys.evc, s1.me.sys.evsel, s1.clusters, ?_, fun k => rfl⟩
    simp only [joinChunk, hp, Bool.false_eq_true, if_false]
    rfl
  · obtain ⟨c, v, h⟩ := countAs_eq (joined s0.me true n s1.me) (joined s0.me true n s1.me).spv 5 1
    refine ⟨true, c, v, wr .reset s1.clusters (clusterOf s0.cur) { s1.cluster (clusterOf s0.cur) with lastProt := s0.cur },
      ?_, fun k => ?_⟩
    · have e : joinChunk s0 s1 n = ((s1.onMe (joined s0.me true n)).onCluster (clusterOf s0.cur)
          (fun y => { y with lastProt := s0.cur })).count s1.cur 5 := by
        rw [hcur]
        simp only [joinChunk, hp, if_true]
        rfl
      rw [e]
      simp only [State.count, State.onMe, State.onSlot, State.putSlot, State.onCluster, State.slot, rd_wr_same, wr_wr,
        State.cluster, countEvent]
      exact congrArg (fun q => { s1 with
        slots := wr .empty s1.slots s1.cur q
        clusters := wr .reset s1.clusters (clusterOf s0.cur)
          { s1.cluster (clusterOf s0.cur) with lastProt := s0.cur } }) h
    · rw [rd_wr]
      split
      · next hk => rw [hk]
      · rfl

end Sys2Proof.Machine
end

