-- ==== Sys2Proof/Tests/Slice0.lean ====
section
/-! SUPPORT. Tests/Slice0.lean: words decoded, ill-formed terms refused, single steps on small states, and for every obligation a
state and operands that meet its hypotheses. The expected values are worked out by hand from the rule that each theorem
names. -/

namespace Sys2Proof.Tests

open Sys2Proof Sys2Proof.Machine

set_option Elab.async false

/-! ### Small states -/

/-- The hypotheses of `Ready`, to be computed. -/
def readyB (s : State) (rs : List Reg) : Bool :=
  (s.me.res == .full || s.me.res == .light) &&
  rs.all (fun r => (!s.me.light || decide (r.toNat < 10) || r == 31) && !(pendingRegs s.me).contains r &&
    !(chunkPending s.me).contains r && !isBound s.me r)

theorem ready_of {s : State} {rs : List Reg} (h : readyB s rs = true) : Ready s rs := by
  simp only [readyB, Bool.and_eq_true, Bool.or_eq_true, beq_iff_eq, List.all_eq_true, Bool.not_eq_true',
    decide_eq_true_eq, List.contains_eq_mem, decide_eq_false_iff_not] at h
  refine ⟨h.1, fun r hr hl => ?_, fun r hr => (h.2 r hr).1.1.2, fun r hr => (h.2 r hr).1.2, fun r hr => (h.2 r hr).2⟩
  rcases (h.2 r hr).1.1.1 with (h1 | h1) | h1
  · rw [hl] at h1; cases h1
  · exact .inl h1
  · exact .inr h1

theorem readyFull_of {s : State} {rs : List Reg} (h : (readyB s rs && !s.me.light) = true) : ReadyFull s rs := by
  simp only [Bool.and_eq_true, Bool.not_eq_true'] at h
  exact ⟨ready_of h.1, h.2⟩

theorem readyVec_of {s : State} {rs : List Reg} (h : (readyB s rs && !s.me.light) = true) (hv : s.me.vec.vecField ≠ 0)
    (hr : s.me.spv = false ∨ s.me.held = []) : ReadyVec s rs := ⟨readyFull_of h, hv, hr⟩

/-- One full supervisor thread in slot 0, process 0, its core's window its own, the page at 0x30000 mapped and tracked. -/
def one : State :=
  { (State.reset.withFetchWord 32 0).putLe (placeTables + 0x4000 + 8 * 0x30) 8 (0x30 * 65536 + 0x1BF) with agenda := [] }

/-- `one` with scalar registers set. -/
def with_ (rs : List (Reg × Nat)) : State :=
  one.onMe (fun x => { x with regs := rs.foldl (fun r e => { r with s := (r.set e.1 (word e.2)).s }) x.regs })

/-- The first byte of the issuing core's own window. -/
def win : Nat := 0xF0000008000000

theorem locates_of {s : State} {va : Word} {n : Nat} {w : Want} {l : Loc} (h1 : va.toNat % n = 0)
    (h2 : (resolveFor s s.cur va w).2 = .ok l) (h3 : mustMigrate s va = none ∧ acquireQueued s.me = false) :
    Locates s va n w l (resolveFor s s.cur va w).1 := ⟨h1, Prod.ext rfl h2, h3.1, h3.2⟩

/-- The state after a location is found. -/
def after (s : State) (va : Word) (w : Want) : State := (resolveFor s s.cur va w).1

/-- A location in the core's own window, and one in the mapped page. -/
def own : Loc := ⟨2 ^ 52, 1, false, true⟩
def page : Loc := ⟨0x30000, 0, false, true⟩

/-- The issuing thread as a light one. -/
def lit (s : State) : State :=
  s.onMe (fun x => { x with res := .light, sys := { x.sys with status := x.sys.status ||| 0x10 } })

theorem test_decode_sys : ∀ e ∈ ([
    (0b00001011010001100000000000000001#32, .trap ⟨1443, 0, 0⟩),
    (0b00010000000000000000000000000001#32, .eret ⟨0, 0, 0⟩),
    (0b00101011010001100000100110000001#32, .sysrd ⟨1443, 0, 19⟩),
    (0b00111011010001101010000000000001#32, .syswr ⟨1443, 10, 0⟩),
    (0b01001011010001101010100110000001#32, .sysset ⟨1443, 10, 19⟩),
    (0b01011011010001101010100110000001#32, .sysclr ⟨1443, 10, 19⟩),
    (0b01100000000000001010000000000001#32, .vsave ⟨0, 10, 0⟩),
    (0b01110000000000001010000000000001#32, .vrstr ⟨0, 10, 0⟩),
    (0b10000000000000001010000000000001#32, .asave ⟨0, 10, 0⟩),
    (0b10010000000000001010000000000001#32, .arstr ⟨0, 10, 0⟩),
    (0b10100000000000001010000000000001#32, .frsave ⟨0, 10, 0⟩),
    (0b10110000000000001010000000000001#32, .frload ⟨0, 10, 0⟩),
    (0b11000000000000000000000000000001#32, .halt ⟨0, 0, 0⟩),
    (0b11011011010001100000000000000001#32, .brk ⟨1443, 0, 0⟩)] : List (BitVec 32 × Instr)),
    decodeWord e.1 = .instr e.2 ∧ encode e.2 = some (.word e.1) := by decide +kernel

theorem test_decode_fence : ∀ e ∈ ([
    (0b00000000110000000000100110000011#32, .fence ⟨3, 0, 0, 19⟩),
    (0b00000010110000000000000000000011#32, .fsmp ⟨3, 0, 0, 0⟩),
    (0b00000100000000000000000000000011#32, .chunk ⟨0, 0, 0, 0⟩),
    (0b00000110111010101010000000000011#32, .dcwb ⟨3, 21, 10, 0⟩),
    (0b00001000111010101010000000000011#32, .dcinv ⟨3, 21, 10, 0⟩),
    (0b00001010111010101010000000000011#32, .icinv ⟨3, 21, 10, 0⟩),
    (0b00001100000000001010000000000011#32, .ipf ⟨0, 0, 10, 0⟩),
    (0b00001110000000001010000000000011#32, .dpf ⟨0, 0, 10, 0⟩)] : List (BitVec 32 × Instr)),
    decodeWord e.1 = .instr e.2 ∧ encode e.2 = some (.word e.1) := by decide +kernel

theorem test_decode_inti : ∀ e ∈ ([
    (0b10100101110000001010100110010101#32, .addi ⟨2652, 10, 19⟩),
    (0b10100101110000101010100110010101#32, .andi ⟨2652, 10, 19⟩),
    (0b10100101110001001010100110010101#32, .ori ⟨2652, 10, 19⟩),
    (0b10100101110001101010100110010101#32, .xori ⟨2652, 10, 19⟩),
    (0b00000001110010001010100110010101#32, .slli ⟨28, 10, 19⟩),
    (0b00000001110010101010100110010101#32, .srli ⟨28, 10, 19⟩),
    (0b00000001110011001010100110010101#32, .srai ⟨28, 10, 19⟩)] : List (BitVec 32 × Instr)),
    decodeWord e.1 = .instr e.2 ∧ encode e.2 = some (.word e.1) := by decide +kernel

theorem test_decode_cmp : ∀ e ∈ ([
    (0b00000000001010101010100110010111#32, .cmpeq ⟨21, 10, 19⟩),
    (0b00000000011010101010100110010111#32, .cmpne ⟨21, 10, 19⟩),
    (0b00000000101010101010100110010111#32, .cmplt ⟨21, 10, 19⟩),
    (0b00000000111010101010100110010111#32, .cmple ⟨21, 10, 19⟩),
    (0b00000001001010101010100110010111#32, .cmpltu ⟨21, 10, 19⟩),
    (0b00000001011010101010100110010111#32, .cmpleu ⟨21, 10, 19⟩),
    (0b00000001101010101010100110010111#32, .pand ⟨21, 10, 19⟩),
    (0b00000001111010101010100110010111#32, .por ⟨21, 10, 19⟩),
    (0b00000010001010101010100110010111#32, .pxor ⟨21, 10, 19⟩),
    (0b00000010010000001010100110010111#32, .pnot ⟨0, 10, 19⟩),
    (0b00000010100000000000100110010111#32, .prd ⟨0, 0, 19⟩),
    (0b00000010110000001010000000010111#32, .pwr ⟨0, 10, 0⟩)] : List (BitVec 32 × Instr)),
    decodeWord e.1 = .instr e.2 ∧ encode e.2 = some (.word e.1) := by decide +kernel

theorem test_decode_cmpi : ∀ e ∈ ([
    (0b10100101110000001010100110011001#32, .cmpeqi ⟨2652, 10, 19⟩),
    (0b10100101110000101010100110011001#32, .cmplti ⟨2652, 10, 19⟩)] : List (BitVec 32 × Instr)),
    decodeWord e.1 = .instr e.2 ∧ encode e.2 = some (.word e.1) := by decide +kernel

theorem test_decode_load : ∀ e ∈ ([
    (0b10100101110000001010100110011011#32, .ld8 ⟨2652, 10, 19⟩),
    (0b10100101110000101010100110011011#32, .ld8u ⟨2652, 10, 19⟩),
    (0b10100101110001001010100110011011#32, .ld16 ⟨2652, 10, 19⟩),
    (0b10100101110001101010100110011011#32, .ld16u ⟨2652, 10, 19⟩),
    (0b10100101110010001010100110011011#32, .ld32 ⟨2652, 10, 19⟩),
    (0b10100101110010101010100110011011#32, .ld32u ⟨2652, 10, 19⟩),
    (0b10100101110011001010100110011011#32, .ld64 ⟨2652, 10, 19⟩)] : List (BitVec 32 × Instr)),
    decodeWord e.1 = .instr e.2 ∧ encode e.2 = some (.word e.1) := by decide +kernel

theorem test_decode_store : ∀ e ∈ ([
    (0b10100101110000001010100110011101#32, .st8 ⟨2652, 10, 19⟩),
    (0b10100101110000101010100110011101#32, .st16 ⟨2652, 10, 19⟩),
    (0b10100101110001001010100110011101#32, .st32 ⟨2652, 10, 19⟩),
    (0b10100101110001101010100110011101#32, .st64 ⟨2652, 10, 19⟩)] : List (BitVec 32 × Instr)),
    decodeWord e.1 = .instr e.2 ∧ encode e.2 = some (.word e.1) := by decide +kernel

theorem test_decode_sfp : ∀ e ∈ ([
    (0b00000000001010101010100110011111#32, .fadd ⟨21, 10, 19⟩),
    (0b00000000011010101010100110011111#32, .fsub ⟨21, 10, 19⟩),
    (0b00000000101010101010100110011111#32, .fmul ⟨21, 10, 19⟩),
    (0b00000000111010101010100110011111#32, .fma ⟨21, 10, 19⟩),
    (0b00000001001010101010100110011111#32, .fdiv ⟨21, 10, 19⟩),
    (0b00000001010000001010100110011111#32, .fsqrt ⟨0, 10, 19⟩),
    (0b00000001101010101010100110011111#32, .fcmpeq ⟨21, 10, 19⟩),
    (0b00000001111010101010100110011111#32, .fcmplt ⟨21, 10, 19⟩),
    (0b00000010001010101010100110011111#32, .fcmple ⟨21, 10, 19⟩),
    (0b00000010011010101010100110011111#32, .fcmpun ⟨21, 10, 19⟩),
    (0b00000010100010101010100110011111#32, .fcvtif ⟨5, 10, 19⟩),
    (0b00000010110010101010100110011111#32, .fcvtfi ⟨5, 10, 19⟩)] : List (BitVec 32 × Instr)),
    decodeWord e.1 = .instr e.2 ∧ encode e.2 = some (.word e.1) := by decide +kernel

theorem test_decode_amo : ∀ e ∈ ([
    (0b00000000111010101010100110100001#32, .amoadd ⟨3, 21, 10, 19⟩),
    (0b00000010111010101010100110100001#32, .amoand ⟨3, 21, 10, 19⟩),
    (0b00000100111010101010100110100001#32, .amoor ⟨3, 21, 10, 19⟩),
    (0b00000110111010101010100110100001#32, .amoxor ⟨3, 21, 10, 19⟩),
    (0b00001000111010101010100110100001#32, .amomin ⟨3, 21, 10, 19⟩),
    (0b00001010111010101010100110100001#32, .amomax ⟨3, 21, 10, 19⟩),
    (0b00001100111010101010100110100001#32, .amominu ⟨3, 21, 10, 19⟩),
    (0b00001110111010101010100110100001#32, .amomaxu ⟨3, 21, 10, 19⟩),
    (0b00010000111010101010100110100001#32, .amoswp ⟨3, 21, 10, 19⟩),
    (0b00010010111010101010100110100001#32, .amocas ⟨3, 21, 10, 19⟩),
    (0b00010100111010101010000000100001#32, .redadd ⟨3, 21, 10, 0⟩),
    (0b00010110110000001010100110100001#32, .lda ⟨3, 0, 10, 19⟩),
    (0b00011000111010101010000000100001#32, .stl ⟨3, 21, 10, 0⟩)] : List (BitVec 32 × Instr)),
    decodeWord e.1 = .instr e.2 ∧ encode e.2 = some (.word e.1) := by decide +kernel

theorem test_decode_queue : ∀ e ∈ ([
    (0b00000000011010101010100110100011#32, .qbind ⟨1, 21, 10, 19⟩),
    (0b00000010010000001010000000100011#32, .qfree ⟨1, 0, 10, 0⟩),
    (0b00000100001010101010100110100011#32, .qpushn ⟨0, 21, 10, 19⟩),
    (0b00000110001010101010100110100011#32, .qpopn ⟨0, 21, 10, 19⟩),
    (0b00001000010000001010100110100011#32, .qstat ⟨1, 0, 10, 19⟩)] : List (BitVec 32 × Instr)),
    decodeWord e.1 = .instr e.2 ∧ encode e.2 = some (.word e.1) := by decide +kernel

theorem test_decode_task : ∀ e ∈ ([
    (0b00000000001010101010100110100101#32, .tqenq ⟨0, 21, 10, 19⟩),
    (0b00000010001010101010100110100101#32, .jcenq ⟨0, 21, 10, 19⟩),
    (0b00000100001010101010100110100101#32, .spawn ⟨0, 21, 10, 19⟩),
    (0b00000110000000001010000000100101#32, .migr ⟨0, 0, 10, 0⟩),
    (0b00001000000000000000000000100101#32, .yield ⟨0, 0, 0, 0⟩),
    (0b00001010000000000000000000100101#32, .exit ⟨0, 0, 0, 0⟩),
    (0b00001100000000001010100110100101#32, .sleep ⟨0, 0, 10, 19⟩)] : List (BitVec 32 × Instr)),
    decodeWord e.1 = .instr e.2 ∧ encode e.2 = some (.word e.1) := by decide +kernel

theorem test_decode_sctr : ∀ e ∈ ([
    (0b00000000001010101010100110100111#32, .scarm ⟨0, 21, 10, 19⟩),
    (0b00000010001010101010100110100111#32, .sctake ⟨0, 21, 10, 19⟩),
    (0b00000100001010101010100110100111#32, .sctakep ⟨0, 21, 10, 19⟩),
    (0b00000110001010101010000000100111#32, .scgive ⟨0, 21, 10, 0⟩),
    (0b00001000000000001010100110100111#32, .scread ⟨0, 0, 10, 19⟩),
    (0b00001010001010101010100110100111#32, .scset ⟨0, 21, 10, 19⟩),
    (0b00001100000000001010100110100111#32, .scdsrm ⟨0, 0, 10, 19⟩)] : List (BitVec 32 × Instr)),
    decodeWord e.1 = .instr e.2 ∧ encode e.2 = some (.word e.1) := by decide +kernel

theorem test_decode_br : ∀ e ∈ ([
    (0b10101101001011100001110100000101#32, .br ⟨22699066⟩)] : List (BitVec 32 × Instr)),
    decodeWord e.1 = .instr e.2 ∧ encode e.2 = some (.word e.1) := by decide +kernel

theorem test_decode_bar : ∀ e ∈ ([
    (0b00000000001010101010000000101001#32, .barinit ⟨0, 21, 10, 0⟩),
    (0b00000010111010101010000000101001#32, .bararr ⟨3, 21, 10, 0⟩),
    (0b00000100001010101010000000101001#32, .barexp ⟨0, 21, 10, 0⟩),
    (0b00000110111010101010100110101001#32, .barwt ⟨3, 21, 10, 19⟩),
    (0b00001000110000001010100110101001#32, .bartst ⟨3, 0, 10, 19⟩)] : List (BitVec 32 × Instr)),
    decodeWord e.1 = .instr e.2 ∧ encode e.2 = some (.word e.1) := by decide +kernel

theorem test_decode_vcfg : ∀ e ∈ ([
    (0b00000000101010001010100110110001#32, .setvl ⟨0, 21, 10, 19⟩),
    (0b00100101110000101010100110110001#32, .setvli ⟨604, 0, 10, 19⟩),
    (0b00000000101011001010100110110001#32, .vspan ⟨0, 21, 10, 19⟩)] : List (BitVec 32 × Instr)),
    decodeWord e.1 = .instr e.2 ∧ encode e.2 = some (.word e.1) := by decide +kernel

theorem test_decode_vload : ∀ e ∈ ([
    (0b00000001010000001010101000110011#32, .vld ⟨5, 0, 10, 20⟩),
    (0b00000011011010101010101000110011#32, .vlds ⟨5, 21, 10, 20⟩),
    (0b00000101011010101010101000110011#32, .vldg ⟨5, 21, 10, 20⟩),
    (0b00000111010000001010101000110011#32, .vldff ⟨5, 0, 10, 20⟩),
    (0b00001001011010101010101000110011#32, .vldseg ⟨5, 21, 10, 20⟩),
    (0b00001011011010101010101000110011#32, .vldb ⟨5, 21, 10, 20⟩),
    (0b00001101010000001010101000110011#32, .vldc ⟨5, 0, 10, 20⟩)] : List (BitVec 32 × Instr)),
    decodeWord e.1 = .instr e.2 ∧ encode e.2 = some (.word e.1) := by decide +kernel

theorem test_decode_vstore : ∀ e ∈ ([
    (0b00000001010000001010101000110101#32, .vst ⟨5, 0, 10, 20⟩),
    (0b00000011011010101010101000110101#32, .vsts ⟨5, 21, 10, 20⟩),
    (0b00000101011010101010101000110101#32, .vstsc ⟨5, 21, 10, 20⟩),
    (0b00000111011010101010101000110101#32, .vstseg ⟨5, 21, 10, 20⟩),
    (0b00001001011010101010101000110101#32, .vstb ⟨5, 21, 10, 20⟩)] : List (BitVec 32 × Instr)),
    decodeWord e.1 = .instr e.2 ∧ encode e.2 = some (.word e.1) := by decide +kernel

theorem test_decode_vamo : ∀ e ∈ ([
    (0b00000111011010101010101000110111#32, .vamoadd ⟨3, 5, 21, 10, 20⟩),
    (0b00010111011010101010101000110111#32, .vamomin ⟨3, 5, 21, 10, 20⟩),
    (0b00100111011010101010101000110111#32, .vamomax ⟨3, 5, 21, 10, 20⟩),
    (0b00110111011010101010101000110111#32, .vamoand ⟨3, 5, 21, 10, 20⟩),
    (0b01000111011010101010101000110111#32, .vamoor ⟨3, 5, 21, 10, 20⟩),
    (0b01010111011010101010101000110111#32, .vamoxor ⟨3, 5, 21, 10, 20⟩),
    (0b01100111011010101010101000110111#32, .vamoswp ⟨3, 5, 21, 10, 20⟩),
    (0b01110111011010101010101000110111#32, .vamocas ⟨3, 5, 21, 10, 20⟩),
    (0b10000111011010101010101000110111#32, .vamoaddNr ⟨3, 5, 21, 10, 20⟩),
    (0b10010111011010101010101000110111#32, .vamominNr ⟨3, 5, 21, 10, 20⟩),
    (0b10100111011010101010101000110111#32, .vamomaxNr ⟨3, 5, 21, 10, 20⟩),
    (0b10110111011010101010101000110111#32, .vamoandNr ⟨3, 5, 21, 10, 20⟩),
    (0b11000111011010101010101000110111#32, .vamoorNr ⟨3, 5, 21, 10, 20⟩),
    (0b11010111011010101010101000110111#32, .vamoxorNr ⟨3, 5, 21, 10, 20⟩),
    (0b11100111011010101010101000110111#32, .vamoswpNr ⟨3, 5, 21, 10, 20⟩)] : List (BitVec 32 × Instr)),
    decodeWord e.1 = .instr e.2 ∧ encode e.2 = some (.word e.1) := by decide +kernel

theorem test_decode_vint : ∀ e ∈ ([
    (0b00000001011011001001101000111001#32, .vadd ⟨0, 5, 22, 9, 20⟩),
    (0b00001001011011001001101000111001#32, .vsub ⟨0, 5, 22, 9, 20⟩),
    (0b00010001011011001001101000111001#32, .vmul ⟨0, 5, 22, 9, 20⟩),
    (0b00011001011011001001101000111001#32, .vmulh ⟨0, 5, 22, 9, 20⟩),
    (0b00100001011011001001101000111001#32, .vmulhu ⟨0, 5, 22, 9, 20⟩),
    (0b00101001011011001001101000111001#32, .vmacc ⟨0, 5, 22, 9, 20⟩),
    (0b00110001011011001001101000111001#32, .vand ⟨0, 5, 22, 9, 20⟩),
    (0b00111001011011001001101000111001#32, .vor ⟨0, 5, 22, 9, 20⟩),
    (0b01000001011011001001101000111001#32, .vxor ⟨0, 5, 22, 9, 20⟩),
    (0b01001001011011001001101000111001#32, .vsll ⟨0, 5, 22, 9, 20⟩),
    (0b01010001011011001001101000111001#32, .vsrl ⟨0, 5, 22, 9, 20⟩),
    (0b01011001011011001001101000111001#32, .vsra ⟨0, 5, 22, 9, 20⟩),
    (0b01100001011011001001101000111001#32, .vmin ⟨0, 5, 22, 9, 20⟩),
    (0b01101001011011001001101000111001#32, .vmax ⟨0, 5, 22, 9, 20⟩),
    (0b01110001011011001001101000111001#32, .vminu ⟨0, 5, 22, 9, 20⟩),
    (0b01111001011011001001101000111001#32, .vmaxu ⟨0, 5, 22, 9, 20⟩)] : List (BitVec 32 × Instr)),
    decodeWord e.1 = .instr e.2 ∧ encode e.2 = some (.word e.1) := by decide +kernel

theorem test_decode_vint2 : ∀ e ∈ ([
    (0b00000101011011001001101000111011#32, .vsadd ⟨2, 5, 22, 9, 20⟩),
    (0b00001101011011001001101000111011#32, .vssub ⟨2, 5, 22, 9, 20⟩),
    (0b00010001010001001001101000111011#32, .vnarrow ⟨0, 5, 2, 9, 20⟩),
    (0b00011001010001001001101000111011#32, .vwiden ⟨0, 5, 2, 9, 20⟩)] : List (BitVec 32 × Instr)),
    decodeWord e.1 = .instr e.2 ∧ encode e.2 = some (.word e.1) := by decide +kernel

theorem test_decode_call : ∀ e ∈ ([
    (0b10101101001011100001110100000111#32, .call ⟨22699066⟩)] : List (BitVec 32 × Instr)),
    decodeWord e.1 = .instr e.2 ∧ encode e.2 = some (.word e.1) := by decide +kernel

theorem test_decode_vfp : ∀ e ∈ ([
    (0b00000101011011001001101000111101#32, .vfadd ⟨2, 5, 22, 9, 20⟩),
    (0b00001101011011001001101000111101#32, .vfsub ⟨2, 5, 22, 9, 20⟩),
    (0b00010101011011001001101000111101#32, .vfmul ⟨2, 5, 22, 9, 20⟩),
    (0b00011101011011001001101000111101#32, .vfma ⟨2, 5, 22, 9, 20⟩),
    (0b00100101011011001001101000111101#32, .vfms ⟨2, 5, 22, 9, 20⟩),
    (0b00101101011011001001101000111101#32, .vfnma ⟨2, 5, 22, 9, 20⟩),
    (0b00110101011011001001101000111101#32, .vfmin ⟨2, 5, 22, 9, 20⟩),
    (0b00111101011011001001101000111101#32, .vfmax ⟨2, 5, 22, 9, 20⟩),
    (0b01000101010000001001101000111101#32, .vfabs ⟨2, 5, 0, 9, 20⟩),
    (0b01001101010000001001101000111101#32, .vfneg ⟨2, 5, 0, 9, 20⟩),
    (0b01010101011011001001101000111101#32, .vfdiv ⟨2, 5, 22, 9, 20⟩),
    (0b01011101010000001001101000111101#32, .vfsqrt ⟨2, 5, 0, 9, 20⟩)] : List (BitVec 32 × Instr)),
    decodeWord e.1 = .instr e.2 ∧ encode e.2 = some (.word e.1) := by decide +kernel

theorem test_decode_vfp2 : ∀ e ∈ ([
    (0b00000101010000001001101000111111#32, .vfrcp ⟨2, 5, 0, 9, 20⟩),
    (0b00001101010000001001101000111111#32, .vfrsq ⟨2, 5, 0, 9, 20⟩),
    (0b00010101010000001001101000111111#32, .vfexp2 ⟨2, 5, 0, 9, 20⟩),
    (0b00011101010000001001101000111111#32, .vflog2 ⟨2, 5, 0, 9, 20⟩),
    (0b00100101010000001001101000111111#32, .vfsin ⟨2, 5, 0, 9, 20⟩),
    (0b00101101010000001001101000111111#32, .vfcos ⟨2, 5, 0, 9, 20⟩),
    (0b00110101011011001001101000111111#32, .vfcvt ⟨2, 5, 22, 9, 20⟩),
    (0b00111101010000001001101000111111#32, .vfcvti ⟨2, 5, 0, 9, 20⟩),
    (0b01000101010000001001101000111111#32, .vfcvtf ⟨2, 5, 0, 9, 20⟩)] : List (BitVec 32 × Instr)),
    decodeWord e.1 = .instr e.2 ∧ encode e.2 = some (.word e.1) := by decide +kernel

theorem test_decode_vcmp : ∀ e ∈ ([
    (0b00000001011011001001101001000001#32, .vcmpeq ⟨0, 5, 22, 9, 20⟩),
    (0b00001001011011001001101001000001#32, .vcmpne ⟨0, 5, 22, 9, 20⟩),
    (0b00010001011011001001101001000001#32, .vcmplt ⟨0, 5, 22, 9, 20⟩),
    (0b00011001011011001001101001000001#32, .vcmple ⟨0, 5, 22, 9, 20⟩),
    (0b00100001011011001001101001000001#32, .vcmpltu ⟨0, 5, 22, 9, 20⟩),
    (0b00101001011011001001101001000001#32, .vcmpleu ⟨0, 5, 22, 9, 20⟩),
    (0b00110101011011001001101001000001#32, .vfcmpeq ⟨2, 5, 22, 9, 20⟩),
    (0b00111101011011001001101001000001#32, .vfcmplt ⟨2, 5, 22, 9, 20⟩),
    (0b01000101011011001001101001000001#32, .vfcmple ⟨2, 5, 22, 9, 20⟩),
    (0b01001101011011001001101001000001#32, .vfcmpun ⟨2, 5, 22, 9, 20⟩)] : List (BitVec 32 × Instr)),
    decodeWord e.1 = .instr e.2 ∧ encode e.2 = some (.word e.1) := by decide +kernel

theorem test_decode_vmask : ∀ e ∈ ([
    (0b00000000001011001001101001000011#32, .mand ⟨0, 0, 22, 9, 20⟩),
    (0b00001000001011001001101001000011#32, .mor ⟨0, 0, 22, 9, 20⟩),
    (0b00010000001011001001101001000011#32, .mxor ⟨0, 0, 22, 9, 20⟩),
    (0b00011000000000001001101001000011#32, .mnot ⟨0, 0, 0, 9, 20⟩),
    (0b00100001010000001001101001000011#32, .mffs ⟨0, 5, 0, 9, 20⟩),
    (0b00101001010000001001101001000011#32, .mpop ⟨0, 5, 0, 9, 20⟩),
    (0b00110000000000001001101001000011#32, .mset ⟨0, 0, 0, 9, 20⟩),
    (0b00111001010000000000101001000011#32, .vidx ⟨0, 5, 0, 0, 20⟩),
    (0b01000001011011001001101001000011#32, .vmsel ⟨0, 5, 22, 9, 20⟩)] : List (BitVec 32 × Instr)),
    decodeWord e.1 = .instr e.2 ∧ encode e.2 = some (.word e.1) := by decide +kernel

theorem test_decode_vperm : ∀ e ∈ ([
    (0b00000001011011001001101001000101#32, .vperm ⟨0, 5, 22, 9, 20⟩),
    (0b00001001011011001001101001000101#32, .vslup ⟨0, 5, 22, 9, 20⟩),
    (0b00010001011011001001101001000101#32, .vsldn ⟨0, 5, 22, 9, 20⟩),
    (0b00011001010000001001101001000101#32, .vcmpr ⟨0, 5, 0, 9, 20⟩),
    (0b00100001010000001001101001000101#32, .vexpd ⟨0, 5, 0, 9, 20⟩),
    (0b00101001010000001001101001000101#32, .vbcst ⟨0, 5, 0, 9, 20⟩),
    (0b00110000001011001001101001000101#32, .vmvxs ⟨0, 0, 22, 9, 20⟩),
    (0b00111000001011001001101001000101#32, .vmvsx ⟨0, 0, 22, 9, 20⟩),
    (0b01000001010000001001101001000101#32, .vmov ⟨0, 5, 0, 9, 20⟩),
    (0b01001001011011001001101001000101#32, .vxchg ⟨0, 5, 22, 9, 20⟩),
    (0b01010001010000001001101001000101#32, .vkrank ⟨0, 5, 0, 9, 20⟩),
    (0b01011001010000001001101001000101#32, .vhist ⟨0, 5, 0, 9, 20⟩)] : List (BitVec 32 × Instr)),
    decodeWord e.1 = .instr e.2 ∧ encode e.2 = some (.word e.1) := by decide +kernel

theorem test_decode_vred : ∀ e ∈ ([
    (0b00000101011011001001101001000111#32, .vredsum ⟨2, 5, 22, 9, 20⟩),
    (0b00001101011011001001101001000111#32, .vredmax ⟨2, 5, 22, 9, 20⟩),
    (0b00010101011011001001101001000111#32, .vredmin ⟨2, 5, 22, 9, 20⟩),
    (0b00011101011011001001101001000111#32, .vfredo ⟨2, 5, 22, 9, 20⟩),
    (0b00100101011011001001101001000111#32, .vfredf ⟨2, 5, 22, 9, 20⟩),
    (0b00101101011011001001101001000111#32, .vfredmax ⟨2, 5, 22, 9, 20⟩),
    (0b00110101011011001001101001000111#32, .vfredmin ⟨2, 5, 22, 9, 20⟩)] : List (BitVec 32 × Instr)),
    decodeWord e.1 = .instr e.2 ∧ encode e.2 = some (.word e.1) := by decide +kernel

theorem test_decode_mat : ∀ e ∈ ([
    (0b00000101010000001001101001001001#32, .tset ⟨2, 5, 0, 9, 20⟩),
    (0b00001000001011001001101001001001#32, .tldb ⟨0, 0, 22, 9, 20⟩),
    (0b00010100001011001001101001001001#32, .tmma ⟨2, 0, 22, 9, 20⟩),
    (0b00011100001011001001101001001001#32, .tmmaf ⟨2, 0, 22, 9, 20⟩),
    (0b00100100001011001001101001001001#32, .tmmap ⟨2, 0, 22, 9, 20⟩),
    (0b00101100001011001001101001001001#32, .tmmapf ⟨2, 0, 22, 9, 20⟩),
    (0b00110101010000001001101001001001#32, .trda ⟨2, 5, 0, 9, 20⟩),
    (0b00111000000000001001101001001001#32, .tzacc ⟨0, 0, 0, 9, 20⟩),
    (0b01000101010000001001101001001001#32, .tadda ⟨2, 5, 0, 9, 20⟩),
    (0b01001100001011001001101001001001#32, .mmsx ⟨2, 0, 22, 9, 20⟩)] : List (BitVec 32 × Instr)),
    decodeWord e.1 = .instr e.2 ∧ encode e.2 = some (.word e.1) := by decide +kernel

theorem test_decode_gfx : ∀ e ∈ ([
    (0b00000101011011001001101001001011#32, .edge ⟨2, 5, 22, 9, 20⟩),
    (0b00001001011011001001101001001011#32, .boxt ⟨0, 5, 22, 9, 20⟩),
    (0b00010001011011001001101001001011#32, .trit ⟨0, 5, 22, 9, 20⟩),
    (0b00011001011011001001101001001011#32, .texf ⟨0, 5, 22, 9, 20⟩),
    (0b00100001011011001001101001001011#32, .texq ⟨0, 5, 22, 9, 20⟩),
    (0b00101001011011001001101001001011#32, .pxcmt ⟨0, 5, 22, 9, 20⟩),
    (0b00110000001011000000101001001011#32, .tclr ⟨0, 0, 22, 0, 20⟩),
    (0b00111000001011001001101001001011#32, .trslv ⟨0, 0, 22, 9, 20⟩)] : List (BitVec 32 × Instr)),
    decodeWord e.1 = .instr e.2 ∧ encode e.2 = some (.word e.1) := by decide +kernel

theorem test_decode_repf : ∀ e ∈ ([
    (0b00000000101011110100110101001101#32, .repf ⟨0, 5, 3, 6, 9, 10⟩)] : List (BitVec 32 × Instr)),
    decodeWord e.1 = .instr e.2 ∧ encode e.2 = some (.word e.1) := by decide +kernel

theorem test_decode_bpred : ∀ e ∈ ([
    (0b10110100101110000110101010001001#32, .bp ⟨370115, 21⟩),
    (0b10110100101110000111101010001001#32, .bpn ⟨370115, 21⟩)] : List (BitVec 32 × Instr)),
    decodeWord e.1 = .instr e.2 ∧ encode e.2 = some (.word e.1) := by decide +kernel

theorem test_decode_ind : ∀ e ∈ ([
    (0b00000000000000001010000000001011#32, .jr ⟨0, 10, 0⟩),
    (0b00000000010000001010100110001011#32, .callr ⟨0, 10, 19⟩)] : List (BitVec 32 × Instr)),
    decodeWord e.1 = .instr e.2 ∧ encode e.2 = some (.word e.1) := by decide +kernel

theorem test_decode_smloop : ∀ e ∈ ([
    (0b10110100101110010101010100001101#32, .smloop ⟨23132, 21, 10⟩)] : List (BitVec 32 × Instr)),
    decodeWord e.1 = .instr e.2 ∧ encode e.2 = some (.word e.1) := by decide +kernel

theorem test_decode_liw : ∀ e ∈ ([
    (0b10100101110000111010100110001111#32, .liw ⟨678970, 19⟩)] : List (BitVec 32 × Instr)),
    decodeWord e.1 = .instr e.2 ∧ encode e.2 = some (.word e.1) := by decide +kernel

theorem test_decode_pcadd : ∀ e ∈ ([
    (0b10100101110000111010100110010001#32, .pcadd ⟨678970, 19⟩)] : List (BitVec 32 × Instr)),
    decodeWord e.1 = .instr e.2 ∧ encode e.2 = some (.word e.1) := by decide +kernel

theorem test_decode_int : ∀ e ∈ ([
    (0b00000000001010101010100110010011#32, .add ⟨21, 10, 19⟩),
    (0b00000000011010101010100110010011#32, .sub ⟨21, 10, 19⟩),
    (0b00000000101010101010100110010011#32, .mul ⟨21, 10, 19⟩),
    (0b00000000111010101010100110010011#32, .mulh ⟨21, 10, 19⟩),
    (0b00000001001010101010100110010011#32, .mulhu ⟨21, 10, 19⟩),
    (0b00000001011010101010100110010011#32, .div ⟨21, 10, 19⟩),
    (0b00000001101010101010100110010011#32, .divu ⟨21, 10, 19⟩),
    (0b00000001111010101010100110010011#32, .rem ⟨21, 10, 19⟩),
    (0b00000010001010101010100110010011#32, .remu ⟨21, 10, 19⟩),
    (0b00000010011010101010100110010011#32, .and ⟨21, 10, 19⟩),
    (0b00000010101010101010100110010011#32, .or ⟨21, 10, 19⟩),
    (0b00000010111010101010100110010011#32, .xor ⟨21, 10, 19⟩),
    (0b00000011001010101010100110010011#32, .sll ⟨21, 10, 19⟩),
    (0b00000011011010101010100110010011#32, .srl ⟨21, 10, 19⟩),
    (0b00000011101010101010100110010011#32, .sra ⟨21, 10, 19⟩),
    (0b00000011111010101010100110010011#32, .min ⟨21, 10, 19⟩),
    (0b00000100001010101010100110010011#32, .max ⟨21, 10, 19⟩),
    (0b00000100011010101010100110010011#32, .minu ⟨21, 10, 19⟩),
    (0b00000100101010101010100110010011#32, .maxu ⟨21, 10, 19⟩),
    (0b00000100110000001010100110010011#32, .clz ⟨0, 10, 19⟩),
    (0b00000101000000001010100110010011#32, .ctz ⟨0, 10, 19⟩),
    (0b00000101010000001010100110010011#32, .popc ⟨0, 10, 19⟩),
    (0b00000101101010101010100110010011#32, .sel ⟨21, 10, 19⟩)] : List (BitVec 32 × Instr)),
    decodeWord e.1 = .instr e.2 ∧ encode e.2 = some (.word e.1) := by decide +kernel

theorem test_decode_compact : ∀ e ∈ ([
    (0b0000010011000000#16, .cmov ⟨0, 19⟩),
    (0b1010110011000010#16, .cli ⟨21, 19⟩),
    (0b1010110011000100#16, .caddi ⟨21, 19⟩),
    (0b0000010011000110#16, .cadd ⟨0, 19⟩),
    (0b0000010011001000#16, .csub ⟨0, 19⟩),
    (0b0000010011001010#16, .cand ⟨0, 19⟩),
    (0b1010110011001100#16, .cslli ⟨21, 19⟩),
    (0b1010110011001110#16, .csrli ⟨21, 19⟩),
    (0b1010110011010000#16, .cld ⟨21, 19⟩),
    (0b1010110011010010#16, .cst ⟨21, 19⟩),
    (0b1010110011010100#16, .cbp ⟨21, 19⟩),
    (0b1010110011010110#16, .cbpn ⟨21, 19⟩),
    (0b0000010011011000#16, .cvadd ⟨0, 19⟩),
    (0b0000010011011010#16, .cvmul ⟨0, 19⟩),
    (0b0000010011011100#16, .cvfadd ⟨0, 19⟩),
    (0b1010110011011110#16, .cvfma ⟨21, 19⟩)] : List (BitVec 16 × Instr)),
    decodeHalf e.1 = .instr e.2 ∧ encode e.2 = some (.half e.1) := by decide +kernel

/-- R84 to R86: every entry admits its fields at zero, or at the least value that its rule names. -/
theorem test_wellFormed_admits : ∀ i ∈ ([
    .trap ⟨0, 0, 0⟩, .eret ⟨0, 0, 0⟩, .sysrd ⟨0, 0, 0⟩, .syswr ⟨0, 0, 0⟩, .sysset ⟨0, 0, 0⟩, .sysclr ⟨0, 0, 0⟩,
    .vsave ⟨0, 0, 0⟩, .vrstr ⟨0, 0, 0⟩, .asave ⟨0, 0, 0⟩, .arstr ⟨0, 0, 0⟩, .frsave ⟨0, 0, 0⟩, .frload ⟨0, 0, 0⟩,
    .halt ⟨0, 0, 0⟩, .brk ⟨0, 0, 0⟩, .fence ⟨0, 0, 0, 3⟩, .fsmp ⟨1, 0, 0, 0⟩, .chunk ⟨0, 0, 0, 0⟩,
    .dcwb ⟨2, 0, 0, 0⟩, .dcinv ⟨2, 0, 0, 0⟩, .icinv ⟨1, 0, 0, 0⟩, .ipf ⟨0, 0, 0, 0⟩, .dpf ⟨0, 0, 0, 0⟩, .br ⟨0⟩,
    .call ⟨0⟩, .bp ⟨0, 0⟩, .bpn ⟨0, 0⟩, .jr ⟨0, 0, 0⟩, .callr ⟨0, 0, 0⟩, .smloop ⟨0, 0, 0⟩, .liw ⟨0, 0⟩,
    .pcadd ⟨0, 0⟩, .add ⟨0, 0, 0⟩, .sub ⟨0, 0, 0⟩, .mul ⟨0, 0, 0⟩, .mulh ⟨0, 0, 0⟩, .mulhu ⟨0, 0, 0⟩, .div ⟨0, 0, 0⟩,
    .divu ⟨0, 0, 0⟩, .rem ⟨0, 0, 0⟩, .remu ⟨0, 0, 0⟩, .and ⟨0, 0, 0⟩, .or ⟨0, 0, 0⟩, .xor ⟨0, 0, 0⟩, .sll ⟨0, 0, 0⟩,
    .srl ⟨0, 0, 0⟩, .sra ⟨0, 0, 0⟩, .min ⟨0, 0, 0⟩, .max ⟨0, 0, 0⟩, .minu ⟨0, 0, 0⟩, .maxu ⟨0, 0, 0⟩, .clz ⟨0, 0, 0⟩,
    .ctz ⟨0, 0, 0⟩, .popc ⟨0, 0, 0⟩, .sel ⟨0, 0, 0⟩, .addi ⟨0, 0, 0⟩, .andi ⟨0, 0, 0⟩, .ori ⟨0, 0, 0⟩,
    .xori ⟨0, 0, 0⟩, .slli ⟨0, 0, 0⟩, .srli ⟨0, 0, 0⟩, .srai ⟨0, 0, 0⟩, .cmpeq ⟨0, 0, 0⟩, .cmpne ⟨0, 0, 0⟩,
    .cmplt ⟨0, 0, 0⟩, .cmple ⟨0, 0, 0⟩, .cmpltu ⟨0, 0, 0⟩, .cmpleu ⟨0, 0, 0⟩, .pand ⟨0, 0, 0⟩, .por ⟨0, 0, 0⟩,
    .pxor ⟨0, 0, 0⟩, .pnot ⟨0, 0, 0⟩, .prd ⟨0, 0, 0⟩, .pwr ⟨0, 0, 0⟩, .cmpeqi ⟨0, 0, 0⟩, .cmplti ⟨0, 0, 0⟩,
    .ld8 ⟨0, 0, 0⟩, .ld8u ⟨0, 0, 0⟩, .ld16 ⟨0, 0, 0⟩, .ld16u ⟨0, 0, 0⟩, .ld32 ⟨0, 0, 0⟩, .ld32u ⟨0, 0, 0⟩,
    .ld64 ⟨0, 0, 0⟩, .st8 ⟨0, 0, 0⟩, .st16 ⟨0, 0, 0⟩, .st32 ⟨0, 0, 0⟩, .st64 ⟨0, 0, 0⟩, .fadd ⟨0, 0, 0⟩,
    .fsub ⟨0, 0, 0⟩, .fmul ⟨0, 0, 0⟩, .fma ⟨0, 0, 0⟩, .fdiv ⟨0, 0, 0⟩, .fsqrt ⟨0, 0, 0⟩, .fcmpeq ⟨0, 0, 0⟩,
    .fcmplt ⟨0, 0, 0⟩, .fcmple ⟨0, 0, 0⟩, .fcmpun ⟨0, 0, 0⟩, .fcvtif ⟨0, 0, 0⟩, .fcvtfi ⟨0, 0, 0⟩,
    .amoadd ⟨1, 0, 0, 0⟩, .amoand ⟨1, 0, 0, 0⟩, .amoor ⟨1, 0, 0, 0⟩, .amoxor ⟨1, 0, 0, 0⟩, .amomin ⟨1, 0, 0, 0⟩,
    .amomax ⟨1, 0, 0, 0⟩, .amominu ⟨1, 0, 0, 0⟩, .amomaxu ⟨1, 0, 0, 0⟩, .amoswp ⟨1, 0, 0, 0⟩, .amocas ⟨1, 0, 0, 0⟩,
    .redadd ⟨1, 0, 0, 0⟩, .lda ⟨1, 0, 0, 0⟩, .stl ⟨1, 0, 0, 0⟩, .qbind ⟨0, 0, 0, 24⟩, .qfree ⟨0, 0, 24, 0⟩,
    .qpushn ⟨0, 0, 24, 0⟩, .qpopn ⟨0, 0, 24, 0⟩, .qstat ⟨0, 0, 24, 0⟩, .tqenq ⟨0, 0, 0, 0⟩, .jcenq ⟨0, 0, 0, 0⟩,
    .spawn ⟨0, 0, 0, 0⟩, .migr ⟨0, 0, 0, 0⟩, .yield ⟨0, 0, 0, 0⟩, .exit ⟨0, 0, 0, 0⟩, .sleep ⟨0, 0, 0, 0⟩,
    .scarm ⟨0, 0, 0, 0⟩, .sctake ⟨0, 0, 0, 0⟩, .sctakep ⟨0, 0, 0, 0⟩, .scgive ⟨0, 0, 0, 0⟩, .scread ⟨0, 0, 0, 0⟩,
    .scset ⟨0, 0, 0, 0⟩, .scdsrm ⟨0, 0, 0, 0⟩, .barinit ⟨0, 0, 0, 0⟩, .bararr ⟨1, 0, 0, 0⟩, .barexp ⟨0, 0, 0, 0⟩,
    .barwt ⟨1, 0, 0, 0⟩, .bartst ⟨1, 0, 0, 0⟩, .setvl ⟨0, 0, 0, 0⟩, .setvli ⟨0, 0, 0, 0⟩, .vspan ⟨0, 0, 0, 0⟩,
    .vld ⟨0, 0, 0, 0⟩, .vlds ⟨0, 0, 0, 0⟩, .vldg ⟨0, 0, 0, 0⟩, .vldff ⟨0, 0, 0, 0⟩, .vldseg ⟨0, 2, 0, 0⟩,
    .vldb ⟨0, 0, 0, 0⟩, .vldc ⟨0, 0, 0, 0⟩, .vst ⟨0, 0, 0, 0⟩, .vsts ⟨0, 0, 0, 0⟩, .vstsc ⟨0, 0, 0, 0⟩,
    .vstseg ⟨0, 2, 0, 0⟩, .vstb ⟨0, 0, 0, 0⟩, .vamoadd ⟨1, 0, 0, 0, 0⟩, .vamomin ⟨1, 0, 0, 0, 0⟩,
    .vamomax ⟨1, 0, 0, 0, 0⟩, .vamoand ⟨1, 0, 0, 0, 0⟩, .vamoor ⟨1, 0, 0, 0, 0⟩, .vamoxor ⟨1, 0, 0, 0, 0⟩,
    .vamoswp ⟨1, 0, 0, 0, 0⟩, .vamocas ⟨1, 0, 0, 0, 0⟩, .vamoaddNr ⟨1, 0, 0, 0, 0⟩, .vamominNr ⟨1, 0, 0, 0, 0⟩,
    .vamomaxNr ⟨1, 0, 0, 0, 0⟩, .vamoandNr ⟨1, 0, 0, 0, 0⟩, .vamoorNr ⟨1, 0, 0, 0, 0⟩, .vamoxorNr ⟨1, 0, 0, 0, 0⟩,
    .vamoswpNr ⟨1, 0, 0, 0, 0⟩, .vadd ⟨0, 0, 0, 0, 0⟩, .vsub ⟨0, 0, 0, 0, 0⟩, .vmul ⟨0, 0, 0, 0, 0⟩,
    .vmulh ⟨0, 0, 0, 0, 0⟩, .vmulhu ⟨0, 0, 0, 0, 0⟩, .vmacc ⟨0, 0, 0, 0, 0⟩, .vand ⟨0, 0, 0, 0, 0⟩,
    .vor ⟨0, 0, 0, 0, 0⟩, .vxor ⟨0, 0, 0, 0, 0⟩, .vsll ⟨0, 0, 0, 0, 0⟩, .vsrl ⟨0, 0, 0, 0, 0⟩, .vsra ⟨0, 0, 0, 0, 0⟩,
    .vmin ⟨0, 0, 0, 0, 0⟩, .vmax ⟨0, 0, 0, 0, 0⟩, .vminu ⟨0, 0, 0, 0, 0⟩, .vmaxu ⟨0, 0, 0, 0, 0⟩,
    .vsadd ⟨0, 0, 0, 0, 0⟩, .vssub ⟨0, 0, 0, 0, 0⟩, .vnarrow ⟨0, 0, 0, 0, 0⟩, .vwiden ⟨0, 0, 0, 0, 0⟩,
    .vfadd ⟨0, 0, 0, 0, 0⟩, .vfsub ⟨0, 0, 0, 0, 0⟩, .vfmul ⟨0, 0, 0, 0, 0⟩, .vfma ⟨0, 0, 0, 0, 0⟩,
    .vfms ⟨0, 0, 0, 0, 0⟩, .vfnma ⟨0, 0, 0, 0, 0⟩, .vfmin ⟨0, 0, 0, 0, 0⟩, .vfmax ⟨0, 0, 0, 0, 0⟩,
    .vfabs ⟨0, 0, 0, 0, 0⟩, .vfneg ⟨0, 0, 0, 0, 0⟩, .vfdiv ⟨0, 0, 0, 0, 0⟩, .vfsqrt ⟨0, 0, 0, 0, 0⟩,
    .vfrcp ⟨0, 0, 0, 0, 0⟩, .vfrsq ⟨0, 0, 0, 0, 0⟩, .vfexp2 ⟨0, 0, 0, 0, 0⟩, .vflog2 ⟨0, 0, 0, 0, 0⟩,
    .vfsin ⟨0, 0, 0, 0, 0⟩, .vfcos ⟨0, 0, 0, 0, 0⟩, .vfcvt ⟨0, 0, 0, 0, 0⟩, .vfcvti ⟨0, 0, 0, 0, 0⟩,
    .vfcvtf ⟨0, 0, 0, 0, 0⟩, .vcmpeq ⟨0, 0, 0, 0, 1⟩, .vcmpne ⟨0, 0, 0, 0, 1⟩, .vcmplt ⟨0, 0, 0, 0, 1⟩,
    .vcmple ⟨0, 0, 0, 0, 1⟩, .vcmpltu ⟨0, 0, 0, 0, 1⟩, .vcmpleu ⟨0, 0, 0, 0, 1⟩, .vfcmpeq ⟨0, 0, 0, 0, 1⟩,
    .vfcmplt ⟨0, 0, 0, 0, 1⟩, .vfcmple ⟨0, 0, 0, 0, 1⟩, .vfcmpun ⟨0, 0, 0, 0, 1⟩, .mand ⟨0, 0, 0, 0, 1⟩,
    .mor ⟨0, 0, 0, 0, 1⟩, .mxor ⟨0, 0, 0, 0, 1⟩, .mnot ⟨0, 0, 0, 0, 1⟩, .mffs ⟨0, 0, 0, 0, 0⟩, .mpop ⟨0, 0, 0, 0, 0⟩,
    .mset ⟨0, 0, 0, 0, 1⟩, .vidx ⟨0, 0, 0, 0, 0⟩, .vmsel ⟨0, 1, 0, 0, 0⟩, .vperm ⟨0, 0, 0, 0, 0⟩,
    .vslup ⟨0, 0, 0, 0, 0⟩, .vsldn ⟨0, 0, 0, 0, 0⟩, .vcmpr ⟨0, 0, 0, 0, 0⟩, .vexpd ⟨0, 0, 0, 0, 0⟩,
    .vbcst ⟨0, 0, 0, 0, 0⟩, .vmvxs ⟨0, 0, 0, 0, 0⟩, .vmvsx ⟨0, 0, 0, 0, 0⟩, .vmov ⟨0, 0, 0, 0, 0⟩,
    .vxchg ⟨0, 0, 0, 0, 0⟩, .vkrank ⟨0, 0, 0, 0, 0⟩, .vhist ⟨0, 0, 0, 0, 0⟩, .vredsum ⟨0, 0, 0, 0, 0⟩,
    .vredmax ⟨0, 0, 0, 0, 0⟩, .vredmin ⟨0, 0, 0, 0, 0⟩, .vfredo ⟨0, 0, 0, 0, 0⟩, .vfredf ⟨0, 0, 0, 0, 0⟩,
    .vfredmax ⟨0, 0, 0, 0, 0⟩, .vfredmin ⟨0, 0, 0, 0, 0⟩, .tset ⟨0, 0, 0, 0, 0⟩, .tldb ⟨0, 0, 0, 0, 0⟩,
    .tmma ⟨0, 0, 0, 0, 0⟩, .tmmaf ⟨0, 0, 0, 0, 0⟩, .tmmap ⟨0, 0, 0, 0, 0⟩, .tmmapf ⟨0, 0, 0, 0, 0⟩,
    .trda ⟨0, 0, 0, 0, 0⟩, .tzacc ⟨0, 0, 0, 0, 0⟩, .tadda ⟨0, 0, 0, 0, 0⟩, .mmsx ⟨0, 0, 0, 0, 0⟩,
    .edge ⟨0, 0, 0, 0, 1⟩, .boxt ⟨0, 0, 0, 0, 0⟩, .trit ⟨0, 0, 0, 0, 0⟩, .texf ⟨0, 0, 0, 0, 0⟩,
    .texq ⟨0, 0, 0, 0, 0⟩, .pxcmt ⟨0, 0, 0, 0, 0⟩, .tclr ⟨0, 0, 0, 0, 0⟩, .trslv ⟨0, 0, 0, 0, 0⟩,
    .repf ⟨0, 0, 0, 0, 0, 0⟩, .cmov ⟨0, 1⟩, .cli ⟨0, 0⟩, .caddi ⟨0, 0⟩, .cadd ⟨0, 0⟩, .csub ⟨0, 0⟩, .cand ⟨0, 0⟩,
    .cslli ⟨0, 0⟩, .csrli ⟨0, 0⟩, .cld ⟨0, 0⟩, .cst ⟨0, 0⟩, .cbp ⟨0, 0⟩, .cbpn ⟨0, 0⟩, .cvadd ⟨0, 0⟩, .cvmul ⟨0, 0⟩,
    .cvfadd ⟨0, 0⟩, .cvfma ⟨0, 0⟩] : List Instr), fieldReason i = none ∧ lateOk i = true := by decide +kernel

/-- R84, R86, R232, R252: one field that the entry does not use, from the zero bits of its row in the opcode table, or a scope
outside its range, refuses it with reason 1. -/
theorem test_illFormed_unused : ∀ i ∈ ([
    .trap ⟨0, 1, 0⟩, .trap ⟨0, 0, 1⟩, .eret ⟨1, 0, 0⟩, .eret ⟨0, 1, 0⟩, .eret ⟨0, 0, 1⟩, .sysrd ⟨0, 1, 0⟩,
    .syswr ⟨0, 0, 1⟩, .vsave ⟨1, 0, 0⟩, .vsave ⟨0, 0, 1⟩, .vrstr ⟨1, 0, 0⟩, .vrstr ⟨0, 0, 1⟩, .asave ⟨1, 0, 0⟩,
    .asave ⟨0, 0, 1⟩, .arstr ⟨1, 0, 0⟩, .arstr ⟨0, 0, 1⟩, .frsave ⟨1, 0, 0⟩, .frsave ⟨0, 0, 1⟩, .frload ⟨1, 0, 0⟩,
    .frload ⟨0, 0, 1⟩, .halt ⟨1, 0, 0⟩, .halt ⟨0, 1, 0⟩, .halt ⟨0, 0, 1⟩, .brk ⟨0, 1, 0⟩, .brk ⟨0, 0, 1⟩,
    .fence ⟨0, 1, 0, 3⟩, .fence ⟨0, 0, 1, 3⟩, .fsmp ⟨1, 1, 0, 0⟩, .fsmp ⟨1, 0, 1, 0⟩, .fsmp ⟨1, 0, 0, 1⟩,
    .chunk ⟨1, 0, 0, 0⟩, .chunk ⟨0, 1, 0, 0⟩, .chunk ⟨0, 0, 1, 0⟩, .chunk ⟨0, 0, 0, 1⟩, .dcwb ⟨2, 0, 0, 1⟩,
    .dcinv ⟨2, 0, 0, 1⟩, .icinv ⟨1, 0, 0, 1⟩, .ipf ⟨1, 0, 0, 0⟩, .ipf ⟨0, 1, 0, 0⟩, .ipf ⟨0, 0, 0, 1⟩,
    .dpf ⟨1, 0, 0, 0⟩, .dpf ⟨0, 1, 0, 0⟩, .dpf ⟨0, 0, 0, 1⟩, .jr ⟨1, 0, 0⟩, .jr ⟨0, 0, 1⟩, .callr ⟨1, 0, 0⟩,
    .clz ⟨1, 0, 0⟩, .ctz ⟨1, 0, 0⟩, .popc ⟨1, 0, 0⟩, .pnot ⟨1, 0, 0⟩, .prd ⟨1, 0, 0⟩, .prd ⟨0, 1, 0⟩, .pwr ⟨1, 0, 0⟩,
    .pwr ⟨0, 0, 1⟩, .fsqrt ⟨1, 0, 0⟩, .redadd ⟨1, 0, 0, 1⟩, .lda ⟨1, 1, 0, 0⟩, .stl ⟨1, 0, 0, 1⟩,
    .qbind ⟨2, 0, 0, 24⟩, .qfree ⟨2, 0, 24, 0⟩, .qfree ⟨0, 1, 24, 0⟩, .qfree ⟨0, 0, 24, 1⟩, .qpushn ⟨1, 0, 24, 0⟩,
    .qpopn ⟨1, 0, 24, 0⟩, .qstat ⟨2, 0, 24, 0⟩, .qstat ⟨0, 1, 24, 0⟩, .tqenq ⟨1, 0, 0, 0⟩, .jcenq ⟨1, 0, 0, 0⟩,
    .spawn ⟨1, 0, 0, 0⟩, .migr ⟨1, 0, 0, 0⟩, .migr ⟨0, 1, 0, 0⟩, .migr ⟨0, 0, 0, 1⟩, .yield ⟨1, 0, 0, 0⟩,
    .yield ⟨0, 1, 0, 0⟩, .yield ⟨0, 0, 1, 0⟩, .yield ⟨0, 0, 0, 1⟩, .exit ⟨1, 0, 0, 0⟩, .exit ⟨0, 1, 0, 0⟩,
    .exit ⟨0, 0, 1, 0⟩, .exit ⟨0, 0, 0, 1⟩, .sleep ⟨1, 0, 0, 0⟩, .sleep ⟨0, 1, 0, 0⟩, .scarm ⟨1, 0, 0, 0⟩,
    .sctake ⟨1, 0, 0, 0⟩, .sctakep ⟨1, 0, 0, 0⟩, .scgive ⟨1, 0, 0, 0⟩, .scgive ⟨0, 0, 0, 1⟩, .scread ⟨1, 0, 0, 0⟩,
    .scread ⟨0, 1, 0, 0⟩, .scset ⟨1, 0, 0, 0⟩, .scdsrm ⟨1, 0, 0, 0⟩, .scdsrm ⟨0, 1, 0, 0⟩, .barinit ⟨1, 0, 0, 0⟩,
    .barinit ⟨0, 0, 0, 1⟩, .bararr ⟨1, 0, 0, 1⟩, .barexp ⟨1, 0, 0, 0⟩, .barexp ⟨0, 0, 0, 1⟩, .bartst ⟨1, 1, 0, 0⟩,
    .setvl ⟨1, 0, 0, 0⟩, .setvli ⟨1024, 0, 0, 0⟩, .setvli ⟨0, 1, 0, 0⟩, .vspan ⟨1, 0, 0, 0⟩, .vld ⟨0, 1, 0, 0⟩,
    .vldff ⟨0, 1, 0, 0⟩, .vldc ⟨0, 1, 0, 0⟩, .vst ⟨0, 1, 0, 0⟩, .vadd ⟨1, 0, 0, 0, 0⟩, .vsub ⟨1, 0, 0, 0, 0⟩,
    .vmul ⟨1, 0, 0, 0, 0⟩, .vmulh ⟨1, 0, 0, 0, 0⟩, .vmulhu ⟨1, 0, 0, 0, 0⟩, .vmacc ⟨1, 0, 0, 0, 0⟩,
    .vand ⟨1, 0, 0, 0, 0⟩, .vor ⟨1, 0, 0, 0, 0⟩, .vxor ⟨1, 0, 0, 0, 0⟩, .vsll ⟨1, 0, 0, 0, 0⟩, .vsrl ⟨1, 0, 0, 0, 0⟩,
    .vsra ⟨1, 0, 0, 0, 0⟩, .vmin ⟨1, 0, 0, 0, 0⟩, .vmax ⟨1, 0, 0, 0, 0⟩, .vminu ⟨1, 0, 0, 0, 0⟩,
    .vmaxu ⟨1, 0, 0, 0, 0⟩, .vnarrow ⟨1, 0, 0, 0, 0⟩, .vwiden ⟨1, 0, 0, 0, 0⟩, .vfabs ⟨0, 0, 1, 0, 0⟩,
    .vfneg ⟨0, 0, 1, 0, 0⟩, .vfsqrt ⟨0, 0, 1, 0, 0⟩, .vfrcp ⟨0, 0, 1, 0, 0⟩, .vfrsq ⟨0, 0, 1, 0, 0⟩,
    .vfexp2 ⟨0, 0, 1, 0, 0⟩, .vflog2 ⟨0, 0, 1, 0, 0⟩, .vfsin ⟨0, 0, 1, 0, 0⟩, .vfcos ⟨0, 0, 1, 0, 0⟩,
    .vfcvti ⟨0, 0, 1, 0, 0⟩, .vfcvtf ⟨0, 0, 1, 0, 0⟩, .vcmpeq ⟨1, 0, 0, 0, 1⟩, .vcmpne ⟨1, 0, 0, 0, 1⟩,
    .vcmplt ⟨1, 0, 0, 0, 1⟩, .vcmple ⟨1, 0, 0, 0, 1⟩, .vcmpltu ⟨1, 0, 0, 0, 1⟩, .vcmpleu ⟨1, 0, 0, 0, 1⟩,
    .mand ⟨1, 0, 0, 0, 1⟩, .mand ⟨0, 1, 0, 0, 1⟩, .mor ⟨1, 0, 0, 0, 1⟩, .mor ⟨0, 1, 0, 0, 1⟩, .mxor ⟨1, 0, 0, 0, 1⟩,
    .mxor ⟨0, 1, 0, 0, 1⟩, .mnot ⟨1, 0, 0, 0, 1⟩, .mnot ⟨0, 1, 0, 0, 1⟩, .mnot ⟨0, 0, 1, 0, 1⟩,
    .mffs ⟨1, 0, 0, 0, 0⟩, .mffs ⟨0, 0, 1, 0, 0⟩, .mpop ⟨1, 0, 0, 0, 0⟩, .mpop ⟨0, 0, 1, 0, 0⟩,
    .mset ⟨1, 0, 0, 0, 1⟩, .mset ⟨0, 1, 0, 0, 1⟩, .mset ⟨0, 0, 1, 0, 1⟩, .vidx ⟨1, 0, 0, 0, 0⟩,
    .vidx ⟨0, 0, 1, 0, 0⟩, .vidx ⟨0, 0, 0, 1, 0⟩, .vmsel ⟨1, 1, 0, 0, 0⟩, .vperm ⟨1, 0, 0, 0, 0⟩,
    .vslup ⟨1, 0, 0, 0, 0⟩, .vsldn ⟨1, 0, 0, 0, 0⟩, .vcmpr ⟨1, 0, 0, 0, 0⟩, .vcmpr ⟨0, 0, 1, 0, 0⟩,
    .vexpd ⟨1, 0, 0, 0, 0⟩, .vexpd ⟨0, 0, 1, 0, 0⟩, .vbcst ⟨1, 0, 0, 0, 0⟩, .vbcst ⟨0, 0, 1, 0, 0⟩,
    .vmvxs ⟨1, 0, 0, 0, 0⟩, .vmvxs ⟨0, 1, 0, 0, 0⟩, .vmvsx ⟨1, 0, 0, 0, 0⟩, .vmvsx ⟨0, 1, 0, 0, 0⟩,
    .vmov ⟨1, 0, 0, 0, 0⟩, .vmov ⟨0, 0, 1, 0, 0⟩, .vxchg ⟨1, 0, 0, 0, 0⟩, .vkrank ⟨1, 0, 0, 0, 0⟩,
    .vkrank ⟨0, 0, 1, 0, 0⟩, .vhist ⟨1, 0, 0, 0, 0⟩, .vhist ⟨0, 0, 1, 0, 0⟩, .tset ⟨0, 0, 2, 0, 0⟩,
    .tldb ⟨1, 0, 0, 0, 0⟩, .tldb ⟨0, 1, 0, 0, 0⟩, .tmma ⟨0, 1, 0, 0, 0⟩, .tmmaf ⟨0, 1, 0, 0, 0⟩,
    .tmmap ⟨0, 1, 0, 0, 0⟩, .tmmapf ⟨0, 1, 0, 0, 0⟩, .trda ⟨0, 0, 1, 0, 0⟩, .tzacc ⟨1, 0, 0, 0, 0⟩,
    .tzacc ⟨0, 1, 0, 0, 0⟩, .tzacc ⟨0, 0, 1, 0, 0⟩, .tadda ⟨0, 0, 1, 0, 0⟩, .mmsx ⟨0, 1, 0, 0, 0⟩,
    .boxt ⟨1, 0, 0, 0, 0⟩, .trit ⟨1, 0, 0, 0, 0⟩, .texf ⟨1, 0, 0, 0, 0⟩, .texq ⟨1, 0, 0, 0, 0⟩,
    .pxcmt ⟨1, 0, 0, 0, 0⟩, .tclr ⟨1, 0, 0, 0, 0⟩, .tclr ⟨0, 1, 0, 0, 0⟩, .tclr ⟨0, 0, 0, 1, 0⟩,
    .trslv ⟨1, 0, 0, 0, 0⟩, .trslv ⟨0, 1, 0, 0, 0⟩, .repf ⟨1, 0, 0, 0, 0, 0⟩, .cmov ⟨1, 1⟩, .cadd ⟨1, 0⟩,
    .csub ⟨1, 0⟩, .cand ⟨1, 0⟩, .cvadd ⟨1, 0⟩, .cvmul ⟨1, 0⟩, .cvfadd ⟨1, 0⟩, .fence ⟨6, 0, 0, 3⟩,
    .fence ⟨7, 0, 0, 3⟩, .fsmp ⟨0, 0, 0, 0⟩, .fsmp ⟨3, 0, 0, 0⟩, .dcwb ⟨1, 0, 0, 0⟩, .dcwb ⟨6, 0, 0, 0⟩,
    .dcinv ⟨1, 0, 0, 0⟩, .dcinv ⟨6, 0, 0, 0⟩, .icinv ⟨0, 0, 0, 0⟩, .icinv ⟨5, 0, 0, 0⟩, .amoadd ⟨0, 0, 0, 0⟩,
    .amoadd ⟨6, 0, 0, 0⟩, .amoand ⟨0, 0, 0, 0⟩, .amoand ⟨6, 0, 0, 0⟩, .amoor ⟨0, 0, 0, 0⟩, .amoor ⟨6, 0, 0, 0⟩,
    .amoxor ⟨0, 0, 0, 0⟩, .amoxor ⟨6, 0, 0, 0⟩, .amomin ⟨0, 0, 0, 0⟩, .amomin ⟨6, 0, 0, 0⟩, .amomax ⟨0, 0, 0, 0⟩,
    .amomax ⟨6, 0, 0, 0⟩, .amominu ⟨0, 0, 0, 0⟩, .amominu ⟨6, 0, 0, 0⟩, .amomaxu ⟨0, 0, 0, 0⟩, .amomaxu ⟨6, 0, 0, 0⟩,
    .amoswp ⟨0, 0, 0, 0⟩, .amoswp ⟨6, 0, 0, 0⟩, .amocas ⟨0, 0, 0, 0⟩, .amocas ⟨6, 0, 0, 0⟩, .redadd ⟨0, 0, 0, 0⟩,
    .redadd ⟨6, 0, 0, 0⟩, .lda ⟨0, 0, 0, 0⟩, .lda ⟨6, 0, 0, 0⟩, .stl ⟨0, 0, 0, 0⟩, .stl ⟨6, 0, 0, 0⟩,
    .bararr ⟨0, 0, 0, 0⟩, .bararr ⟨6, 0, 0, 0⟩, .barwt ⟨0, 0, 0, 0⟩, .barwt ⟨6, 0, 0, 0⟩, .bartst ⟨0, 0, 0, 0⟩,
    .bartst ⟨6, 0, 0, 0⟩, .vamoadd ⟨0, 0, 0, 0, 0⟩, .vamoadd ⟨6, 0, 0, 0, 0⟩, .vamomin ⟨0, 0, 0, 0, 0⟩,
    .vamomin ⟨6, 0, 0, 0, 0⟩, .vamomax ⟨0, 0, 0, 0, 0⟩, .vamomax ⟨6, 0, 0, 0, 0⟩, .vamoand ⟨0, 0, 0, 0, 0⟩,
    .vamoand ⟨6, 0, 0, 0, 0⟩, .vamoor ⟨0, 0, 0, 0, 0⟩, .vamoor ⟨6, 0, 0, 0, 0⟩, .vamoxor ⟨0, 0, 0, 0, 0⟩,
    .vamoxor ⟨6, 0, 0, 0, 0⟩, .vamoswp ⟨0, 0, 0, 0, 0⟩, .vamoswp ⟨6, 0, 0, 0, 0⟩, .vamocas ⟨0, 0, 0, 0, 0⟩,
    .vamocas ⟨6, 0, 0, 0, 0⟩, .vamoaddNr ⟨0, 0, 0, 0, 0⟩, .vamoaddNr ⟨6, 0, 0, 0, 0⟩, .vamominNr ⟨0, 0, 0, 0, 0⟩,
    .vamominNr ⟨6, 0, 0, 0, 0⟩, .vamomaxNr ⟨0, 0, 0, 0, 0⟩, .vamomaxNr ⟨6, 0, 0, 0, 0⟩, .vamoandNr ⟨0, 0, 0, 0, 0⟩,
    .vamoandNr ⟨6, 0, 0, 0, 0⟩, .vamoorNr ⟨0, 0, 0, 0, 0⟩, .vamoorNr ⟨6, 0, 0, 0, 0⟩, .vamoxorNr ⟨0, 0, 0, 0, 0⟩,
    .vamoxorNr ⟨6, 0, 0, 0, 0⟩, .vamoswpNr ⟨0, 0, 0, 0, 0⟩, .vamoswpNr ⟨6, 0, 0, 0, 0⟩] : List Instr), fieldReason i = some 1 := by decide +kernel

/-- R434 reason 2: the values of a register or control field that an entry excludes. -/
theorem test_illFormed_values : ∀ i ∈ ([
    .fence ⟨0, 0, 0, 0⟩, .fence ⟨0, 0, 0, 4⟩, .qbind ⟨0, 0, 0, 23⟩, .qbind ⟨0, 0, 0, 30⟩, .qbind ⟨1, 0, 0, 27⟩,
    .qfree ⟨0, 0, 23, 0⟩, .qpushn ⟨0, 0, 30, 0⟩, .qpopn ⟨0, 0, 23, 0⟩, .qstat ⟨0, 0, 0, 0⟩, .vldseg ⟨0, 1, 0, 0⟩,
    .vldseg ⟨0, 9, 0, 0⟩, .vstseg ⟨0, 0, 0, 0⟩, .vcmpeq ⟨0, 0, 0, 0, 0⟩, .vcmpleu ⟨0, 0, 0, 0, 0⟩,
    .vfcmpeq ⟨0, 0, 0, 0, 0⟩, .vfcmpun ⟨0, 0, 0, 0, 0⟩, .mand ⟨0, 0, 0, 0, 0⟩, .mnot ⟨0, 0, 0, 0, 0⟩,
    .mset ⟨0, 0, 0, 0, 0⟩, .edge ⟨0, 0, 0, 0, 0⟩, .vcmpeq ⟨0, 0, 0, 0, 8⟩, .mand ⟨0, 0, 0, 8, 1⟩,
    .mand ⟨0, 0, 8, 0, 1⟩, .mnot ⟨0, 0, 0, 8, 1⟩, .mffs ⟨0, 0, 0, 8, 0⟩, .mpop ⟨0, 0, 0, 9, 0⟩,
    .vmsel ⟨0, 0, 0, 0, 0⟩, .tset ⟨0, 3, 0, 0, 0⟩, .tset ⟨0, 0, 0, 0, 29⟩, .tset ⟨0, 0, 0, 29, 0⟩,
    .edge ⟨0, 0, 0, 29, 1⟩, .edge ⟨3, 0, 0, 0, 1⟩, .pxcmt ⟨0, 0, 30, 0, 0⟩, .trslv ⟨0, 0, 30, 0, 0⟩] : List Instr), fieldReason i = some 2 := by decide +kernel

/-- R434 reason 24, and R81: the shift amounts and conversion codes past their range, and the pattern of zeros. -/
theorem test_illFormed_late : ∀ i ∈ ([
    .slli ⟨64, 0, 0⟩, .srli ⟨2048, 0, 0⟩, .srai ⟨64, 0, 0⟩, .fcvtif ⟨16, 0, 0⟩, .fcvtfi ⟨31, 0, 0⟩, .cmov ⟨0, 0⟩] : List Instr), fieldReason i = none ∧ lateOk i = false := by decide +kernel

/-! ### Every obligation with hypotheses has a state that meets them -/

theorem witness_registerOperations : Ready (with_ [(1, 7), (2, 2 ^ 64 - 1)]) [1, 2, 3] := ready_of (by decide +kernel)

theorem witness_immediateOperations : Ready one [1, 3] ∧ (63 : BitVec 12).toNat < 64 ∧ 64 ≤ (64 : BitVec 12).toNat ∧
    NoChunk one ∧ one.me.vq = [] ∧ one.me.held = [] :=
  ⟨ready_of (by decide +kernel), by decide, by decide, by unfold NoChunk; decide +kernel, by decide +kernel,
    by decide +kernel⟩

theorem witness_predicates : RunsThread one ∧ Ready one [1] ∧ Ready one [3] ∧ (∀ x : TF, x = ⟨0, 0, 3⟩ → x.b = 0 ∧ x.a = 0) :=
  ⟨by unfold RunsThread; decide +kernel, ready_of (by decide +kernel), ready_of (by decide +kernel), by rintro _ rfl; decide⟩

theorem witness_controlTransfer : Ready one [30] ∧ Ready (with_ [(1, 0x40)]) [1, 0] ∧ Ready (with_ [(1, 0x41)]) [1, 0] ∧
    ((with_ [(1, 0x40)]).me.regs.get 1).getLsbD 0 = false ∧ ((with_ [(1, 0x41)]).me.regs.get 1).getLsbD 0 = true ∧
    NoChunk (with_ [(1, 0x41)]) :=
  ⟨ready_of (by decide +kernel), ready_of (by decide +kernel), ready_of (by decide +kernel), by decide +kernel,
    by decide +kernel, by unfold NoChunk; decide +kernel⟩

theorem witness_compactOperations : Ready one [one.me.regs.cdst, 5] := ready_of (by decide +kernel)

/-- A load from the core's own window is near; one from the mapped page, which the cluster does not hold, is not. -/
theorem witness_loads : Ready (with_ [(1, win)]) [1, 2] ∧
    Locates (with_ [(1, win)]) (word win) 8 wantRead own (after (with_ [(1, win)]) (word win) wantRead) ∧
    nearLoc (after (with_ [(1, win)]) (word win) wantRead) 0 own 8 = true ∧
    Locates (with_ [(1, 0x30000)]) 0x30000 8 wantRead page (after (with_ [(1, 0x30000)]) 0x30000 wantRead) ∧
    nearLoc (after (with_ [(1, 0x30000)]) 0x30000 wantRead) 0 page 8 = false ∧
    (after (with_ [(1, win)]) (word win) wantRead).me.squashes = (with_ [(1, win)]).me.squashes ∧
    (after (with_ [(1, 0x30000)]) 0x30000 wantRead).me.squashes = (with_ [(1, 0x30000)]).me.squashes :=
  ⟨ready_of (by decide +kernel), locates_of (by decide +kernel) (by decide +kernel) (by decide +kernel), by decide +kernel,
    locates_of (by decide +kernel) (by decide +kernel) (by decide +kernel), by decide +kernel, by decide +kernel,
    by decide +kernel⟩

theorem witness_stores : Ready (with_ [(1, win)]) [1, 2] ∧
    Locates (with_ [(1, win)]) (word win) 8 wantWrite own (after (with_ [(1, win)]) (word win) wantWrite) ∧
    (after (with_ [(1, win)]) (word win) wantWrite).me.squashes = (with_ [(1, win)]).me.squashes ∧
    (with_ [(1, win)]).me.chunk.stores.length < 32 ∧ own.kind ≠ 4 ∧ own.disc = false :=
  ⟨ready_of (by decide +kernel), locates_of (by decide +kernel) (by decide +kernel) (by decide +kernel), by decide +kernel,
    by decide +kernel, by decide, by decide⟩

/-- A closed chunk of one store and one vector instruction. -/
def closedChunk : Chunk :=
  { Chunk.empty with
    count := 2, closed := true, stores := [⟨2 ^ 52, [7], 1⟩]
    deferred := [.vec ⟨.vector 0x39, 0, [], 0, [], 0, none, [], []⟩] }

theorem witness_commit :
    let s := one.onMe (fun x => { x with chunk := closedChunk })
    (s.slot 0).chunk.closed = true ∧ (s.slot 0).chunk.count ≠ 0 ∧ heldBack s 0 = false ∧
    (∀ r ∈ (s.slot 0).chunk.stores, r.kind ≤ 1 ∨ r.kind = 3) ∧
    (s.slot 0).chunk.deferred = [.vec ⟨.vector 0x39, 0, [], 0, [], 0, none, [], []⟩] := by decide +kernel

theorem witness_atomics :
    let s := with_ [(1, win)]
    NoChunk s ∧ s.me.chunk.deferred = [] ∧ s.me.chunk.stores = [] ∧ Ready s [1, 2, 3] ∧
    Locates s (word win) 8 wantBoth own (after s (word win) wantBoth) ∧
    Locates s (word win) 8 wantRead own (after s (word win) wantRead) ∧
    Locates s (word win) 8 wantWrite own (after s (word win) wantWrite) ∧
    (∀ sc < 6, 1 ≤ sc → contains 0 sc own = true) ∧ badByte (after s (word win) wantBoth) own.key 8 = none ∧
    heldByProtected (after s (word win) wantBoth) 0 own.key 8 = false ∧
    storesQueued (after s (word win) wantWrite) 0 = false ∧ nearLoc (after s (word win) wantBoth) 0 own 8 = true :=
  ⟨by unfold NoChunk; decide +kernel, by decide +kernel, by decide +kernel, ready_of (by decide +kernel),
    locates_of (by decide +kernel) (by decide +kernel) (by decide +kernel),
    locates_of (by decide +kernel) (by decide +kernel) (by decide +kernel),
    locates_of (by decide +kernel) (by decide +kernel) (by decide +kernel), by decide +kernel, by decide +kernel,
    by decide +kernel, by decide +kernel, by decide +kernel⟩

/-- An atomic on memory that the cluster does not hold. -/
theorem witness_farAtomics :
    let s := with_ [(1, 0x30000)]
    Locates s 0x30000 8 wantBoth page (after s 0x30000 wantBoth) ∧ contains 0 5 page = true ∧
    badByte (after s 0x30000 wantBoth) page.key 8 = none ∧ nearLoc (after s 0x30000 wantBoth) 0 page 8 = false :=
  ⟨locates_of (by decide +kernel) (by decide +kernel) (by decide +kernel), by decide +kernel, by decide +kernel,
    by decide +kernel⟩

/-- A reduction of process 0 on the mapped page. -/
def red0 : Red := ⟨0, 0x30008, 5, 5, false, 0, 0, word placeTables, .none, false, false⟩

theorem witness_reductions : Ready (with_ [(1, 0x30008)]) [1, 2] ∧ acquireQueued (with_ [(1, 0x30008)]).me = false ∧ ((with_ [(1, 0x30008)]).me.regs.get 1).toNat % 8 = 0 ∧
    ((with_ [(1, 0x30008)]).me.regs.get 1).toNat / 2 ^ 56 = 0 ∧
    ({ one with reds := [red0] } : State).reds.find? (fun q => !q.held) = some red0 ∧
    (resolve one 0 0 (word placeTables) 0x30008 { wantWrite with user := false }).2 = .ok ⟨0x30008, 0, false, true⟩ :=
  ⟨ready_of (by decide +kernel), by decide +kernel, by decide +kernel, by decide +kernel, by decide +kernel, by decide +kernel⟩

/-- A barrier word of target 2 with one arrival, and a VST in the vector instruction queue. -/
def barS (b : Nat) (queued : Bool) : State :=
  ((with_ [(1, win), (2, b)]).putBytes (2 ^ 52) (barBytes ⟨2, 1, 9, 0, 0, false⟩)).onMe (fun x =>
    { x with vq := if queued then [⟨.vector 0x35, 0, [0], 0, [], 0, none, [], []⟩] else [] })

theorem witness_barriers : Ready (barS 5 false) [1, 2, 3] ∧ Ready (barS 9 true) [1, 2, 3] ∧ NoChunk (barS 9 true) ∧
    (let s := barS 9 true;
      (word win).toNat % 32 = 0 ∧ inWindowRegion (word win) = true ∧ windowOff s.cur (word win) = some 0 ∧
      (s.core (windowCore (clusterOf s.cur) 0)).owner = some s.me.asidN ∧
      heldByProtected s s.cur (winKey (clusterOf s.cur) 0) 32 = false ∧
      (barRead s (winKey (clusterOf s.cur) 0)).bad = false ∧ (barRead s (winKey (clusterOf s.cur) 0)).gen = 9 ∧
      (barRead s (winKey (clusterOf s.cur) 0)).arrivals < 65535 ∧ windowCore (clusterOf s.cur) 0 = coreOf s.cur ∧
      storesQueued s s.cur = true ∧ s.me.vq.length < 32 ∧ storesQueued (barS 5 false) 0 = false ∧
      arrivalQueued (barS 5 false) (2 ^ 52) = false ∧ acquireQueued (barS 5 false).me = false) :=
  ⟨ready_of (by decide +kernel), ready_of (by decide +kernel), by unfold NoChunk; decide +kernel, by decide +kernel⟩

theorem witness_barrierWait :
    let s := (barS 9 false).onMe (fun x => { x with wait := .barrier (2 ^ 52) 8 })
    (s.slot 0).wait = .barrier (2 ^ 52) 8 ∧ (barRead s (2 ^ 52)).gen ≠ (8 : Word).toNat ∧
    s.slots.all (fun e => match e.2.wait with | .sleep _ _ => false | _ => true) = true := by decide +kernel

/-- Counter 0x30400 armed by process 0 with 100 units, of which cluster 0 holds 5, or none. -/
def ctrS (held : Bool) (answer : Option Answer) : State :=
  let s := with_ [(1, 0x30400), (2, 3)]
  ({ s with ctrs := [(0x30400, some ⟨0, 100, if held then [0] else [], false, [], [], [], [], [], 0⟩)] }).onCluster 0 (fun c =>
    { c with allow := if held then [(0x30400, 5, 5)] else [] }) |>.onMe (fun x => { x with answer := answer })

/-- Cluster 0 has used 3 units of an allowance of 5; the home has answered a give. -/
def ctrUsed (answer : Option Answer) : State :=
  (ctrS true answer).onCluster 0 (fun c => { c with allow := [(0x30400, 2, 5)] })

/-- The counter object is found, tracked, at its address. -/
def ctrFound (s : State) (w : Want) : Bool := (resolveFor s s.cur 0x30400 w).2 == .ok ⟨0x30400, 0, false, true⟩

theorem witness_counters : Ready (ctrS true none) [1, 2, 3] ∧ NoChunk (ctrS true none) ∧ Ready (with_ [(1, 0x30400)]) [1, 2, 3] ∧
    ctrFound (with_ [(1, 0x30400)]) wantRead = true ∧ (after (with_ [(1, 0x30400)]) 0x30400 wantRead).ctr 0x30400 = none ∧
    (after (with_ [(1, 0x30400)]) 0x30400 wantRead).ctrs.length < 65536 ∧
    (let s := after (ctrS true none) 0x30400 wantRead;
      ctrFound (ctrS true none) wantRead = true ∧ ctrFound (ctrS true none) wantWrite = true ∧
      allowOf s 0 0x30400 = some (5, 5) ∧ (s.ctr 0x30400).isSome = true ∧ s.me.regs.get 2 ≠ 0) ∧
    (let s := after (ctrS true none) 0x30400 wantRead;
      after s 0x30400 wantRead = s ∧ after s 0x30400 wantWrite = s) ∧
    (let s := after (ctrS false (some ⟨3, 0, 0x30400, 3, false⟩)) 0x30400 wantRead;
      ctrFound s wantRead = true ∧ allowOf s 0 0x30400 = none ∧ s.me.answer = some ⟨3, 0, 0x30400, 3, false⟩) ∧
    (∀ a ∈ [none, some ⟨0, 0, 0x30400, 0, true⟩], let s := after (ctrUsed a) 0x30400 wantWrite;
      ctrFound (ctrUsed a) wantWrite = true ∧ s.me.answer = a ∧ allowOf s 0 0x30400 = some (2, 5) ∧
      2 + (s.me.regs.get 2).toNat ≤ 5 ∧ (s.ctr 0x30400).map Ctr.parked = some [] ∧ acquireQueued s.me = false) :=
  ⟨ready_of (by decide +kernel), by unfold NoChunk; decide +kernel, ready_of (by decide +kernel), by decide +kernel,
    by decide +kernel, by decide +kernel, by decide +kernel, by decide +kernel, by decide +kernel, by decide +kernel⟩

/-! A queue table at 0x30000: entry 1 a task queue with its counter at 0x30400 and its done counter at 0x30800, entry 2 the
scalar queue 3, entry 3 engine 0, entry 4 a result queue. -/

/-- The first 512 bits of an entry. -/
def qEntry (kind base cap ctr done flags : Nat) : Nat :=
  base + cap * 2 ^ 128 + 3 * 2 ^ 153 + kind * 2 ^ 160 + 2 ^ 163 + flags * 2 ^ 164 + ctr * 2 ^ 192 + done * 2 ^ 256

/-- The queue of entry 1, resident. -/
def taskQ : QueueSt :=
  { handle := 1, qtbase := 0x30000, ptbase := word placeTables, entry := qEntry 0 0x30C00 4 0x30400 0x30800 2
    kind := 0, home := 0, cls := 3, cap := 4, ctrVa := 0x30400
    ctr := 0x30400, doneVa := 0x30800, irq := false, msix := 0, pin := false, resume := false, base := 0x30C00
    resident := true, tasks := [], elems := [], last := 0, raised := false, joined := 0, posted := false, hostMode := false, lost := false, stamp := 0 }

/-- A plain task descriptor: entry 0x20000, argument 9, key 8, gsize 1. -/
def descr : Nat := 0x20000 + 9 * 2 ^ 64 + 8 * 2 ^ 128 + 2 ^ 200

/-- The thread of `with_` under that table, its task queue resident with counter units at cluster 0. -/
def tabled (rs : List (Reg × Nat)) : State :=
  let s := with_ rs
  let s1 := ((s.putLe 0x30000 64 (1 + 4 * 256)).putLe 0x30040 64 (qEntry 0 0x30C00 4 0x30400 0x30800 2)).putLe 0x30080 64
    (3 + 2 * 2 ^ 160 + 2 ^ 163)
  let s2 := ((s1.putLe 0x300C0 64 (4 * 2 ^ 160 + 2 ^ 163)).putLe 0x30100 64 (5 * 2 ^ 160 + 2 ^ 163)).putLe 0x30200 64 descr
  let s3 := ({ s2 with
    ctrs := [(0x30400, some ⟨0, 100, [0], false, [], [], [], [], [], 0⟩)]
    queues := [(1, some taskQ)] }).onCluster 0 (fun c => { c with allow := [(0x30400, 5, 5)] })
  s3.onMe (fun x => { x with sys := { x.sys with qtbase := 0x30000 } })

/-- The entry that a handle names. -/
def entryOf (s : State) (handle : Nat) : Option QEnt :=
  match readEntry s s.cur s.me.asidN s.me.sys.ptbase s.me.sys.qtbase handle true with
  | (_, .inl e) => some e
  | _ => none

theorem witness_bindings : ReadyFull (tabled [(1, 2)]) [1, 31] ∧ NoChunk (tabled [(1, 2)]) ∧
    reasonQbind ⟨0, 31, 1, 24⟩ = none ∧ (tabled [(1, 2)]).me.port 0 = none ∧
    (entryOf (tabled [(1, 2)]) 2).map QEnt.kind = some 2 ∧ kindAllowed 0 2 = true ∧ reasonQfree ⟨0, 0, 24, 0⟩ = none ∧
    ReadyFull (tabled [(1, 2)]) [] ∧ reasonQstat ⟨0, 0, 24, 3⟩ = none ∧ windowPort (tabled []).me (windowNo 0 24) = none ∧
    windowBusy (tabled [(1, 2)]).me (windowNo 1 24) = false ∧ windowBusy (tabled [(1, 2)]).me (windowNo 0 24) = false :=
  ⟨readyFull_of (by decide +kernel), by unfold NoChunk; decide +kernel, by decide, by decide +kernel, by decide +kernel,
    by decide, by decide, readyFull_of (by decide +kernel), by decide, by decide +kernel, by decide +kernel, by decide +kernel⟩

/-- s24 bound through port 0 to scalar queue 3, which holds `elems`. -/
def bound (elems : List Word) : State :=
  (one.onMe (fun x => { x with
    sys := { x.sys with qmap := 32 }
    ports := [(0, some ⟨2, 0, 2, 3, 0, none, none, false⟩)] })).onCore 0 (fun c => { c with
      sq := if elems = [] then [] else [(3, ⟨elems, 0⟩)] })

theorem witness_boundRegisters : (∀ es ∈ [[], [5], [1, 2, 3, 4, 5, 6, 7, 8]],
      let s := bound es
      boundPort s.me 24 = some 0 ∧ s.me.port 0 = some ⟨2, 0, 2, 3, 0, none, none, false⟩ ∧ s.me.light = false ∧
      (24 : Reg) ∉ pendingRegs s.me ∧ (24 : Reg) ∉ chunkPending s.me ∧
      (rd ScalarQ.empty (s.core (coreOf s.cur)).sq 3).elems = es ∧ windowPort s.me (windowNo 0 24) = some 0 ∧
      s.me.chunk.deferred = []) ∧
    reasonQpushn ⟨0, 2, 24, 3⟩ = none ∧ ReadyFull (bound []) [2] ∧ ReadyFull (bound [5]) [3] ∧ NoChunk (bound [5]) :=
  ⟨by decide +kernel, by decide, readyFull_of (by decide +kernel), readyFull_of (by decide +kernel),
    by unfold NoChunk; decide +kernel⟩

/-- All that an enqueue of the descriptor at 0x30200 to queue 1 assumes. -/
def enqueueReady (s : State) (n : Nat) (card : Bool) : Bool :=
  match readBlock s (s.me.regs.get 1) n with
  | .ok raw s1 =>
    match readEntry s1 s.cur s.me.asidN s.me.sys.ptbase s.me.sys.qtbase 1 true with
    | (s2, .inl e) =>
      let s3 := touchQueue (meetQueue s2 1 s.me.sys.qtbase s.me.sys.ptbase 1 e) 1
      e.kind == 0 && residentQ (meetQueue s2 1 s.me.sys.qtbase s.me.sys.ptbase 1 e) 1 &&
      (match s3.queue 1 with
        | some q => (s3.ctr q.ctr).isSome && (localTake s3 (clusterOf s.cur) q.ctr 1).isSome
        | none => false) &&
      (if card then
        let d := dSet (dSet (BitVec.ofNat 512 raw) 229 229 0) 511 448 0
        (cardTiles (raw / 2 ^ 512)).isSome && descOk d && !dLaunch d && decide (dGlevel d ≤ 1)
      else descOk (BitVec.ofNat 512 raw))
    | _ => false
  | _ => false

/-- The job card: the descriptor, and one tile of 64 bytes from 0x30200 to window offset 0x100 of core 0. -/
def carded : State :=
  ((tabled [(1, 0x30200), (2, 1)]).putLe 0x30240 64 (0x30200 + 64 * 2 ^ 64 + 0x100 * 2 ^ 96))

theorem witness_enqueues : Ready (tabled [(1, 0x30200), (2, 1)]) [1, 2, 3] ∧
    enqueueReady (tabled [(1, 0x30200), (2, 1)]) 64 false = true ∧ Ready carded [1, 2, 3] ∧
    enqueueReady carded 128 true = true ∧ carded.me.answer = none :=
  ⟨ready_of (by decide +kernel), by decide +kernel, ready_of (by decide +kernel), by decide +kernel, by decide +kernel⟩

theorem witness_spawns : Ready (with_ [(1, 0x20001)]) [1, 2, 3] ∧
    ((with_ []).core 0).runq.length + ((with_ []).core 0).runResv < 64 ∧
    64 ≤ (((with_ []).onCore 0 (fun c => { c with runResv := 64 })).core 0).runResv ∧
    Ready ((with_ []).onCore 0 (fun c => { c with runResv := 64 })) [1, 2, 3] :=
  ⟨ready_of (by decide +kernel), by decide +kernel, by decide +kernel, ready_of (by decide +kernel)⟩

/-- A light thread that migrates to core 5; a full one with and without a requested pre-emption. -/
theorem witness_threads :
    (let s := lit (with_ [(1, 5)]);
      Ready s [1] ∧ s.me.light = true ∧ migrTarget s s.cur 5 = true ∧ NoChunk s) ∧
    (let s := { lit (with_ [(1, 5)]) with rdy := 1 };
      Ready s [1] ∧ s.me.light = true ∧ migrTarget s s.cur 5 = true ∧ NoChunk s ∧ takesPacket s 5 = true ∧
      storesQueued s s.cur = false) ∧ one.me.vq = [] ∧ one.me.arrivals = [] ∧
    one.me.preempt = none ∧ sleepEvent one 0 = false ∧
    (let s := one.onMe (fun x => { x with preempt := some 1 });
      RunsThread s ∧ s.me.ie = true ∧ sleepEvent s s.cur = true ∧ Ready s [1, 3] ∧ NoChunk s) :=
  ⟨⟨ready_of (by decide +kernel), by decide +kernel, by decide +kernel, by unfold NoChunk; decide +kernel⟩,
    ⟨ready_of (by decide +kernel), by decide +kernel, by decide +kernel, by unfold NoChunk; decide +kernel, by decide +kernel,
      by decide +kernel⟩, by decide +kernel, by decide +kernel, by decide +kernel,
    by decide +kernel, by unfold RunsThread; decide +kernel, by decide +kernel, by decide +kernel,
    ready_of (by decide +kernel), by unfold NoChunk; decide +kernel⟩

theorem witness_traps : NoChunk one ∧ RunsThread one ∧ one.me.spv = true ∧ one.me.sys.epc.getLsbD 0 = false ∧
    one.me.irq = false ∧ (one.onMe (fun x => { x with irq := true })).me.irq = true :=
  ⟨by unfold NoChunk; decide +kernel, by unfold RunsThread; decide +kernel, by decide +kernel, by decide +kernel,
    by decide +kernel, by decide +kernel⟩

/-- The thread in user mode. -/
def user (s : State) : State := s.onMe (fun x => { x with sys := { x.sys with status := x.sys.status &&& ~~~1 } })

theorem witness_systemRegisters : NoChunk one ∧ one.me.vq = [] ∧ one.me.held = [] ∧ one.me.spv = true ∧
    ReadyFull one [1, 3] ∧ (user one).me.spv = false ∧ ReadyFull (user one) [1, 3] ∧ NoChunk (user one) :=
  ⟨by unfold NoChunk; decide +kernel, by decide +kernel, by decide +kernel, by decide +kernel, readyFull_of (by decide +kernel),
    by decide +kernel, readyFull_of (by decide +kernel), by unfold NoChunk; decide +kernel⟩

theorem witness_fences : NoChunk one ∧ RunsThread one ∧ (∀ sc : BitVec 3, sc.toNat ≤ 5 → reasonFence ⟨sc, 0, 0, 3⟩ = none) ∧
    accessQueued one 0 = false ∧ accessQueued (barS 0 true) 0 = true ∧ NoChunk (barS 0 true) ∧ Ready one [1, 2] ∧
    one.me.regs.get 2 = 0 ∧ inWindowRegion (one.me.regs.get 1) = false :=
  ⟨by unfold NoChunk; decide +kernel, by unfold RunsThread; decide +kernel, by decide, by decide +kernel, by decide +kernel,
    by unfold NoChunk; decide +kernel, ready_of (by decide +kernel), by decide +kernel, by decide +kernel⟩

/-- The image of a save at the core's window is placed without a fault. -/
def saves (s : State) (image : List Byte) : Bool :=
  !saveHeld s (cutPages (word win) image) && (savePieces s (cutPages (word win) image)).2.isNone

/-- `n` bytes at the core's window are read without a fault. -/
def restores (s : State) (n : Nat) : Bool := (readPieces s s.cur (pagePieces (word win) (n + 1) n) []).2.isLeft

/-- A thread that holds a frame of one vector instruction, and one whose frame 0 is in memory at its window. -/
def framed : State :=
  (with_ [(1, win)]).onMe (fun x => { x with held := [⟨.vector 0x39, 0, [], 0, [], 0, none, [], []⟩] })
def unframed : State :=
  ({ with_ [(1, win)] with frames := [(0, some ⟨4, 1, [⟨.vector 0x39, 0, [], 0, [], 0, none, [], []⟩], []⟩)] }).putBytes (2 ^ 52)
    (frameBytes 1 0)

theorem witness_saves : ReadyFull (with_ [(1, win)]) [1] ∧ NoChunk (with_ [(1, win)]) ∧ (with_ [(1, win)]).me.spv = true ∧
    (word win).toNat % 256 = 0 ∧ (with_ [(1, win)]).me.pairSince = none ∧
    saves (with_ [(1, win)]) (vecImage (with_ [(1, win)]).me.vec) = true ∧
    restores (with_ [(1, win)]) (vecImageLen (with_ [(1, win)]).me.vec) = true ∧
    ((with_ [(1, win)]).core 0).fenced = 0xFFFFFFFF ∧ (with_ [(1, win)]).me.vec.segs = [] ∧
    corePass (with_ [(1, win)]) 0 = false ∧ ReadyFull framed [1] ∧ framed.me.held ≠ [] ∧
    saves framed (frameBytes framed.me.held.length framed.frames.length) = true ∧ unframed.me.held = [] ∧
    restores unframed (frameLen 1) = true ∧ rd none unframed.frames 0 = some ⟨4, 1, [⟨.vector 0x39, 0, [], 0, [], 0, none, [], []⟩], []⟩ ∧
    unframed.me.vec.split = 4 ∧ unframed.me.vec.segCount = 1 :=
  ⟨readyFull_of (by decide +kernel), by unfold NoChunk; decide +kernel, by decide +kernel, by decide +kernel, by decide +kernel,
    by decide +kernel, by decide +kernel, by decide +kernel, by decide +kernel, by decide +kernel,
    readyFull_of (by decide +kernel), by decide +kernel, by decide +kernel, by decide +kernel, by decide +kernel,
    by decide +kernel, by decide +kernel, by decide +kernel⟩

/-- The thread with one of its reductions faulted beside its held frame. -/
def faulted : State := { framed with reds := [{ red0 with task := framed.me.task, held := true }] }

theorem witness_savedReductions : faulted.reds.filter (redHeld faulted.me) = faulted.reds ∧ faulted.reds.length = 1 ∧
    ReadyFull faulted [1] ∧ saves faulted (frameBytes 2 faulted.frames.length) = true ∧
    (∀ r ∈ unframed.reds, redHeld unframed.me r = false) ∧ unframed.reds.filter (redHeld unframed.me) = [] :=
  ⟨by decide +kernel, by decide +kernel, readyFull_of (by decide +kernel), by decide +kernel, by decide +kernel, by decide +kernel⟩

theorem witness_scalarFloat : Ready (with_ [(1, 0x3F800000)]) [1, 2, 3] ∧ fp32 ((with_ [(1, 0x7FC00000)]).me.regs.get 1) = .nan ∧
    fp32 ((with_ [(1, 0xFF800000)]).me.regs.get 1) = .inf true ∧
    fp32 ((with_ [(1, 0xC0600000)]).me.regs.get 1) = .num true 0xE00000 (-22) :=
  ⟨ready_of (by decide +kernel), by decide +kernel, by decide +kernel, by decide +kernel⟩

/-- One below the overflow bound, and the bound 2^128 - 2^103 itself. -/
theorem witness_rounding : (scaledTo false (2 ^ 25 - 2) 103 (-149)).natAbs < (scaledTo false (2 ^ 25 - 1) 103 (-149)).natAbs ∧
    decodeF 0 (writeF .default 0 (.num false (2 ^ 25 - 2) 103)) = .num false (2 ^ 24 - 1) 104 ∧
    decodeF 0 (writeF .default 0 (.num false (2 ^ 25 - 1) 103)) = .inf false := by decide +kernel

/-- The same thread in a machine whose memory holds no table. -/
def bare : State := { with_ [(1, win)] with mem := [] }

/-! The save of a whole core's matrix state, whose image is zero, in a machine without tables: every piece finds its place and leaves
the machine as it is. -/

theorem rdMany_nil {α : Type} (d : α) : ∀ (n k : Nat), rdMany d [] k n = List.replicate n d
  | 0, _ => rfl
  | n + 1, k => by rw [rdMany, rdMany_nil d n (k + 1), List.replicate_succ, rd]

theorem flatMap_replicate_same {α β : Type} (a : α) (f : α → List β) (b : β) (m : Nat) (h : f a = List.replicate m b) :
    ∀ n, (List.replicate n a).flatMap f = List.replicate (n * m) b
  | 0 => by simp
  | n + 1 => by
    rw [List.replicate_succ, List.flatMap_cons, flatMap_replicate_same a f b m h n, h, ← List.replicate_add]
    congr 1
    rw [Nat.succ_mul, Nat.add_comm]

theorem matImage_zero (c : CoreSt) (ha : c.acc = []) (hb : c.blk = []) (hs : c.sB = 0) :
    matImage c = List.replicate 81928 0 := by
  have h4 : toLe 4 ((0 : BitVec 32)).toNat = List.replicate 4 0 := by decide
  have h0 : toLe 4 0 = List.replicate 4 0 := by decide
  rw [matImage, ha, hb, hs, rdMany_nil, rdMany_nil, flatMap_replicate_same 0 (fun w : BitVec 32 => toLe 4 w.toNat) 0 4 h4, h4, h0]
  simp only [← List.replicate_add]

theorem wrMany_zeros : ∀ (n k : Nat), wrMany unlistedByte [] k (List.replicate n 0) = []
  | 0, _ => rfl
  | n + 1, k => by
    rw [List.replicate_succ, wrMany, wr, if_pos (by decide), del]
    exact wrMany_zeros n (k + 1)

theorem bare_quiet : (∀ e ∈ bare.slots, e.2.chunk.rset = []) ∧ (∀ e ∈ bare.slots, e.2.chunk.prot = false) ∧
    (∀ c ∈ bare.cores, c.2.tlb = []) ∧ (∀ c ∈ bare.clusters, c.2.walk = []) ∧ bare.poison = [] := by decide +kernel

theorem bare_write (c key n : Nat) : elementWrite bare c key 1 (List.replicate n 0) = bare := by
  obtain ⟨hr, -, ht, hw, hp⟩ := bare_quiet
  have h1 (f : Nat → Bool) (l : List Nat) : squashReaders bare f l = bare := by
    have h : bare.slots.filter (fun e => f (clusterOf e.1) && !e.2.chunk.sure && conflict e.2.chunk.rset l) = [] := by
      rw [List.filter_eq_nil_iff]
      intro e he
      simp [hr e he, conflict]
    rw [squashReaders, readersOf, h]
    rfl
  have h2 : bare.putBytes key (List.replicate n 0) = bare := by
    have h : bare.mem = [] := rfl
    rw [State.putBytes, h, wrMany_zeros, hp, delWhere, List.filter_nil, ← hp, ← h]
  have h3 (k m : Nat) : dropTranslations bare k m = bare := by
    rw [dropTranslations, dropEntries, if_neg]
    simp only [Bool.or_eq_true, List.any_eq_true, not_or, not_exists, not_and]
    exact ⟨fun e he => by simp [ht e he], fun e he => by simp [hw e he]⟩
  simp only [elementWrite, h1, pokeLoc]
  rw [if_neg (by decide), if_neg (by decide), if_neg (by decide)]
  refine Eq.trans (congrArg (fun t => dropTranslations t key _) ?_) (h3 key (List.replicate n (0 : Byte)).length)
  simp only [ite_self]
  exact h2

/-- An address in the core's own window, in a page that the thread may write. -/
def atHome (va : Word) : Bool :=
  canonical va && inWindowRegion va && (match windowOff bare.cur va with
    | some o => decide ((bare.core (windowCore (clusterOf bare.cur) o)).owner = some bare.me.asidN)
    | none => false)

theorem bare_place {va : Word} (h : atHome va = true) :
    ∃ key, resolveFor bare bare.cur va wantWrite = (bare, .ok ⟨key, 1, false, true⟩) := by
  simp only [atHome, Bool.and_eq_true] at h
  obtain ⟨⟨h1, h2⟩, h3⟩ := h
  split at h3
  · next o ho =>
    refine ⟨winKey (clusterOf bare.cur) o, ?_⟩
    have h4 := of_decide_eq_true h3
    simp only [resolveFor, resolve, resolveAt, h1, h2, ho, Bool.true_eq_false, if_true, if_false]
    exact (if_neg (by decide)).trans (if_pos h4)
  · cases h3

theorem bare_saves : ∀ ws : List (Word × Nat), (∀ w ∈ ws, atHome w.1 = true) →
    saveHeld bare (ws.map (fun w => (w.1, List.replicate w.2 0))) = false ∧
    savePieces bare (ws.map (fun w => (w.1, List.replicate w.2 0))) = (bare, none)
  | [], _ => ⟨rfl, rfl⟩
  | w :: ws, h => by
    obtain ⟨key, hk⟩ := bare_place (h w (List.mem_cons_self ..))
    obtain ⟨ih1, ih2⟩ := bare_saves ws (fun e he => h e (List.mem_cons_of_mem _ he))
    obtain ⟨-, hp, -⟩ := bare_quiet
    refine ⟨?_, ?_⟩
    · rw [List.map_cons, saveHeld, List.any_cons, hk]
      have hn : heldByProtected bare bare.cur key (List.replicate w.2 (0 : Byte)).length = false := by
        rw [heldByProtected, List.any_eq_false]
        intro e he
        simp [hp e he]
      show (decide (1 ≤ 1) && heldByProtected bare bare.cur key (List.replicate w.2 (0 : Byte)).length || _) = false
      rw [hn, Bool.and_false, Bool.false_or]
      exact ih1
    · rw [List.map_cons, savePieces, hk]
      have hf : noteFill bare bare.cur ⟨key, 1, false, true⟩ (List.replicate w.2 (0 : Byte)).length = bare := by
        simp [noteFill, Loc.cached]
      show (if (1 : Nat) = 4 ∧ _ then _ else _) = _
      rw [if_neg (fun e => absurd e.1 (by decide)), hf, writeAt, if_neg (show ¬(1 : Nat) = 4 by decide), bare_write]
      exact ih2

/-- The pieces of a run of zeros. -/
theorem cut_zeros : ∀ (ws : List (Word × Nat)) (acc : List (Word × List Byte)) (n : Nat), (ws.map Prod.snd).sum ≤ n →
    (ws.foldl (fun (a : List (Word × List Byte) × List Byte) e => (a.1 ++ [(e.1, a.2.take e.2)], a.2.drop e.2))
      (acc, List.replicate n 0)).1 = acc ++ ws.map (fun w => (w.1, List.replicate w.2 0))
  | [], acc, n, _ => (List.append_nil acc).symm
  | w :: ws, acc, n, h => by
    rw [List.map_cons, List.sum_cons] at h
    rw [List.foldl_cons, List.take_replicate, List.drop_replicate, Nat.min_eq_left (by omega), cut_zeros ws _ (n - w.2) (by omega),
      List.append_assoc]
    rfl

theorem saves_bare : saves bare (matImage (bare.core 0)) = true := by
  have hc : cutPages (word win) (List.replicate 81928 0) =
      (pagePieces (word win) 81929 81928).map (fun w : Word × Nat => (w.1, List.replicate w.2 0)) := by
    rw [cutPages, List.length_replicate]
    exact cut_zeros _ [] 81928 (by decide +kernel)
  obtain ⟨h1, h2⟩ := bare_saves (pagePieces (word win) 81929 81928) (by decide +kernel)
  rw [matImage_zero _ (by decide +kernel) (by decide +kernel) (by decide +kernel), saves, hc, h1, h2]
  rfl

/-- The matrix state of a core saved at its window, and an image of one read there. -/
theorem witness_matrixSaves : saves bare (matImage (bare.core 0)) = true ∧ restores bare 81928 = true ∧ corePass bare 0 = false ∧
    ReadyFull bare [1] ∧ NoChunk bare ∧ bare.me.spv = true ∧ bare.me.regs.get 1 = word win ∧ bare.me.pairSince = none :=
  ⟨saves_bare, by decide +kernel, by decide +kernel, readyFull_of (by decide +kernel), by unfold NoChunk; decide +kernel,
    by decide +kernel, by decide +kernel, by decide +kernel⟩

/-- What the last clauses of the statement about saves assume of the core's own window, for every image that fits it. -/
theorem inWindow_of {s : State} {n : Nat} (hn : n ≤ 0x40000) (hc : s.cur = 0) (ho : (s.core 0).owner = some s.me.asidN) :
    ∀ j < n, inWindowRegion (word win + BitVec.ofNat 64 j) = true ∧ windowOff s.cur (word win + BitVec.ofNat 64 j) = some (0 + j) ∧
      (s.core (windowCore (clusterOf s.cur) (0 + j))).owner = some s.me.asidN := by
  intro j hj
  have h1 : (word win + BitVec.ofNat 64 j).toNat = 0xF0000008000000 + j := by
    simp only [word, win, BitVec.toNat_add, BitVec.toNat_ofNat]
    omega
  rw [hc]
  refine ⟨?_, ?_, ?_⟩
  · simp only [inWindowRegion, h1, decide_eq_true_eq]
    omega
  · simp only [windowOff, h1]
    have h2 : (0xF0000008000000 + j) % 2 ^ 28 = 0x8000000 + j := by omega
    rw [h2, if_neg (by omega), if_pos (by omega), Option.some.injEq]
    simp only [coreOf]
    omega
  · rw [show windowCore (clusterOf 0) (0 + j) = 0 from by
      simp only [windowCore, show clusterOf 0 = 0 from rfl]
      omega]
    exact ho

/-- What every save and restore in the core's own window assumes. -/
def SavesAt (s : State) : Prop :=
  s.cur = 0 ∧ (s.core 0).owner = some s.me.asidN ∧ (∀ e ∈ s.slots, e.2.chunk.prot = false) ∧ ReadyFull s [1] ∧ NoChunk s ∧
  s.me.spv = true ∧ s.me.vec.segs = [] ∧ (s.core 0).fenced = 0xFFFFFFFF ∧ corePass s 0 = false

theorem witness_savesInWindow : SavesAt (with_ [(1, win)]) ∧ SavesAt framed ∧ SavesAt unframed :=
  ⟨⟨by decide +kernel, by decide +kernel, by decide +kernel, readyFull_of (by decide +kernel), by unfold NoChunk; decide +kernel,
      by decide +kernel, by decide +kernel, by decide +kernel, by decide +kernel⟩,
    ⟨by decide +kernel, by decide +kernel, by decide +kernel, readyFull_of (by decide +kernel), by unfold NoChunk; decide +kernel,
      by decide +kernel, by decide +kernel, by decide +kernel, by decide +kernel⟩,
    ⟨by decide +kernel, by decide +kernel, by decide +kernel, readyFull_of (by decide +kernel), by unfold NoChunk; decide +kernel,
      by decide +kernel, by decide +kernel, by decide +kernel, by decide +kernel⟩⟩

theorem witness_savedImages :
    (vecImage (with_ [(1, win)]).me.vec).length ≤ 0x40000 ∧ vecImageLen (with_ [(1, win)]).me.vec ≤ 0x40000 ∧
    (∀ c, (matImage c).length ≤ 0x40000) ∧ 81928 ≤ 0x40000 ∧ ∀ n no, (frameBytes n no).length ≤ 0x40000 := by
  refine ⟨by rw [vecImage_length]; decide +kernel, by decide +kernel, fun c => by rw [matImage_length]; decide, by decide,
    fun n no => ?_⟩
  rw [frameBytes_length, frameLen]
  split <;> omega

theorem witness_savedFrame : unframed.me.held = [] ∧ rdMany unlistedByte unframed.mem (winKey 0 0) (frameLen 1) = frameBytes 1 0 := by
  refine ⟨by decide +kernel, ?_⟩
  have h : frameLen 1 = (frameBytes 1 0).length := by rw [frameBytes_length]; rfl
  have h1 : winKey 0 0 = 2 ^ 52 := by decide
  rw [h, h1]
  unfold unframed State.putBytes
  exact rdMany_wrMany _ _ _ _

/-- The page at 0x30000 untracked, with a dirty copy of its first sector in the cluster. -/
def untracked : State :=
  ((with_ [(1, 0x30000), (2, 64)]).putLe (placeTables + 0x4000 + 8 * 0x30) 8 (0x30 * 65536 + 0x19F)).onCluster 0 (fun c =>
    { c with l1u := [⟨0xC00, List.replicate 64 7, 3⟩] })

theorem witness_writeBacks : NoChunk untracked ∧ Ready untracked [1, 2] ∧ untracked.me.regs.get 1 = 0x30000 ∧
    untracked.me.regs.get 2 = 64 ∧ meetsWindow 0x30000 64 = false ∧ untrackedSectors untracked 0x30000 64 = [0xC00] ∧
    rangePages 0x30000 64 = [0x30000] ∧ dcinvFault untracked 0x30000 = none ∧ (findSector (untracked.cluster 0).l1u 0xC00).isSome = true :=
  ⟨by unfold NoChunk; decide +kernel, ready_of (by decide +kernel), by decide +kernel, by decide +kernel, by decide +kernel,
    by decide +kernel, by decide +kernel, by decide +kernel, by decide +kernel⟩

theorem witness_vectorIssue : vecRoom one.me = true ∧ one.me.held = [] ∧ one.me.vec.vecField ≠ 0 ∧ one.me.vec.accField ≠ 0 ∧
    one.me.vec.cimField ≠ 0 ∧ (one.core (coreOf one.cur)).mown = one.me.vec.ctx ∧ ReadyFull one [1, 2, 3, 20] ∧
    (∀ x : VF, x = ⟨0, 0, 3, 4, 5⟩ → ∀ i ∈ [Instr.vadd x, .vfadd x, .tmma x, .tldb x, .vmsel { x with m := 1 }], fieldReason i = none) :=
  ⟨by decide +kernel, by decide +kernel, by decide +kernel, by decide +kernel, by decide +kernel, by decide +kernel,
    readyFull_of (by decide +kernel), by rintro _ rfl; decide +kernel⟩

/-- VADD v5, v3, v4 and VFADD v6, v3, v4, f0 behind the instruction that stands at the pc, in the instruction cache. -/
def frameWords : List (BitVec 32) := [wordVF 0x1C 0 ⟨0, 0, 4, 3, 5⟩, wordVF 0x1E 0 ⟨0, 0, 4, 3, 6⟩]
def inFrame : State :=
  one.onCore 0 (fun c => { c with
    icache := [⟨placeCode / 64 % 128, placeCode / 64, List.replicate 4 0 ++ (frameWords.map bytesOfWord).flatten ++
      List.replicate 52 0⟩] })

/-- The state after the frame is fetched. -/
def fetched : State := (fetchWords inFrame 0 (inFrame.me.regs.pc + 4) 2 []).1

theorem witness_repeatFrame : (fetchWords inFrame 0 (inFrame.me.regs.pc + 4) 2 []).2 = .got frameWords ∧
    fetched.me.chunk.count = 0 ∧ fetched.me.single = 0 ∧ vecRoom fetched.me = true ∧
    frameWords.all frameWordOk = true ∧ frameWords.all (·.getLsbD 0) = true ∧ RunsThread inFrame ∧ ReadyVec fetched [20] :=
  ⟨by decide +kernel, by decide +kernel, by decide +kernel, by decide +kernel, by decide +kernel, by decide +kernel,
    by unfold RunsThread; decide +kernel,
    readyVec_of (by decide +kernel) (by decide +kernel) (by decide +kernel)⟩

/-- A vtype of EW 32 and of EW 6; a pack of two pointers s4 and s5 that advance by 4 and 8 bytes. -/
theorem witness_lengths : one.me.vec.smax = 0 ∧ one.me.vec.segs = [] ∧ one.me.vq.any writesVl = false ∧
    (chunkVecs one.me).any writesVl = false ∧ ReadyVec one [1, 2, 3] ∧
    ((4 : Word).toNat % 8 < 6 ∧ (1 : Word).toNat % 8 < 6) ∧ fieldReason (.setvli ⟨4, 0, 1, 3⟩) = none ∧
    (let s := (with_ [(1, 100), (2, 17 + 4 * 2 ^ 7 + 8 * 2 ^ 19)]).onMe (fun x => { x with regs := { x.regs with vl := 40, vtype := 4 } })
      let pk := s.me.regs.get 2
      pk.toNat < 2 ^ 55 ∧ pk.toNat / 4 % 32 = 4 ∧ pk.toNat % 4 = 1 ∧ 0 < (s.me.regs.get 1 - s.me.regs.vl).toInt ∧
      (s.me.regs.get 1 - 100).toInt ≤ 0) ∧
    ReadyVec (with_ [(1, 100), (2, 17)]) [1, 2, 4, 5] :=
  ⟨by decide +kernel, by decide +kernel, by decide +kernel, by decide +kernel,
    readyVec_of (by decide +kernel) (by decide +kernel) (by decide +kernel), by decide, by decide, by decide +kernel,
    readyVec_of (by decide +kernel) (by decide +kernel) (by decide +kernel)⟩

/-! ### The vector unit -/

/-- `one` with one instruction at its lanes: `vl` elements under `vt`, mask m3 selecting some, the registers holding numbers. -/
def lanes (code : BitVec 32) (vt vl : Nat) (vals : List Word) (fmt : Word) (dst : List Dst) : State :=
  one.onMe (fun x => { x with
    vq := [⟨.vector code, 0x40, vals, fmt, [], 0, none, dst, []⟩]
    vec := { x.vec with
      vl := word vl
      vtype := word vt
      v := [(4, 0x0000000300000009FFFFFFFF), (5, 0x00000004000000020000000100000003), (8, 0x0000000200000005)]
      m := [(3, 5), (5, 6)]
      ctx := 1 } })
def laneEntry (code : BitVec 32) (vals : List Word) (fmt : Word) (dst : List Dst) : QEntry :=
  ⟨.vector code, 0x40, vals, fmt, [], 0, none, dst, []⟩

def atLanesB (s : State) (k : Nat) (e : QEntry) (code : BitVec 32) : Bool :=
  ((s.slot k).res == .full) && ((s.slot k).vfault == none) && ((s.slot k).vq == [e]) && (e.work == .vector code) &&
  decide ((s.slot k).sys.qmap.toNat < 2 ^ 36) &&
  (k :: (s.slot k).vec.segs).all (fun j => (s.core (coreOf j)).fenced == 0xFFFFFFFF) &&
  (laneReason (s.slot k) (shapeOf (s.slot k).vec e.cap)
    (laneSpec s k (shapeOf (s.slot k).vec e.cap) (VOp.of code e.vals e.fmt e.pc) code) == none)

theorem unbound_of {x : Slot} (h : x.sys.qmap.toNat < 2 ^ 36) (r : Nat) : boundVec x r = none := by
  unfold boundVec
  split
  · next hr =>
    have : (fieldOf x.sys.qmap (6 * (r - 22) + 5) (6 * (r - 22))).testBit 5 = false := by
      have h0 : x.sys.qmap.toNat / 2 ^ (6 * (r - 22)) = 0 := by
        apply Nat.div_eq_of_lt
        exact Nat.lt_of_lt_of_le h (Nat.pow_le_pow_right (by decide) (by omega))
      simp [fieldOf, Nat.shiftRight_eq_div_pow, h0]
    simp [this]
  · rfl

theorem atLanes_of {s : State} {k : Nat} {e : QEntry} {code : BitVec 32} (h : atLanesB s k e code = true) :
    AtLanes s k e [] code := by
  simp only [atLanesB, Bool.and_eq_true, beq_iff_eq, decide_eq_true_eq, List.all_eq_true] at h
  obtain ⟨⟨⟨⟨⟨⟨h1, h2⟩, h3⟩, h4⟩, h5⟩, h6⟩, h7⟩ := h
  exact ⟨.inl h1, h2, h3, h4, unbound_of h5, h6, h7⟩

theorem witness_integerElements : ∀ e ∈ ([(wordVF 0x1C 0 ⟨0, 3, 5, 4, 8⟩, .vadd ⟨0, 3, 5, 4, 8⟩),
      (wordVF 0x1C 5 ⟨0, 0, 5, 4, 8⟩, .vmacc ⟨0, 0, 5, 4, 8⟩), (wordVF 0x1D 0 ⟨1, 3, 5, 4, 8⟩, .vsadd ⟨1, 3, 5, 4, 8⟩),
      (wordVF 0x1D 2 ⟨0, 3, 3, 4, 8⟩, .vnarrow ⟨0, 3, 3, 4, 8⟩), (wordVF 0x1D 3 ⟨0, 3, 1, 4, 8⟩, .vwiden ⟨0, 3, 1, 4, 8⟩)] :
      List (BitVec 32 × Instr)), decodeWord e.1 = .instr e.2 ∧
      AtLanes (lanes e.1 4 3 [] 0 []) 0 (laneEntry e.1 [] 0 []) [] e.1 :=
  fun e h => ⟨by revert e; decide +kernel, atLanes_of (by revert e; decide +kernel)⟩

theorem witness_floatElements : ∀ e ∈ ([(wordVF 0x1E 0 ⟨0, 3, 5, 4, 8⟩, 0, .vfadd ⟨0, 3, 5, 4, 8⟩),
      (wordVF 0x1F 7 ⟨0, 3, 0, 4, 8⟩, 0, .vfcvti ⟨0, 3, 0, 4, 8⟩), (wordVF 0x1F 8 ⟨0, 3, 0, 4, 8⟩, 0, .vfcvtf ⟨0, 3, 0, 4, 8⟩),
      (wordVF 0x1F 6 ⟨0, 3, 0, 4, 8⟩, 0, .vfcvt ⟨0, 3, 0, 4, 8⟩),
      (wordVF 0x1F 6 ⟨0, 0, 5, 4, 8⟩, 0x10003, .vfcvt ⟨0, 0, 5, 4, 8⟩)] : List (BitVec 32 × Word × Instr)),
      decodeWord e.1 = .instr e.2.2 ∧
      AtLanes (lanes e.1 4 32 [] e.2.1 []) 0 (laneEntry e.1 [] e.2.1 []) [] e.1 :=
  fun e h => ⟨by revert e; decide +kernel, atLanes_of (by revert e; decide +kernel)⟩

/-- The conversion to an MX block: FP32 to E4M3 with scale 1. -/
theorem witness_mxBlock : AtLanes (lanes (wordVF 0x1F 6 ⟨0, 0, 5, 4, 8⟩) 2 32 [] 0x10300 []) 0
    (laneEntry (wordVF 0x1F 6 ⟨0, 0, 5, 4, 8⟩) [] 0x10300 []) [] (wordVF 0x1F 6 ⟨0, 0, 5, 4, 8⟩) ∧
    (let sh := shapeOf (lanes (wordVF 0x1F 6 ⟨0, 0, 5, 4, 8⟩) 2 32 [] 0x10300 []).me.vec none
     sh.vl ≠ 0 ∧ sh.vl ≤ sh.max ∧ (5 < 8 ∨ 8 + sh.g ≤ 5)) :=
  ⟨atLanes_of (by decide +kernel), by decide +kernel⟩

theorem witness_comparesAndMasks : ∀ e ∈ ([(wordVF 0x20 2 ⟨0, 3, 5, 4, 2⟩, [], .vcmplt ⟨0, 3, 5, 4, 2⟩),
      (wordVF 0x20 6 ⟨0, 0, 5, 4, 2⟩, [], .vfcmpeq ⟨0, 0, 5, 4, 2⟩), (wordVF 0x21 0 ⟨0, 0, 5, 3, 2⟩, [], .mand ⟨0, 0, 5, 3, 2⟩),
      (wordVF 0x21 6 ⟨0, 0, 0, 1, 2⟩, [2], .mset ⟨0, 0, 0, 1, 2⟩), (wordVF 0x21 7 ⟨0, 3, 0, 0, 8⟩, [], .vidx ⟨0, 3, 0, 0, 8⟩),
      (wordVF 0x21 8 ⟨0, 3, 5, 4, 8⟩, [], .vmsel ⟨0, 3, 5, 4, 8⟩), (wordVF 0x21 4 ⟨0, 3, 0, 5, 9⟩, [], .mffs ⟨0, 3, 0, 5, 9⟩),
      (wordVF 0x21 5 ⟨0, 3, 0, 5, 9⟩, [], .mpop ⟨0, 3, 0, 5, 9⟩)] : List (BitVec 32 × List Word × Instr)),
      decodeWord e.1 = .instr e.2.2 ∧ fieldReason e.2.2 = none ∧
      AtLanes (lanes e.1 4 3 e.2.1 0 [.reg 9]) 0 (laneEntry e.1 e.2.1 0 [.reg 9]) [] e.1 :=
  fun e h => ⟨by revert e; decide +kernel, by revert e; decide +kernel, atLanes_of (by revert e; decide +kernel)⟩

theorem witness_permutes : ∀ e ∈ ([(wordVF 0x22 0 ⟨0, 3, 5, 4, 8⟩, [], .vperm ⟨0, 3, 5, 4, 8⟩),
      (wordVF 0x22 1 ⟨0, 3, 1, 4, 8⟩, [2], .vslup ⟨0, 3, 1, 4, 8⟩), (wordVF 0x22 3 ⟨0, 3, 0, 4, 8⟩, [], .vcmpr ⟨0, 3, 0, 4, 8⟩),
      (wordVF 0x22 6 ⟨0, 0, 2, 1, 8⟩, [7, 31], .vmvxs ⟨0, 0, 2, 1, 8⟩), (wordVF 0x22 7 ⟨0, 0, 1, 4, 9⟩, [2], .vmvsx ⟨0, 0, 1, 4, 9⟩),
      (wordVF 0x22 11 ⟨0, 3, 0, 4, 8⟩, [], .vhist ⟨0, 3, 0, 4, 8⟩)] : List (BitVec 32 × List Word × Instr)),
      decodeWord e.1 = .instr e.2.2 ∧
      AtLanes (lanes e.1 4 3 e.2.1 0 [.reg 9]) 0 (laneEntry e.1 e.2.1 0 [.reg 9]) [] e.1 :=
  fun e h => ⟨by revert e; decide +kernel, atLanes_of (by revert e; decide +kernel)⟩

theorem witness_vectorReductions : (∀ e ∈ ([(wordVF 0x23 0 ⟨0, 3, 1, 4, 9⟩, .vredsum ⟨0, 3, 1, 4, 9⟩),
      (wordVF 0x23 3 ⟨0, 3, 1, 4, 9⟩, .vfredo ⟨0, 3, 1, 4, 9⟩), (wordVF 0x23 4 ⟨0, 3, 1, 4, 9⟩, .vfredf ⟨0, 3, 1, 4, 9⟩),
      (wordVF 0x23 5 ⟨0, 0, 1, 4, 9⟩, .vfredmax ⟨0, 0, 1, 4, 9⟩)] : List (BitVec 32 × Instr)),
      decodeWord e.1 = .instr e.2 ∧
      AtLanes (lanes e.1 4 3 [7] 0 [.reg 9]) 0 (laneEntry e.1 [7] 0 [.reg 9]) [] e.1) ∧
    (let s := one.onMe (fun x => { x with arrivals := [(.reg 9, 5)], wait := .pending 9 })
     (s.slot 0).arrivals = [((9 : Reg), (5 : Word))].map (fun e => (.reg e.1, e.2)) ∧ (s.slot 0).wait = .pending 9) :=
  ⟨fun e h => ⟨by revert e; decide +kernel, atLanes_of (by revert e; decide +kernel)⟩, by decide +kernel⟩

/-- The hypothesis of the vector loads and stores, on one field of one element: its bytes lie in windows of the process. -/
def Reached (s : State) (k w : Nat) (bytewise : Bool) (bit key : Nat) : Prop :=
  (bytewise = true → ∀ t, t < (bit % 8 + w + 7) / 8 → ∃ o, windowOff k (BitVec.ofNat 64 (bit / 8 + t)) = some o ∧
    inWindowRegion (BitVec.ofNat 64 (bit / 8 + t)) = true ∧
    (s.core (windowCore (clusterOf k) o)).owner = some (s.slot k).asidN ∧ winKey (clusterOf k) o = key + t) ∧
  (bytewise = false → bit / 8 % (w / 8) = 0 ∧ ∃ o, windowOff k (BitVec.ofNat 64 (bit / 8)) = some o ∧
    inWindowRegion (BitVec.ofNat 64 (bit / 8)) = true ∧
    (s.core (windowCore (clusterOf k) o)).owner = some (s.slot k).asidN ∧ winKey (clusterOf k) o = key)

def reachedB (s : State) (k w : Nat) (bytewise : Bool) (bit key : Nat) : Bool :=
  let one (a key : Nat) : Bool := match windowOff k (BitVec.ofNat 64 a) with
    | some o => inWindowRegion (BitVec.ofNat 64 a) &&
      ((s.core (windowCore (clusterOf k) o)).owner == some (s.slot k).asidN) && (winKey (clusterOf k) o == key)
    | none => false
  if bytewise then (List.range ((bit % 8 + w + 7) / 8)).all (fun t => one (bit / 8 + t) (key + t))
  else decide (bit / 8 % (w / 8) = 0) && one (bit / 8) key

theorem reached_of {s : State} {k w : Nat} {bytewise : Bool} {bit key : Nat} (h : reachedB s k w bytewise bit key = true) :
    Reached s k w bytewise bit key := by
  have one (a key : Nat) (h : (match windowOff k (BitVec.ofNat 64 a) with
      | some o => inWindowRegion (BitVec.ofNat 64 a) &&
        ((s.core (windowCore (clusterOf k) o)).owner == some (s.slot k).asidN) && (winKey (clusterOf k) o == key)
      | none => false) = true) : ∃ o, windowOff k (BitVec.ofNat 64 a) = some o ∧
      inWindowRegion (BitVec.ofNat 64 a) = true ∧
      (s.core (windowCore (clusterOf k) o)).owner = some (s.slot k).asidN ∧ winKey (clusterOf k) o = key := by
    split at h
    · next o ho =>
      simp only [Bool.and_eq_true, beq_iff_eq] at h
      exact ⟨o, ho, h.1.1, h.1.2, h.2⟩
    · cases h
  unfold reachedB at h
  refine ⟨fun hb t ht => ?_, fun hb => ?_⟩
  · rw [if_pos hb, List.all_eq_true] at h
    exact one _ _ (h t (List.mem_range.2 ht))
  · rw [hb] at h
    simp only [Bool.false_eq_true, if_false, Bool.and_eq_true, decide_eq_true_eq] at h
    exact ⟨h.1, one _ _ h.2⟩

/-- A load of words, a load with a bit offset, and stores of three words, of three 4-bit elements and of two-field structures. -/
theorem witness_vectorMemory : ∀ e ∈ ([
      (wordVMF 0x19 0 ⟨3, 0, 2, 8⟩, .vld ⟨3, 0, 2, 8⟩, 4, [word win], 1, false, fun n _ => 32 * n),
      (wordVMF 0x19 3 ⟨3, 0, 2, 8⟩, .vldff ⟨3, 0, 2, 8⟩, 4, [word win], 1, false, fun n _ => 32 * n),
      (wordVMF 0x19 5 ⟨3, 6, 2, 8⟩, .vldb ⟨3, 6, 2, 8⟩, 4, [word win, 13], 1, true, fun n _ => 13 + 32 * n),
      (wordVMF 0x1A 0 ⟨3, 0, 2, 4⟩, .vst ⟨3, 0, 2, 4⟩, 4, [word win], 1, false, fun n _ => 32 * n),
      (wordVMF 0x1A 0 ⟨0, 0, 2, 4⟩, .vst ⟨0, 0, 2, 4⟩, 0, [word win], 1, true, fun n _ => 4 * n),
      (wordVMF 0x1A 3 ⟨3, 2, 2, 4⟩, .vstseg ⟨3, 2, 2, 4⟩, 4, [word win], 2, false, fun n f => 8 * ((n * 2 + f) * 4))] :
      List (BitVec 32 × Instr × Nat × List Word × Nat × Bool × (Nat → Nat → Nat))),
      decodeWord e.1 = .instr e.2.1 ∧
      (let s := lanes e.1 e.2.2.1 3 e.2.2.2.1 0 []
       let sh := shapeOf s.me.vec none
       AtLanes s 0 (laneEntry e.1 e.2.2.2.1 0 []) [] e.1 ∧ sh.vl = 3 ∧ sh.vstart = 0 ∧ sh.vl ≤ sh.max ∧
       (∀ n f, n < 3 → f < e.2.2.2.2.1 →
         Reached s 0 sh.ew e.2.2.2.2.2.1 (8 * win + e.2.2.2.2.2.2 n f) (2 ^ 52 + e.2.2.2.2.2.2 n f / 8)) ∧
       (∀ p ∈ (List.range 3).product (List.range e.2.2.2.2.1), ∀ q ∈ (List.range 3).product (List.range e.2.2.2.2.1), p ≠ q →
         e.2.2.2.2.2.2 p.1 p.2 + sh.ew ≤ e.2.2.2.2.2.2 q.1 q.2 ∨ e.2.2.2.2.2.2 q.1 q.2 + sh.ew ≤ e.2.2.2.2.2.2 p.1 p.2)) := by
  intro e h
  have hr : ∀ n < 3, ∀ f < e.2.2.2.2.1, reachedB (lanes e.1 e.2.2.1 3 e.2.2.2.1 0 []) 0
      (shapeOf (lanes e.1 e.2.2.1 3 e.2.2.2.1 0 []).me.vec none).ew e.2.2.2.2.2.1 (8 * win + e.2.2.2.2.2.2 n f)
      (2 ^ 52 + e.2.2.2.2.2.2 n f / 8) = true := by revert e; decide +kernel
  refine ⟨?_, atLanes_of ?_, ?_, ?_, ?_, fun n f hn hf => reached_of (hr n hn f hf), ?_⟩
  · clear hr; revert e; decide +kernel
  · clear hr; revert e; decide +kernel
  · clear hr; revert e; decide +kernel
  · clear hr; revert e; decide +kernel
  · clear hr; revert e; decide +kernel
  · clear hr; revert e; decide +kernel

theorem witness_vectorAtomics : ∀ e ∈ ([(wordVAF 0x1B 0 ⟨1, 3, 5, 2, 8⟩, .vamoadd ⟨1, 3, 5, 2, 8⟩),
      (wordVAF 0x1B 7 ⟨0, 0, 5, 2, 8⟩, .vamocas ⟨0, 0, 5, 2, 8⟩), (wordVAF 0x1B 14 ⟨0, 0, 5, 2, 8⟩, .vamoswpNr ⟨0, 0, 5, 2, 8⟩)] :
      List (BitVec 32 × Instr)), decodeWord e.1 = .instr e.2 ∧
      (let s := lanes e.1 4 3 [word win] 0 []
       let sh := shapeOf s.me.vec none
       let addr (n : Nat) : Nat := (win + groupEl sh sh.ew s.me.vec 5 sh.g n * 4) % 2 ^ 64
       let key (n : Nat) : Nat := 2 ^ 52 + (addr n - win)
       AtLanes s 0 (laneEntry e.1 [word win] 0 []) [] e.1 ∧ sh.vl = 3 ∧ sh.vl ≤ sh.max ∧
       (∀ n < 3, Reached s 0 32 false (8 * addr n) (key n) ∧
         contains (segSlot s.me 0 (n / sh.seg)) ((VOp.of e.1 [] 0 0).f) ⟨key n, 1, false, true⟩ = true) ∧
       ∀ n ∈ List.range 3, ∀ n' ∈ List.range 3, n ≠ n' → key n + 4 ≤ key n' ∨ key n' + 4 ≤ key n) := by
  intro e h
  refine ⟨?_, atLanes_of ?_, ?_, ?_, fun n hn => ⟨reached_of ?_, ?_⟩, ?_⟩ <;>
    (try revert n) <;> revert e <;> decide +kernel

/-- A tile that TSET is asked for, the accumulator cleared and read, and a tile pass over a good block. -/
theorem witness_matrixLanes :
    (∀ e ∈ ([(wordVF 0x24 0 ⟨0, 0, 0, 2, 3⟩, .tset ⟨0, 0, 0, 2, 3⟩, 2, [4, 5, 6], 0x033),
        (wordVF 0x24 7 ⟨0, 0, 0, 1, 2⟩, .tzacc ⟨0, 0, 0, 1, 2⟩, 2, [2, 126], 0),
        (wordVF 0x24 6 ⟨0, 0, 0, 8, 3⟩, .trda ⟨0, 0, 0, 8, 3⟩, 4, [1], 0),
        (wordVF 0x24 2 ⟨0, 0, 0, 8, 3⟩, .tmma ⟨0, 0, 0, 8, 3⟩, 2, [1], 0x033)] :
        List (BitVec 32 × Instr × Nat × List Word × Word)),
      decodeWord e.1 = .instr e.2.1 ∧ fieldReason e.2.1 = none ∧
      AtLanes ((lanes e.1 e.2.2.1 3 e.2.2.2.1 e.2.2.2.2 []).onMe (fun x => { x with
        vec := { x.vec with tm := 2, tn := 3, tk := 4, tmode := 0x33 } })) 0
        (laneEntry e.1 e.2.2.2.1 e.2.2.2.2 []) [] e.1) ∧
    (one.core 0).blkBad = false :=
  ⟨fun e h => ⟨by revert e; decide +kernel, by revert e; decide +kernel, atLanes_of (by revert e; decide +kernel)⟩,
    by decide +kernel⟩

/-- VADD with an unaligned register group; a fault that waits, with no chunk open and with one. -/
theorem witness_laneFaults :
    (let code := wordVF 0x1C 0 ⟨0, 3, 5, 4, 8⟩
     let s := lanes code (4 + 8) 3 [] 0 []
     let e := laneEntry code [] 0 []
     (s.slot 0).res = .full ∧ (s.slot 0).vfault = none ∧ (s.slot 0).vq = [e] ∧ e.work = .vector code ∧ majorOf code ≠ 0x26 ∧
      majorOf code ≠ 0x24 ∧ laneReason (s.slot 0) (shapeOf (s.slot 0).vec e.cap)
       (laneSpec s 0 (shapeOf (s.slot 0).vec e.cap) (VOp.of code e.vals e.fmt e.pc) code) = some 6) ∧
    (let f : VFault := ⟨0x14, 0x40, 2, true⟩
     let s := (lanes 0 4 3 [] 0 []).onMe (fun x => { x with vfault := some f })
     (s.slot 0).vfault = some f ∧ (s.slot 0).chunk = .empty ∧ (s.slot 0).held = [] ∧ (s.slot 0).vq.length = 1 ∧ (s.slot 0).wait = .none ∧
       (s.slot 0).answered = false) ∧
    (one.onMe (fun x => { x with wait := .halt })).me.wait = .halt ∧
    (let s := one.onMe (fun x => { x with vfault := some ⟨0x14, 0x40, 2, false⟩ })
     (s.slot 0).chunk = .empty ∧ (s.slot 0).held = [] ∧ (s.slot 0).vq.length = 0) ∧
    (let s := one.onMe (fun x => { x with vfault := some ⟨0x14, 0x40, 2, false⟩, chunk := { x.chunk with count := 1 } })
     (s.slot 0).vfault = some ⟨0x14, 0x40, 2, false⟩ ∧ (s.slot 0).chunk.count ≠ 0 ∧ (s.slot 0).wait = .none) := by decide +kernel

theorem witness_vectorUnitGrantsLength :
    let e : QEntry := ⟨.grant 100 4 1 false, 0x40, [], 0, [], 0, none, [.reg 9], []⟩
    let s := one.onMe (fun x => { x with vq := [e] })
    (s.slot 0).vfault = none ∧ (s.slot 0).vq = [e] ∧ e.work = .grant 100 4 1 false ∧ (s.slot 0).vec.smin = 0 ∧
    (s.slot 0).vec.segs = [] := by decide +kernel

/-! ### Steps of the part -/

theorem witness_waits :
    ((one.onMe (fun x => { x with wait := .pop 0 })).slot 0).wait = .pop 0 ∧
    (let s := one.onMe (fun x => { x with wait := .capacity 0 5 })
     (s.slot 0).wait = .capacity 0 5 ∧ (s.core 5).runq.length + (s.core 5).runResv < 64) ∧
    (let s := (one.onMe (fun x => { x with wait := .capacity 1 2 })).onCore 0 (fun c => { c with sq := [(2, ⟨[1, 2, 3], 5⟩)] })
     (s.slot 0).wait = .capacity 1 2 ∧ (rd ScalarQ.empty (s.core 0).sq 2).elems.length + (rd ScalarQ.empty (s.core 0).sq 2).resv = 8) ∧
    (let s := (one.onMe (fun x => { x with wait := .ifetch 7 7 })).onCore 0 (fun c => { c with fills := [(7, 7)] })
     (s.core 0).fills = (7, 7) :: [] ∧ Listed s 0 ∧ coreOf 0 = 0 ∧ (s.slot 0).wait = .ifetch 7 7) := by
  unfold Listed; decide +kernel

theorem witness_sleepers : ∀ c ∈ [some (0 : Nat), some 5, none], ∀ irq ∈ [false, true],
    let s := one.onMe (fun x => { x with wait := .sleep c 3, preempt := if irq then some 0 else none })
    (s.slot 0).wait = .sleep c 3 ∧ isBound (s.slot 0) 3 = false ∧ sleepEvent s 0 = irq := by decide +kernel

theorem witness_interrupts : ∀ w ∈ [Wait.none, .halt], ∀ n ∈ [0, 3],
    let s := one.onMe (fun x => { x with wait := w, irq := true, preempt := some 0, chunk := { x.chunk with count := n } })
    (s.slot 0).res = .full ∧ (s.slot 0).pairSince = none ∧ (s.slot 0).wait = w ∧ (s.slot 0).ie = true ∧ (s.slot 0).gfx = false ∧ (s.slot 0).answered = false ∧
      (s.slot 0).vfault = none ∧
      (s.slot 0).chunk.count = n ∧
    (let u := s.onMe (fun x => { x with sys := { x.sys with status := 0x40 } })
     (u.slot 0).ie = false ∧ (u.slot 0).gfx = true) := by decide +kernel

theorem witness_pairTimeout : ∀ c ∈ [0, 256 * 1600, 256 * 1600 - 1], ∀ p ∈ [none, some 1],
    let s := { one.onMe (fun x => { x with pairSince := some 0, preempt := p }) with cycle := c }
    (s.slot 0).pairSince = some 0 := by decide +kernel

def travelling : State := one.onMe (fun x => { x with res := .light, wait := .migrate 7 0 true })

theorem witness_lightTravel :
    (let s := { travelling with rdy := 1 }
     (s.slot 0).wait = .migrate 7 0 true ∧ (s.core 7).runq.length + (s.core 7).runResv < 64 ∧ clusterReadyBit s (7 / 192) = true ∧
     liveOf (s.core 7) ≠ 0 ∧ storesQueued s 0 = false) ∧
    (∀ access ∈ [true, false], ∀ c ∈ [0, 3200],
      let s := { (one.onMe (fun x => { x with res := .light, wait := .migrate 7 0 access })).onCore 7
        (fun c => { c with runResv := 64 }) with cycle := c }
      (s.slot 0).wait = .migrate 7 0 access ∧ 64 ≤ (s.core 7).runq.length + (s.core 7).runResv ∧ s.cycle = c ∧
      (s.slot 0).chunk = .empty ∧ (s.slot 0).vq = [] ∧ (s.slot 0).held = []) ∧
    clusterReadyBit { travelling with rdy := 0 } (7 / 192) = false ∧
    liveOf ((travelling.onCore 7 (fun c => { c with lanemap := 0 })).core 7) = 0 := by decide +kernel

theorem witness_outsideWrites :
    let s := one.onMe (fun x => { x with chunk := { x.chunk with count := 2, rset := [9], ckpt := some x.regs } })
    clusterOf 0 = 0 ∧ Listed s 0 ∧ 9 ∈ (s.slot 0).chunk.rset ∧ (s.slot 0).chunk.sure = false := by unfold Listed; decide +kernel

theorem witness_fetchTraps : RunsThread one ∧ NoChunk one ∧
    (let s := one.onMe (fun x => { x with chunk := { x.chunk with count := 2 } })
     RunsThread s ∧ s.me.chunk.count ≠ 0) := by unfold RunsThread NoChunk; decide +kernel

/-- A task of the queue of entry 1 that runs `descr`, with its launch; a part whose units are ready and whose slot 0 runs. -/
def ready1 : QTask :=
  { desc := BitVec.ofNat 512 descr, seq := 1, launch := 1, next := 0, tiles := 0, readyAt := 0, aged := 0, led := some 0
    nowhere := some 0, cand := none, fallback := false, overdue := false, ctr := 0x30400, enq := 0, core := none, victims := [], replay := false }
def launch1 : Launch :=
  { key := 1, handle := 1, left := 1, failed := false, started := false, dies := [], dmax := 8, dmin := 0, first := 0
    groupDie := none, isTranslation := false, arg := 0, doneVa := 0x30800, irq := false, msix := 0
    ptbase := word placeTables, home := 0, peers := 0, remote := none, ended := 0 }
def waiting (q : QueueSt) (u : QTask) (l : Launch) : State :=
  { tabled [] with
    rdy := BitVec.allOnes 64
    queues := [(1, some { q with tasks := [u] })]
    launches := [(1, some l)] }

/-- What the second and third clauses of the dispatch assume of a cluster and a die. -/
def startsOne (s : State) (c die : Nat) : Bool :=
  match choose s c (candidates s c die) with
  | some (s1, e) => (match tryUnit s1 c e.key, s1.queue e.key with
    | some (_, u), some q => !q.resume && !isGang u && unitSize u == 1
    | _, _ => false)
  | none => false

theorem witness_dispatch :
    (let s := waiting taskQ ready1 launch1
     clusterReadyBit s 0 = true ∧ (s.cluster 0).stopped = false ∧ packetCore s 0 = none ∧ (s.cluster 0).reserve = [] ∧
     (s.cluster 0).turnAt = none ∧ staleDeficits s 0 = [] ∧ startsOne s 0 0 = true) ∧
    (let s := (waiting taskQ ready1 launch1).onCluster 3 (fun c => { c with idle := 4 })
     clusterReadyBit s 3 = true ∧ (s.cluster 3).stopped = false ∧ 4 ≤ (s.cluster 3).idle ∧ (s.cluster 3).reserve = [] ∧
     hasFreeSlot s 3 = true ∧ (s.cluster 3).turnAt = none ∧
     packetCore s 3 = none ∧ candidates s 3 1 = [] ∧ (∀ j ∈ [1, 2, 3, 4, 5, 6], candidates s 3 ((1 + j) % 8) = []) ∧ startsOne s 3 ((1 + 7) % 8) = true) ∧
    (let p : Packet := ⟨0x20000, [1, 2, 3, 4, 5, 6, 7, 8, 9, 10], 1, false, false, 0, 0, SysRegs.zero, TaskInfo.none, [], true⟩
     let s := ({ one with rdy := 1 }).onCore 2 (fun c => { c with runq := [p] })
     clusterReadyBit s 0 = true ∧ (packetCore s 0).map (fun e => e.1) = some 2 ∧ p.regs.length = 10 ∧
     2 / 192 = 0 ∧ (s.core 2).runq = [p] ∧ liveOf (s.core 2) ≠ 0 ∧ (s.cluster 0).reserve = [] ∧ (s.cluster 0).turnAt = none ∧
     (∀ e ∈ s.cores, e.1 / 192 = 0 → e.1 ≠ 2 → e.2.runq = []) ∧ (s.slot 32).res = .empty ∧
     ∀ j < 32, j / 16 = 2 → (s.slot j).res ≠ .empty) := by decide +kernel

/-- A light task, the only one of the machine, with cluster 3 of its partition idle. -/
def lightTask : QTask := { ready1 with desc := BitVec.ofNat 512 (descr + 2 ^ 225) }
def lightWaits : State := (waiting taskQ lightTask launch1).onCluster 3 (fun c => { c with idle := 4 })

theorem witness_dispatchLight : (∀ c ∈ [0, 3], clusterReadyBit lightWaits c = true ∧ (lightWaits.cluster c).stopped = false ∧
      (lightWaits.cluster c).reserve = [] ∧ (lightWaits.cluster c).turnAt = none) ∧
    LightTaskWaits lightWaits 0 1 { taskQ with tasks := [lightTask] } lightTask ∧ taskQ.home = 0 / 3 ∧
    LightTaskWaits lightWaits 3 1 { taskQ with tasks := [lightTask] } lightTask ∧ taskQ.home ≠ 3 / 3 ∧
    4 ≤ (lightWaits.cluster 3).idle :=
  ⟨by decide +kernel,
    ⟨rfl, by decide +kernel, by decide +kernel, ⟨launch1, rfl, rfl, rfl⟩, by decide +kernel, by decide +kernel,
      ⟨0, rfl, by decide +kernel, 1, rfl, by decide +kernel⟩⟩, rfl,
    ⟨rfl, by decide +kernel, by decide +kernel, ⟨launch1, rfl, rfl, rfl⟩, by decide +kernel, by decide +kernel,
      ⟨576, rfl, by decide +kernel, 9216, rfl, by decide +kernel⟩⟩, by decide, by decide +kernel⟩

/-- A launch of one task at glevel 5 that a peer takes counts as left until the peer reports its end (R327). -/
theorem test_peerTakes :
    let t5 : QTask := { ready1 with desc := BitVec.ofNat 512 (descr + 2 ^ 224 + 2 ^ 256 + (5 - descr / 2 ^ 192 % 256) * 2 ^ 192) }
    let s : State := { waiting taskQ t5 launch1 with links := [(0, some 3)], dev := [(0xF00000000018, some 8)] }
    peersJoined s = true ∧ peerCandidates s = [1] ∧ ((peerTakes s 1).queue 1).map (fun q => q.tasks.length) = some 0 ∧
    ((peerTakes s 1).launch 1).map (fun l => (l.left, l.peers, l.started)) = some (1, 1, true) ∧
    ((peerEnds (peerTakes s 1) 1).launch 1).map (fun l => (l.left, l.peers)) = some (0, 0) := by decide +kernel

/-- Destroying a process (R54, R380, R410): its run-queue packet and its translation go, another's stay, and its lease is back. -/
theorem test_destroyed_process :
    let x : Slot := { Slot.empty with
      res := .full, sys := { SysRegs.zero with asid := 1, lease := word (0x4000000700000BB8) } }
    let p (a : Nat) : Packet := packetOf { Slot.empty with sys := { SysRegs.zero with asid := word a } } 40
    let s : State := { State.reset with
      slots := [(16, x)]
      cores := [(0, { CoreSt.reset with runq := [p 1, p 2] })]
      translations := [⟨1, [], 0, 0, (0, 0, 0), [], some []⟩, ⟨2, [], 0, 0, (0, 0, 0), [], some []⟩] }
    let t := destroyProcess s 1
    (t.core 0).runq = [p 2] ∧ t.translations.map (fun u => u.asid) = [2] ∧ (t.slot 16).res = .empty ∧
      rd 0 t.pool 0 = rd 0 s.pool 0 + 6000 := by decide +kernel

theorem witness_waitingTasks : ∀ c ∈ [0, 20 * 1600, 10000 * 1600],
    let s := { waiting { taskQ with cls := 5 } ready1 launch1 with cycle := c, dev := [(0xF00000010000, some 0x0000000500000000)] }
    s.queue 1 = some { taskQ with cls := 5, tasks := [ready1] } ∧
    [ready1].find? (fun u => u.seq == 1 && u.tiles == 0) = some ready1 ∧
    fieldOf (s.dreg 0xF00000010000) 39 32 * 100 * 1600 = 5 * 100 * 1600 ∧
    leadOf { taskQ with tasks := [{ ready1 with cand := some 0 }] } = some { ready1 with cand := some 0 } ∧
    leadOf { taskQ with tasks := [ready1], resume := true } = some ready1 := by decide +kernel

theorem witness_preemption :
    let q : QueueSt := { taskQ with tasks := [ready1] }
    let s := { (waiting taskQ ready1 launch1).onMe (fun x => { x with task := { x.task with cls := 7 } }) with
      cycle := 100000000, launches := [] }
    (s.queues = [] ++ (1, some q) :: []) ∧ q.home = 0 / 3 ∧ leadOf q = some ready1 ∧ nowhereNow s 1 = true ∧
    victimOf q (victims s 0 q ready1) = some (0, s.slot 0) ∧ q.raised = false ∧ ready1.victims = [] ∧ asksAt s 0 q ready1 = true ∧ ready1.nowhere = some 0 ∧ 0 + 10 * 1600 ≤ s.cycle ∧
    (let q' : QueueSt := { q with raised := true }
     victimOf q' (victims { s with queues := [(1, some q')] } 0 q' ready1) = some (0, s.slot 0) ∧
     nowhereNow { s with queues := [(1, some q')] } 1 = true ∧
     (∀ e ∈ s.slots, e.2.preempt ≠ some 1) ∧ 0 < unitSize ready1 ∧ effClass q' ready1 < (s.slot 0).task.cls ∧
     effClass q ready1 < (s.slot 0).task.cls) := by decide +kernel

/-- Two threads of a gang in one core (level 1) or one cluster (level 2). -/
def gang (level : Nat) : QTask :=
  { ready1 with desc := BitVec.ofNat 512 (descr + level * 2 ^ 192 + 2 ^ 200 + 2 ^ 224 + 4 * 2 ^ 256) }

theorem witness_gangs : ∀ level ∈ [1, 2], ∀ c ∈ [0, 100 * 1600],
    let s := { waiting taskQ (gang level) launch1 with cycle := c }
    s.queue 1 = some { taskQ with tasks := [gang level] } ∧ leadOf { taskQ with tasks := [gang level] } = some (gang level) ∧
    isGang (gang level) = true ∧ (gang level).led = some 0 ∧ s.launch 1 = some launch1 ∧ launch1.dies = [] ∧
    (∀ e ∈ s.clusters, ∀ r ∈ e.2.reserve, ¬ (r.1 = 1 ∧ r.2.1 = (gang level).seq)) ∧
    0 < 24 ∧ clusterReadyBit s 0 = true ∧ partOf s 0 = partOf s (3 * 0) ∧
    dGlevel (gang level).desc = level := by decide +kernel

/-- What an access of another unit than a slot finds, to be computed. -/
def located (r : State × Found Loc) (p : State → Loc → Bool) : Bool :=
  match r with
  | (s, .ok l) => p s l
  | _ => false

theorem located_of {r : State × Found Loc} {p : State → Loc → Bool} (h : located r p = true) :
    ∃ s l, r = (s, .ok l) ∧ p s l = true := by
  unfold located at h
  split at h
  · next s l => exact ⟨s, l, rfl, h⟩
  · cases h

def complete (f irq : Bool) (d : Word) : State :=
  waiting taskQ ready1 { launch1 with left := 0, failed := f, started := true, irq := irq, doneVa := d }

/-- A launch of peer 3 whose two ended threads are still to be reported, without and with a reduction of it on its way. -/
theorem witness_peerLaunch : let s := waiting taskQ ready1 { launch1 with remote := some (3, 7), ended := 2 }
    s.launch 1 = some { launch1 with remote := some (3, 7), ended := 2 } ∧ redsOf s 1 = false ∧
    redsOf { s with reds := [{ red0 with task := { TaskInfo.none with launch := 1 } }] } 1 = true := by decide +kernel

theorem witness_launches :
    (∀ f irq d,
      (complete f irq d).launch 1 = some { launch1 with left := 0, failed := f, started := true, irq := irq, doneVa := d } ∧
      redsOf (complete f irq d) 1 = false ∧ launch1.remote = none ∧ launch1.msix < 64) ∧
    (complete false true 0).rdy.getLsbD (40 + (portOfProc (complete false true 0) 0).1) = true ∧
    (∃ s1 loc, resolve { complete false false 0x30800 with launches := [] } (0 * 9216) (keyAsid 1) (word placeTables) 0x30800
        { wantBoth with user := false, unit := true } = (s1, .ok loc) ∧
      (loc.tracked && loc.kind == 0 && !loc.disc && (s1.launch 1).isNone) = true) :=
  ⟨fun _ _ _ => ⟨rfl, rfl, rfl, by decide⟩, by decide +kernel, located_of (by decide +kernel)⟩

/-- The hypotheses about bytes and a table in the windows of a process, to be computed. -/
def ownB (s : State) (k asid : Nat) (va : Word) : Bool :=
  canonical va && inWindowRegion va && (match windowOff k va with
    | some o => (s.core (windowCore (clusterOf k) o)).owner == some asid
    | none => false)
def ownVal (s : State) (k : Nat) (va : Word) (n : Nat) : Nat := s.le (winKey (clusterOf k) ((windowOff k va).getD 0)) n

theorem own_of {s : State} {k asid : Nat} {va : Word} {n v : Nat} (h : ownB s k asid va = true) (hv : ownVal s k va n = v) :
    OwnBytes s k asid va n v := by
  simp only [ownB, Bool.and_eq_true] at h
  obtain ⟨⟨h1, h2⟩, h3⟩ := h
  split at h3
  · next o ho => exact ⟨h1, h2, o, ho, by simpa using h3, by rw [← hv, ownVal, ho, Option.getD_some]⟩
  · cases h3

/-- The process's tables set, and its queue table also in its core's window, where the queue of entry 1 has it. -/
def windowed (res : Bool) : State :=
  { ((tabled []).putLe (2 ^ 52) 64 (1 + 4 * 256)).putLe (2 ^ 52 + 64) 64 (qEntry 0 0x30C00 4 0x30400 0x30800 2) with
    queues := [(1, some { taskQ with qtbase := word win, resident := res })]
    procs := [(0, some ⟨word placeTables, word win, 0⟩)] }
def entry1 : QEnt := ⟨qEntry 0 0x30C00 4 0x30400 0x30800 2⟩

theorem stands_windowed {s : State} {res : Bool} (hq : s.queue 1 = some { taskQ with qtbase := word win, resident := res })
    (h : (ownB s 0 0 (word win) && ownVal s 0 (word win) 64 == 1 + 4 * 256 && ownB s 0 0 (word (win + 64)) &&
      ownVal s 0 (word (win + 64)) 64 == entry1.raw) = true) : HandleStands s 0 0 (word win) 1 entry1 := by
  simp only [Bool.and_eq_true, beq_iff_eq] at h
  refine ⟨⟨_, own_of h.1.1.1 h.1.1.2, by decide, by decide +kernel, by decide, by decide⟩, ?_, by decide +kernel⟩
  cases res
  · exact .inr ⟨fun q h1 => by
      have h2 : s.queue (queueKey 0 1) = s.queue 1 := rfl
      rw [h2, hq, Option.some.injEq] at h1
      rw [← h1], own_of h.1.2 h.2⟩
  · exact .inl ⟨_, hq, rfl, rfl, rfl⟩

/-- The thread under a table in its window whose entry 1 is the scalar queue 3; with s24 bound to it, and queued vector work that
reserves a push through it. -/
def scalarEntry : QEnt := ⟨3 + 2 * 2 ^ 160 + 2 ^ 163⟩
def binding (busy : Bool) : State :=
  (((with_ [(1, 1)]).putLe (2 ^ 52) 64 (1 + 4 * 256)).putLe (2 ^ 52 + 64) 64 scalarEntry.raw).onMe (fun x => { x with
    sys := { x.sys with qtbase := word win, qmap := if busy then 32 else 0 }
    ports := if busy then [(0, some ⟨1, 0, 2, 3, 0, none, none, false⟩)] else []
    arrivals := if busy then [(.push 24 (.scalarQ 0 3 1), 5)] else [] })

theorem bindings_of {busy : Bool} (h : (readyB (binding busy) [1, 31] && !(binding busy).me.light) = true ∧
      ownB (binding busy) 0 0 (word win) = true ∧ ownVal (binding busy) 0 (word win) 64 = 1 + 4 * 256 ∧
      ownB (binding busy) 0 0 (word (win + 64)) = true ∧ ownVal (binding busy) 0 (word (win + 64)) 64 = scalarEntry.raw ∧
      (binding busy).queue (queueKey 0 1) = none) :
    ReadyFull (binding busy) [1, 31] ∧ HandleStands (binding busy) 0 0 (word win) 1 scalarEntry :=
  ⟨readyFull_of h.1, ⟨⟨_, own_of h.2.1 h.2.2.1, by decide, by decide +kernel, by decide, by decide⟩,
    .inr ⟨fun q h1 => (by rw [h.2.2.2.2.2] at h1; cases h1), own_of h.2.2.2.1 h.2.2.2.2.1⟩, by decide +kernel⟩⟩

theorem witness_bindingsInWindow :
    (ReadyFull (binding false) [1, 31] ∧ HandleStands (binding false) 0 0 (word win) 1 scalarEntry) ∧
    (ReadyFull (binding true) [1, 31] ∧ HandleStands (binding true) 0 0 (word win) 1 scalarEntry) ∧
    scalarEntry.kind = 2 ∧ kindAllowed 0 2 = true ∧ reasonQbind ⟨0, 31, 1, 24⟩ = none ∧
    windowBusy (binding false).me (windowNo 0 24) = false ∧ windowBusy (binding true).me (windowNo 0 24) = true ∧
    NoChunk (binding false) ∧ NoChunk (binding true) ∧ (binding true).me.port 1 = none :=
  ⟨bindings_of (by decide +kernel), bindings_of (by decide +kernel), by decide +kernel, by decide, by decide, by decide +kernel,
    by decide +kernel, by unfold NoChunk; decide +kernel, by unfold NoChunk; decide +kernel, by decide +kernel⟩

/-- The thread under the table in its window, with the descriptor, and a job card of one tile, behind it in the window. -/
def cardWord : Nat := descr + (0x30200 + 64 * 2 ^ 64 + 0x100 * 2 ^ 96) * 2 ^ 512
def enqueuer : State :=
  ((windowed true).putLe (2 ^ 52 + 0x200) 128 cardWord).onMe (fun x => { x with
    regs := { x.regs with s := (((x.regs.set 1 (word (win + 0x200))).set 2 1).s) }
    sys := { x.sys with qtbase := word win } })

theorem witness_enqueuesInWindow : Ready enqueuer [1, 2, 3] ∧ enqueuer.me.answer = none ∧ enqueuer.me.chunk.stores = [] ∧
    acquireQueued enqueuer.me = false ∧ enqueuer.poison = [] ∧ HandleStands enqueuer 0 0 (word win) 1 entry1 ∧ entry1.kind ≤ 1 ∧
    (enqueuer.ctr 0x30400).map (fun c => (c.asid, c.parked)) = some (0, []) ∧ allowOf enqueuer 0 0x30400 = some (5, 5) ∧
    (word (win + 0x200)).toNat % 128 = 0 ∧ OwnBytes enqueuer 0 0 (word (win + 0x200)) 64 descr ∧
    descOk (BitVec.ofNat 512 descr) = true ∧ OwnBytes enqueuer 0 0 (word (win + 0x200)) 128 cardWord ∧
    (let d := dSet (dSet (BitVec.ofNat 512 cardWord) 229 229 0) 511 448 0
     (cardTiles (cardWord / 2 ^ 512)).isSome = true ∧ descOk d = true ∧ dLaunch d = false ∧ dGlevel d ≤ 1) :=
  ⟨ready_of (by decide +kernel), by decide +kernel, by decide +kernel, by decide +kernel, by decide +kernel,
    stands_windowed (res := true) rfl (by decide +kernel), by decide +kernel, by decide +kernel, by decide +kernel,
    by decide +kernel, own_of (by decide +kernel) (by decide +kernel), by decide +kernel,
    own_of (by decide +kernel) (by decide +kernel), by decide +kernel⟩

/-- The state with the queue of entry 1 out of its home, the process's tables set, and slot 0 waiting for it. -/
def away : State :=
  { tabled [] with
    queues := [(1, some { taskQ with resident := false })]
    procs := [(0, some ⟨word placeTables, 0x30000, 0⟩)] }
def awayWaited : State := away.onMe (fun x => { x with wait := .queueMiss 1 false })

/-- An entry that is read, to be computed. -/
def entryIs (r : State × (QEnt ⊕ Cause)) (p : State → QEnt → Bool) : Bool :=
  match r with
  | (s, .inl e) => p s e
  | _ => false

theorem entryIs_of {r : State × (QEnt ⊕ Cause)} {p : State → QEnt → Bool} (h : entryIs r p = true) :
    ∃ s e, r = (s, .inl e) ∧ p s e = true := by
  unfold entryIs at h
  split at h
  · next s e => exact ⟨s, e, rfl, h⟩
  · cases h

def backOk (s1 : State) (e : QEnt) : Bool :=
  e.kind == 0 && e.f 159 156 == 0 &&
  (backingPrefix s1 (queueOfEntry s1 0 0x30000 (word placeTables) 1 e) (64 + 64 * (e.f 151 128 + 1))).isSome &&
  (match backingPrefix s1 (queueOfEntry s1 0 0x30000 (word placeTables) 1 e) 64 with
  | some ps => (ps.flatMap (fun p => rdMany unlistedByte s1.mem p.1 p.2)).take 64 == headerBytes 0
  | none => false)

theorem witness_queuesComeBack :
    (∀ s ∈ [awayWaited, away.onDie 0 (fun d => { d with pending := [1] })],
      s.queue 1 = some { taskQ with resident := false } ∧ residentCount s 0 < queueLimit s 0 ∧ assisted s 0 1 = false ∧
      (∃ s1 e, readEntry s 0 0 (word placeTables) 0x30000 1 true = (s1, .inl e) ∧ backOk s1 e = true)) ∧
    awayWaited.slots.any (fun e => e.2.wait == .queueMiss 1 false) = true ∧
    ((away.onDie 0 (fun d => { d with pending := [1] })).die 0).pending = 1 :: [] ∧
    taskQ.lost = false ∧ taskQ.hostMode = false ∧
    (let s := away.onMe (fun x => { x with wait := .queueMiss 1 true })
     Listed s 0 ∧ (s.slot 0).wait = .queueMiss 1 true ∧ s.heldWrites = [] ∧ throughPort (s.slot 0) 1 = false ∧
     awaitedRelease s 1 = false ∧ (∀ e ∈ s.slots, e.2.wait ≠ .queueMiss 1 false)) ∧
    (∀ c ∈ [0, 50 * 1600],
      let s := { away.onDie 0 (fun d => { d with pending := [1] }) with
        cycle := c, queues := [(1, some { taskQ with resident := false, hostMode := true })] }
      (s.die 0).pending = [1] ∧ (∀ k ∈ [1], (s.queue k).isSome = true ∧ partPending s k = false) ∧ taskQ.posted = false ∧
      taskQ.joined = 0) := by
  refine ⟨fun s h => ⟨?_, ?_, ?_, entryIs_of ?_⟩, ?_, ?_, ?_⟩
  · revert s; decide +kernel
  · revert s; decide +kernel
  · revert s; decide +kernel
  · revert s; decide +kernel
  · decide +kernel
  · decide +kernel
  · exact ⟨rfl, rfl, by unfold Listed; decide +kernel, by decide +kernel⟩

/-- A held write of the host for the queue that has not been posted, as the second way back of a queue. -/
theorem witness_heldWrite : let h : HeldWrite := ⟨0, 0, 1, 0, 1, 0, 0x30000, word placeTables, false⟩
    let s := { away with heldWrites := [h] }
    (∃ h ∈ s.heldWrites, h.key = 1 ∧ h.posted = false) ∧ s.queue 1 = some { taskQ with resident := false } :=
  ⟨⟨⟨0, 0, 1, 0, 1, 0, 0x30000, word placeTables, false⟩, .head _, rfl, rfl⟩, by decide +kernel⟩

/-- A queue whose table lies in a window, waited for by slot 0 and pending at its home, with a fresh backing store. -/
def windowedAway : State :=
  ((windowed false).onMe (fun x => { x with wait := .queueMiss 1 false })).onDie 0 (fun d => { d with pending := [1] })

theorem witness_queuesComeBackInWindow : windowedAway.queue 1 = some { taskQ with qtbase := word win, resident := false } ∧
    HandleStands windowedAway (0 * 9216) (keyAsid 1) (word win) 1 entry1 ∧ residentCount windowedAway 0 < queueLimit windowedAway 0 ∧
    assisted windowedAway 0 1 = false ∧ queueKey (keyAsid 1) 1 = 1 ∧ entry1.kind = 0 ∧ entry1.f 159 156 = 0 ∧
    (backingPrefix windowedAway (queueOfEntry windowedAway (keyAsid 1) (word win) (word placeTables) 1 entry1)
      (64 + 64 * (entry1.f 151 128 + 1))).isSome = true ∧
    (match backingPrefix windowedAway (queueOfEntry windowedAway (keyAsid 1) (word win) (word placeTables) 1 entry1) 64 with
     | some ps => ps.all (fun p => (List.range p.2).all (fun i => byteAt windowedAway (p.1 + i) == 0))
     | none => false) = true ∧
    (windowedAway.slot 0).wait = .queueMiss 1 false ∧ windowedAway.heldWrites = [] ∧ (windowedAway.die 0).pending = 1 :: [] :=
  ⟨rfl, stands_windowed (res := false) rfl (by decide +kernel), by decide +kernel, by decide +kernel, by decide, by decide +kernel,
    by decide +kernel, by decide +kernel, by decide +kernel, by decide +kernel, by decide +kernel, by decide +kernel⟩

/-- An entry of qctl, to be computed. -/
theorem witness_queueControl :
    (let s := { away with queues := [(1, some taskQ)] }
     s.queue (queueKey 0 1) = some taskQ ∧ taskQ.resident = true ∧ taskQ.home = 0 ∧ taskQ.handle = 1 ∧
     ((qctlEntry s 0 0 1).2.isSome) = true ∧ (∀ q, (qctlEntry s 0 0 1).1.queue (queueKey 0 1) = some q → q.handle = 1) ∧
     ((qctlEntry s 0 0 9).2.isNone) = true ∧ storeWf none s.queues = true) ∧
    (away.queue (queueKey 0 1) = some { taskQ with resident := false }) ∧
    8 < fieldOf 9 3 0 ∧ fieldOf 8 3 0 ≤ 8 := by
  refine ⟨⟨by decide +kernel, rfl, rfl, rfl, by decide +kernel, fun q h => ?_, by decide +kernel, by decide +kernel⟩,
    by decide +kernel, by decide, by decide⟩
  have : ((qctlEntry { away with queues := [(1, some taskQ)] } 0 0 1).1.queue (queueKey 0 1)).all (fun q => q.handle == 1) = true := by
    decide +kernel
  rw [h] at this
  simpa using this

/-! The homes of split counters. -/

/-- A counter at 0x30400 with a total of 100, held by the clusters of `hs`, that is asked `r`; cluster 0 holds an allowance. -/
def counter1 (hs : List Nat) (r : List CtrReq) : Ctr := ⟨0, 100, hs, false, [], [], [], r, [], 0⟩
def homed (c : Ctr) : State := { tabled [] with ctrs := [(0x30400, some c)] }

theorem witness_homesServeTakes :
    (∀ kind ∈ [0, 1, 6], ∀ v ∈ [1, 105, 1000], ∀ hs ∈ [[0], [0, 1]],
      let c := counter1 hs [⟨0, kind, v, 0, 5⟩]
      (homed c).ctr 0x30400 = some c ∧ c.asked = ⟨0, kind, v, 0, 5⟩ :: [] ∧ c.recalling = false ∧ c.parked = [] ∧
      inTier3 0x30400 = false ∧ c.gives = [] ∧ c.away = [] ∧ assisted (homed c) (homeOf 0x30400 % 8 * 3) 3 = false ∧
      allowOf (homed c) 0 0x30400 = some (5, 5) ∧
      (addOnce c.holders 0).length = hs.length) ∧
    (1 ≤ 5 + min 100 (max 1 ((100 + 2 * 1 - 1) / (2 * 1))) ∧ 5 + min 100 (max 1000 ((100 + 2 * 1 - 1) / (2 * 1))) < 1000) ∧
    (∀ kind ∈ [0, 1, 6], ∀ v ∈ [100, 101], ∀ hs ∈ [[], [0]],
      let c := counter1 hs [⟨0, kind, v, 0, 5⟩]
      let s := { homed c with hmode := [(0, 0x08)] }
      s.ctr 0x30400 = some c ∧ c.recalling = false ∧ c.parked = [] ∧ assisted s (homeOf 0x30400 % 8 * 3) 3 = true) ∧
    (let c := counter1 [0] [⟨0, 2, 7, 0, 5⟩]
     (homed c).ctr 0x30400 = some c ∧ c.parked = [] ∧ c.rem + lentSum (homed c) 0x30400 c + 7 ≤ 2 ^ 63 - 1) ∧
    (∀ kind ∈ [3, 4, 5], ∀ rc ∈ [false, true], let c := { counter1 [0] [⟨0, kind, 1, 0, 5⟩] with recalling := rc }
      (homed c).ctr 0x30400 = some c ∧ c.asked = ⟨0, kind, 1, 0, 5⟩ :: [] ∧ c.recalling = rc) := by decide +kernel

theorem witness_homesTakeGives :
    (∀ rc ∈ [false, true], ∀ n ∈ [7, 2 ^ 63 - 1 - 105, 2 ^ 63 - 1 - 104], let c := { counter1 [0] [] with gives := [(1, n)], recalling := rc }
      (homed c).ctr 0x30400 = some c ∧ c.gives = (1, n) :: [] ∧
      (c.holders.map (fun h => ((allowOf (homed c) h 0x30400).map Prod.snd).getD 0)).sum + (c.away.map (fun e => e.2.getD 0)).sum = 5) ∧
    (let c := { counter1 [0] [] with gives := [(1, 7)], parked := [⟨0, 6, 1, 0, 0⟩], rem := 0 }
     (homed c).ctr 0x30400 = some c ∧ c.parked = [⟨0, 6, 1, 0, 0⟩] ∧ c.recalling = false ∧ 1 ≤ c.rem + 7) ∧
    (let c := { counter1 [0, 1] [] with away := [(1, some 3)] }
     (homed c).ctr 0x30400 = some c ∧ c.gives = [] ∧ c.away = (1, some 3) :: [] ∧ c.recalling = false ∧
     allowOf (homed c) 1 0x30400 = none ∧ c.parked = [] ∧ c.rem + lentSum (homed c) 0x30400 { c with away := [], holders := [0] } + 3 ≤ 2 ^ 63 - 1) ∧
    (∀ n ∈ [0, 1], let c := { counter1 [0] [] with parked := [⟨0, 6, 1, 0, 0⟩], rem := n }
      (homed c).ctr 0x30400 = some c ∧ c.parked = ⟨0, 6, 1, 0, 0⟩ :: [] ∧ c.recalling = false ∧ c.rem = n) := by decide +kernel

theorem witness_rounds :
    (let c := { counter1 [0] [] with recalling := true, away := [(0, none)] }
     (homed c).ctr 0x30400 = some c ∧ c.recalling = true ∧ (0, none) ∈ c.away ∧ c.away ≠ [] ∧
     (homed c).cycle < c.since + 12 * 1600 ∧ c.since + 12 * 1600 ≤ ({ homed c with cycle := 19200 } : State).cycle) ∧
    (let c := { counter1 [0] [] with recalling := true }
     (homed c).ctr 0x30400 = some c ∧ c.away = [] ∧ c.parked = [] ∧ c.fifo = []) ∧
    (∀ kind ∈ [0, 1, 2, 3, 4, 5, 6, 7], ∀ v ∈ [1, 100, 101],
      let c := { counter1 [] [] with recalling := true, fifo := [⟨0, kind, v, 0, 0⟩] }
      (homed c).ctr 0x30400 = some c ∧ c.recalling = true ∧ c.away = [] ∧ c.fifo = [⟨0, kind, v, 0, 0⟩] ∧ c.parked = [] ∧
      heldByProtected (homed c) 0 0x30400 8 = false) := by
  decide +kernel

/-! The engines. -/

/-- A command pushed by slot 0 through a binding of entry 3 with option `opt`: operation, dir, length, window offset in cluster
0, memory address; the record that it has begun with, and the bytes it has moved. -/
def command (op : Nat) (dir : Nat) (len off mva : Nat) (rec512 pos : Nat) (opt : Word) : Cmd :=
  let w := op + dir * 32 + 7 * 2 ^ 8 + len * 2 ^ 16 + off * 2 ^ 40 + mva * 2 ^ 71
  { lo := word w, hi := word (w / 2 ^ 64), handle := 3, asid := 0, ptbase := word placeTables, qtbase := 0x30000, opt := opt
    slot := 0, task := TaskInfo.none, tile := none, rec512 := rec512, pos := pos, seq := 1, elem := none, page := 0, user := false }
def engineIs (c : Cmd) : State := (tabled []).onEngine 0 (fun y => { y with fly := [c] })

/-- `SameWork`, to be computed. -/
def sameWork (y z : EngineSt) : Bool := { y with pages := z.pages } == z

/-- What a side holds, or where it is, to be computed. -/
def sideIs {α : Type} (r : State × (α ⊕ Cause)) (p : State → α → Bool) : Bool :=
  match r with
  | (s, .inl e) => p s e
  | _ => false

theorem sideIs_of {α : Type} {r : State × (α ⊕ Cause)} {p : State → α → Bool} (h : sideIs r p = true) :
    ∃ s e, r = (s, .inl e) ∧ p s e = true := by
  unfold sideIs at h
  split at h
  · next s e => exact ⟨s, e, rfl, h⟩
  · cases h

theorem witness_enginesStart :
    (∀ op ∈ [0, 1, 2, 3, 4, 5, 6], let c := command op 0 (if op = 0 ∨ op = 4 ∨ op = 6 then 8 else 0) 0 0x30200 0 0 0
      let s := engineIs c
      (s.engine 0).fly = [c] ∧ (s.engine 0).cmds = [] ∧ (s.engine 0).tiles = [] ∧ c.begun = false ∧ c.tile = none ∧ bindingHeld (s.engine 0) c = false ∧
      c.code = op ∧ c.code ≤ 6 ∧ (handleLive (engineNow s 0) 0 c c.handle 4).isSome = true ∧
      (handleLive (engineNow s 0) 0 { c with handle := 9 } 9 4).isNone = true) ∧
    (∀ op ∈ [2, 3, 5], let c := command op 0 0 0 0x30200 0 0 0
      ∃ s2 bs, sideRead (engineNow (engineIs c) 0) 0 c c.memSide .start 64 = (s2, .inl bs) ∧
        (sameWork (s2.engine 0) ((engineNow (engineIs c) 0).engine 0) && (recFault { c with rec512 := ofLe bs + 2 ^ 512 }).isSome) = true) ∧
    (let c := command 1 0 0 0 0x30200 0 0 0
     ∃ s2 bs, sideRead (engineNow (engineIs c) 0) 0 c c.memSide .start 64 = (s2, .inl bs) ∧
        (sameWork (s2.engine 0) ((engineNow (engineIs c) 0).engine 0) && (recFault { c with rec512 := ofLe bs + 2 ^ 512 }).isNone) = true) :=
  ⟨by decide +kernel, fun op h => sideIs_of (by revert op; decide +kernel), sideIs_of (by decide +kernel)⟩

/-- A run of `n` bytes from a side to another can be moved: both are found, as the statement about the engines assumes. -/
def carries (s1 : State) (c : Cmd) (src dst : Side) (n : Nat) : Bool :=
  decide (0 < n ∧ n ≤ 4096 ∧ src.num % 4096 + n ≤ 4096 ∧ dst.num % 4096 + n ≤ 4096) &&
  sideIs (sideRead s1 0 c src .source n) (fun s2 bs => decide (bs.length = n) &&
    sideIs (sideLoc s2 0 c dst .dest) (fun s3 l => decide (l.kind ≤ 1) && sameWork (s3.engine 0) (s1.engine 0)))

theorem carries_of {s1 : State} {c : Cmd} {src dst : Side} {n : Nat} (h : carries s1 c src dst n = true) :
    0 < n ∧ n ≤ 4096 ∧ InPage src n ∧ InPage dst n ∧ ∃ s2 bs, sideRead s1 0 c src .source n = (s2, .inl bs) ∧ bs.length = n ∧
      ∃ s3 l, sideLoc s2 0 c dst .dest = (s3, .inl l) ∧ l.kind ≤ 1 ∧
        SameWork (s3.engine 0) (s1.engine 0) := by
  simp only [carries, Bool.and_eq_true, decide_eq_true_eq] at h
  obtain ⟨⟨h1, h2, h3, h4⟩, h5⟩ := h
  obtain ⟨s2, bs, h6, h7⟩ := sideIs_of h5
  rw [Bool.and_eq_true, decide_eq_true_eq] at h7
  obtain ⟨s3, l, h8, h9⟩ := sideIs_of h7.2
  rw [Bool.and_eq_true, decide_eq_true_eq, sameWork, beq_iff_eq] at h9
  exact ⟨h1, h2, h3, h4, s2, bs, h6, h7.1, s3, l, h8, h9⟩

/-- What the statement about the engines assumes of a command with its last run of `left` bytes to move from `src` to `dst`. -/
def runsOut (c : Cmd) (src dst : Side) (left : Nat) : Bool :=
  let s := engineIs c
  decide ((s.engine 0).fly = [c] ∧ ((s.engine 0).cmds = [] ∧ (s.engine 0).tiles = []) ∧ c.begun = true ∧ c.fields.sig = false ∧
    c.total = c.pos + left) && (handleLive (engineNow s 0) 0 c c.handle 4).isSome && carries (engineNow s 0) c src dst left

/-- Records: a tensor copy of two rows of 8 bytes from 0x30500, stride 16, to window offset 0x40; a gather of two elements of
4 bytes from 0x30500 at the indices at 0x30540 to 0x30580; a reduction of one FP32 from 0x30500 into 0x30580. -/
def copyRec : Nat := 0x30500 + 0x40 * 2 ^ 64 + 8 * 2 ^ 128 + 2 ^ 153 + 2 ^ 160 + 16 * 2 ^ 208 + 8 * 2 ^ 304
def gatherRec : Nat := 0x30500 + 0x30540 * 2 ^ 64 + 0x30580 * 2 ^ 128 + 2 * 2 ^ 192 + 3 * 2 ^ 216
def sumRec : Nat := 0x30500 + 0x30580 * 2 ^ 64 + 2 ^ 128

theorem witness_enginesMove :
    runsOut (command 0 0 8 0x40 0x30500 (2 ^ 512) 0 0) ⟨none, 0x30500⟩ ⟨some 0, 0x40⟩ 8 = true ∧
    runsOut (command 0 1 8 0x40 0x30500 (2 ^ 512) 0 0) ⟨some 0, 0x40⟩ ⟨none, 0x30500⟩ 8 = true ∧
    runsOut (command 1 0 0 0 0x30200 (copyRec + 2 ^ 512) 8 0) ⟨none, 0x30510⟩ ⟨some 0, 0x48⟩ 8 = true ∧
    runsOut (command 2 0 0 0 0x30200 (gatherRec + 2 ^ 512) 4 0) ⟨none, 0x30500⟩ ⟨none, 0x30584⟩ 4 = true ∧
    runsOut (command 3 0 0 0 0x30200 (gatherRec + 2 ^ 512) 4 0) ⟨none, 0x30584⟩ ⟨none, 0x30500⟩ 4 = true ∧
    runsOut (command 4 0 8 0x40 0x1234 (0x1234 + 2 ^ 512) 0 0) ⟨none, 0x30500⟩ ⟨some 0, 0x40⟩ 8 = true ∧
    runsOut (command 5 0 0 0 0x30200 (sumRec + 2 ^ 512) 0 0) ⟨none, 0x30500⟩ ⟨none, 0x30580⟩ 4 = true ∧
    (let c := { command 0 0 0 0 0 (2 ^ 512) 0 0 with tile := some (1, 1), lo := 0x30500, hi := 0x4000000008 }
     carries (engineNow (engineIs c) 0) c ⟨none, 0x30500⟩ ⟨some 0, 0x40⟩ 8 = true ∧ c.total = 8) := by decide +kernel

/-- A command that has moved nothing, with its sides in the core's window: the hypotheses of the last clauses about the engines. -/
def inWindows (c : Cmd) (src dst : Side) (left : Nat) : Bool :=
  let s := engineIs c
  let has (x : Side) : Bool := match x.win with
    | some cl => (s.core (windowCore cl x.num)).owner == some c.asid
    | none => canonical x.va && inWindowRegion x.va && (match windowOff 0 x.va with
      | some o => (s.core (windowCore 0 o)).owner == some c.asid
      | none => false)
  decide ((s.engine 0).fly = [c] ∧ (s.engine 0).cmds = [] ∧ (s.engine 0).tiles = [] ∧ c.begun = true ∧ c.pos = 0 ∧
    c.total = left ∧ 0 < left ∧ left ≤ 4096 ∧ src.num % 4096 + left ≤ 4096 ∧ dst.num % 4096 + left ≤ 4096 ∧ s.poison = []) &&
  has src && has dst

def fresh (op dir len rec : Nat) : Cmd := command op dir len 0x40 (win + 0x500) (rec + 2 ^ 512) 0 0
def copyRow : Nat := (win + 0x500) + 0x40 * 2 ^ 64 + 8 * 2 ^ 128 + 2 ^ 153
def gatherOne : Nat := (win + 0x500) + (win + 0x540) * 2 ^ 64 + (win + 0x580) * 2 ^ 128 + 2 ^ 192 + 3 * 2 ^ 216
def sumOne : Nat := (win + 0x500) + (win + 0x580) * 2 ^ 64 + 2 ^ 128

theorem witness_enginesMoveInWindows :
    inWindows (fresh 0 0 8 0) ⟨none, win + 0x500⟩ ⟨some 0, 0x40⟩ 8 = true ∧
    inWindows (fresh 0 1 8 0) ⟨some 0, 0x40⟩ ⟨none, win + 0x500⟩ 8 = true ∧
    inWindows (fresh 1 0 0 copyRow) ⟨none, win + 0x500⟩ ⟨some 0, 0x40⟩ 8 = true ∧
    inWindows (fresh 2 0 0 gatherOne) ⟨none, win + 0x500⟩ ⟨none, win + 0x580⟩ 4 = true ∧
    inWindows (fresh 2 0 0 gatherOne) ⟨none, win + 0x540⟩ ⟨none, win + 0x580⟩ 4 = true ∧
    inWindows (fresh 3 0 0 gatherOne) ⟨none, win + 0x580⟩ ⟨none, win + 0x500⟩ 4 = true ∧
    inWindows (fresh 4 0 8 0x1234) ⟨some 0, 0x40⟩ ⟨some 0, 0x40⟩ 8 = true ∧
    inWindows (fresh 5 0 0 sumOne) ⟨none, win + 0x500⟩ ⟨none, win + 0x580⟩ 4 = true ∧
    (let c := { fresh 0 0 8 0 with tile := some (9, 1), lo := word (win + 0x500), hi := 0x4000000008 }
     inWindows c ⟨none, win + 0x500⟩ ⟨some 0, 0x40⟩ 8 = true ∧ (engineIs c).queue 9 = none) := by decide +kernel

/-- A fill of memory with the four bytes at its window offset. -/
theorem witness_fillOfMemory :
    let c := command 4 1 8 0x40 0x30500 (2 ^ 512) 0 0
    let s := engineIs c
    (s.engine 0).fly = [c] ∧ c.begun = true ∧ c.fields.dir = true ∧ c.pos = 0 ∧ c.total = 8 ∧ c.code = 4 ∧
    ∃ s0 bs, sideRead (engineNow s 0) 0 c c.winSide .source 4 = (s0, .inl bs) ∧
      (decide (bs.length = 4 ∧ c.memSide.num % 4096 + 8 ≤ 4096) && sideIs (sideLoc s0 0 c c.memSide .dest) (fun s2 l =>
        decide (l.kind ≤ 1) && sameWork (s2.engine 0) ((engineNow s 0).engine 0))) = true :=
  ⟨by decide +kernel, by decide +kernel, by decide +kernel, by decide +kernel, by decide +kernel, by decide +kernel,
    sideIs_of (by decide +kernel)⟩

/-- Engine 0 with a completed and a held record, whose binding names the result queue of option `h`, which holds `n` records. -/
def record1 (h : Word) : ResultRec := ⟨1, 2, command 0 0 8 0 0 (2 ^ 512) 8 h⟩
def reporting (h : Word) (n : Nat) : State :=
  { (tabled []).onEngine 0 (fun y => { y with done := [record1 h], stuck := [record1 h] }) with
    results := [(resultKey 0 4, List.replicate n (0, 0))] }

/-- An HSIG with dir that brings 8 bytes to the barrier word at offset 0x40, and records with and without a result queue. -/
theorem witness_enginesReport :
    (let c := command 6 1 8 0x40 0 (2 ^ 512) 0 0
     let s := engineIs c
     (s.engine 0).fly = [c] ∧ ((s.engine 0).cmds = [] ∧ (s.engine 0).tiles = []) ∧ c.begun = true ∧ c.code = 6 ∧ c.tile = none ∧
     c.pos = 0 ∧ (barRead s (winKey c.fields.cluster c.fields.off)).bad = false ∧
     (barRead s (winKey c.fields.cluster c.fields.off)).arrivals + b2n c.fields.dir ≤ 65535 ∧
     (barRead s (winKey c.fields.cluster c.fields.off)).bytes + c.fields.len ≤ 2 ^ 56 - 1) ∧
    (∀ h n, (reporting h n).engine 0 = ⟨[], 0, [], [], [record1 h], [record1 h], 0, 0, []⟩) ∧
    fieldOf (record1 0).cmd.opt 63 32 = 0 ∧ fieldOf (record1 0x400000000).cmd.opt 63 32 = 4 ∧
    (handleLive (reporting 0x400000000 63) 0 (record1 0x400000000).cmd 4 5).isSome = true ∧
    (handleLive ((reporting 0x400000000 63).onEngine 0 (fun y => { y with done := [] })) 0 (record1 0x400000000).cmd 4 5).isSome
      = true ∧
    bindingHeld ((reporting 0 63).engine 0) (record1 0).cmd = true ∧
    bindingHeld (((reporting 0 63).onEngine 0 (fun y => { y with stuck := [] })).engine 0) (record1 0).cmd = false ∧
    ((reporting 0 63).resultsOf (resultKey 0 4)).length = 63 ∧ ((reporting 0 64).resultsOf (resultKey 0 4)).length = 64 :=
  ⟨by decide +kernel, fun _ _ => rfl, by decide +kernel, by decide +kernel, by decide +kernel, by decide +kernel,
    by decide +kernel, by decide +kernel, by decide +kernel, by decide +kernel⟩

/-! The homes of memory. -/

theorem witness_directory :
    (∀ e ∈ ([DirEnt.none, ⟨.S, [1], some false⟩, ⟨.E, [1], none⟩, ⟨.M, [1], some true⟩] : List DirEnt), let s := { one with dir := if e = DirEnt.none then [] else [(9, e)] }
      s.dirOf 9 = e ∧ (e.st = .I ∨ e.st = .S ∨ (e.st = .E ∨ e.st = .M) ∧ 0 ∉ e.sharers) ∧
      findSector (s.cluster 0).l1u 9 = none ∧ s.dies = [] ∧ sharedRange 9 = true) ∧
    sharedRange (2 ^ 45) = false ∧
    (let s := { one.onMe (fun x => { x with chunk := { x.chunk with count := 2, rset := [9], ckpt := some x.regs } }) with
       dir := [(9, ⟨.S, [0, 1], some false⟩)] }
     Listed s 0 ∧ clusterOf 0 ∈ (s.dirOf 9).sharers ∧ clusterOf 0 ≠ 1 ∧ 9 ∈ (s.slot 0).chunk.rset ∧ (s.slot 0).chunk.sure = false) := by
  unfold Listed; decide +kernel

def copy9 : USector := ⟨9, List.replicate 64 7, 3⟩

theorem witness_copies :
    findSector ((one.onCluster 0 (fun c => { c with l1u := [copy9] })).cluster 0).l1u 9 = some copy9 ∧
    (let s := one.onDie 0 (fun d => { d with dcu := [copy9] })
     9 / 4 = 2 ∧ findSector (s.die (homeOf (9 * 64))).dcu 9 = some copy9 ∧ s.dies.map Prod.fst = [0] ∧
     (s.die 0).dcu = [copy9]) ∧
    (∀ r ∈ [none, some 5], let s := one.onDie 0 (fun d => { d with recalling := r })
      (s.die 0).recalling = r ∧ frameOfDie 0 0x30 = true ∧ frameOfDie 1 0x30 = false ∧ (0x30001 : Word).getLsbD 0 = true ∧
      fieldOf 0x30001 51 12 = 0x30) := by decide +kernel

theorem witness_pageMoves :
    (let pteA := placeTables + 0x4000 + 8 * 0x30
     let s := one
     moveAllowed s 0x30 0x40 0 false = true ∧ frameUsed s 0x40 1 = false ∧ frameStacked s 0x40 1 = false ∧
     frameStacked (({ s with dev := [(0xF00000040000, some 0x50000)] }.onDie 0 (fun d => { d with ffcnt := [(0, 1)] })).putLe 0x50000 8 0x40)
       0x40 1 = true ∧
     movable s pteA = some (0x30, 1) ∧ Listed s 0 ∧ (s.slot 0).chunk.rset = [] ∧ inTier 0 (0x40 * 4096) = true ∧
     inTier2 (0x30 * 4096) = false ∧ inTier3 (0x30 * 4096) = false ∧ procsOfTable s 0x30 = [] ∧
     rangeOf (0x40 * 4096) = rangeOf (0x40 * 4096 + 4095) ∧ badByte s (0x30 * 4096) 4096 = none ∧ s.clusters = [] ∧ s.dies = [] ∧
     pteA + 8 ≤ 0x40 * 4096 ∧ pteA % 8 = 0 ∧ badByte { s with poison := [(0x30010, true)] } (0x30 * 4096) 4096 = some 0x30010) ∧
    (let far := 0x8000000000000 / 4096
     let s := { one with moves := [⟨0x30, [1, 2, 3], none, []⟩] }
     moveAllowed { s with links := [(0, some 0)] } 0x30 far 3 true = true ∧ frameUsed s far 1 = false ∧ frameStacked s far 1 = false ∧
     inTier 3 (far * 4096) = true ∧ rangeOf (far * 4096) = rangeOf (far * 4096 + 4095) ∧
     (∀ m ∈ s.moves, m.settledAt = none) ∧
     3 ≤ (([1, 2, 3] : List Nat).filter (fun x => s.cycle ≤ x + 2000 * 1600)).length) := by unfold Listed; decide +kernel

/-- A reduction whose replay is due, for the task queue of entry 1. -/
def orphan : Replay := ⟨⟨0, 0x30000, 3, 3, false, 0, 0, word placeTables, TaskInfo.none, false, false⟩, 0x14, 5⟩
def orphaned (c : Nat) (ctrs : Store (Option Ctr)) : State :=
  { tabled [] with
    replays := [orphan], procs := [(0, some ⟨word placeTables, 0x30000, 0⟩)], dev := [(orctlA 0, some 1)], cycle := c, ctrs := ctrs }

theorem witness_replays :
    (∀ c ∈ [0, 5], ∀ t ∈ [[], [(0x30400, some (counter1 [] []))]],
      (orphaned c t).replays = [orphan] ∧
      ∃ s1 e, readEntry { orphaned c t with replays := [] } (dieOf 0 * 9216) 0 (word placeTables) 0x30000
          (fieldOf ((orphaned c t).dreg (orctlA 0)) 31 0) true = (s1, .inl e) ∧
        (e.kind == 0 && (match (meetQueue s1 (queueKey 0 1) 0x30000 (word placeTables) 1 e).queue (queueKey 0 1) with
          | some q => q.resident && q.tasks.isEmpty && q.ctr == 0x30400 &&
            (unitInHand (meetQueue s1 (queueKey 0 1) 0x30000 (word placeTables) 1 e) q.ctr == !t.isEmpty)
          | none => false)) = true) := by
  intro c hc t ht
  refine ⟨rfl, entryIs_of ?_⟩
  revert c t
  decide +kernel

/-- The same with the queue table in a window. -/
theorem witness_replaysInWindow :
    let s := { windowed true with replays := [orphan], dev := [(orctlA 0, some 1)], cycle := 5 }
    s.replays = [orphan] ∧ orphan.due ≤ s.cycle ∧ fieldOf (s.dreg (orctlA 0)) 31 0 = 1 ∧
    HandleStands s (dieOf 0 * 9216) 0 (word win) 1 entry1 ∧ entry1.kind = 0 ∧
    s.queue (queueKey 0 1) = some { taskQ with qtbase := word win, resident := true } ∧ taskQ.ptbase = word placeTables ∧
    unitInHand s taskQ.ctr = true :=
  ⟨rfl, by decide, by decide +kernel, stands_windowed (res := true) rfl (by decide +kernel), by decide +kernel, rfl, rfl,
    by decide +kernel⟩

/-! Writes of registers, the host, bring-up. -/

theorem witness_registerWrites :
    (fieldOf 0 15 8 < 2 ^ (one.slot 0).vec.split ∧ 2 ^ (one.slot 0).vec.split ≤ fieldOf 0xFF00 15 8 ∧
      waitingAt one 0 = none ∧ waitingAt (one.onMe (fun x => { x with pairSince := some 0 })) 0 ≠ none) ∧
    ((32 : Word).toNat ≤ vlmaxOf one 0 4 ∧ vlmaxOf one 0 4 < (33 : Word).toNat ∧
      (let s := one.onMe (fun x => { x with vec := { x.vec with vtype := 4, vl := 0 } })
       (s.slot 0).vec.vtype = 4 ∧ vtRefused 4 = false ∧ (s.slot 0).vec.vl.toNat ≤ vlmaxOf s 0 4) ∧
      vtRefused 6 = true) ∧
    ((0x018, 128) ∈ ([(0x018, 128), (0x019, 128), (0x01A, 256)] : List (Nat × Nat)) ∧ (128 : Word).toNat ≤ 128 ∧
      128 < (129 : Word).toNat) ∧
    (fieldOf 0x33 9 8 ≠ 3 ∧ tileCodesOk (fieldOf 0x33 9 8) ((0x33 : Word).getLsbD 10) (fieldOf 0x33 3 0) (fieldOf 0x33 7 4) = true) ∧
    (∀ n ∈ [0x600000064, 0x4000000600000064], ∀ pool ∈ [0, 40, poolMax], let v := word n
      let s := { (one.onMe (fun x => { x with sys := { x.sys with pwbud := 0x70003E8 } })) with pool := [(0, pool)] }
      (leaseLvl v = 0 ∨ 6 ≤ leaseLvl v) ∧ leaseTime v ≤ 10000 ∧ (leaseLvl v = 0 ↔ leaseTime v = 0) ∧
      leaseLvl v ≤ fieldOf (s.slot 0).sys.pwbud 26 24 ∧ leaseTime v ≤ fieldOf (s.slot 0).sys.pwbud 23 0 ∧
      (s.slot 0).sys.lease = 0 ∧ rd 0 s.pool (partOf s (clusterOf 0)) = pool ∧ pool ≤ poolMax) ∧
    (∀ n ∈ [0x5000010, 0x70003E8], 5 ≤ fieldOf (word n) 26 24 ∧ fieldOf (word n) 23 0 ≤ 10000) ∧
    (leaseLvl (0x600000064 : Word) ≤ fieldOf 0x70003E8 26 24 ∧ leaseTime (0x600000064 : Word) ≤ fieldOf 0x70003E8 23 0 ∧
      fieldOf 0x5000010 26 24 < leaseLvl (0x600000064 : Word)) := by decide +kernel

theorem witness_deviceRegisters :
    (plainMask 0xF00000030008 = some 0x7FFFFFF ∧ devRefused one 0xF00000030008 0x5000010 = false ∧ 0xF00000030008 < 0xF00000080000 ∧
      devRefused one 0xF00000030008 0x4000010 = true ∧ (∀ h < 4, 0xF00000030008 ≠ headA h 0x28)) ∧
    (plainMask (headA 1 0x28) = some 0xFFFFFF ∧ devRefused one (headA 1 0x28) 16667 = false ∧ fieldOf 16667 23 0 ≠ 0 ∧
      fieldOf 0 23 0 = 0 ∧ headA 1 0x28 < 0xF00000080000) ∧
    one.modctl.getLsbD 2 = false ∧ ({ one with modctl := 5 } : State).modctl.getLsbD 2 = true ∧
    devRefused { one with modctl := 5 } 0xF00000031008 0x5000010 = false ∧
    devRefused { one with modctl := 5 } 0xF00000031008 0x4000010 = true ∧
    (let s := { one with dev := [(headA 1 0, some 1)] }
     (s.dreg (headA 1 0)).getLsbD 0 = true ∧ (s.dreg (headA 1 0)).getLsbD 3 = false ∧
     (s.dreg (headA 1 0)).getLsbD 2 = (1 : Word).getLsbD 2 ∧ (1 : Word).getLsbD 0 = true ∧ (1 : Word).getLsbD 3 = false ∧
     fieldOf 1 7 6 ≠ 3 ∧ fieldOf 0xC1 7 6 = 3 ∧ (one.dreg (headA 1 0)).getLsbD 0 = false) ∧
    (0 * 12 + 5 < 24 ∧ assisted one 5 5 = false ∧ assisted { one with hmode := [(0, 0x20)] } 5 5 = true ∧
      (one.cluster 5).tooHot = false) := by decide +kernel

/-- Function 1 of port 0 bound to process 0, whose entry 1 admits host writes. -/
def hosted (res : Bool) : State :=
  { ((tabled []).putLe 0x30040 64 (qEntry 0 0x30C00 4 0x30400 0x30800 2)) with
    rdy := BitVec.allOnes 64
    dev := [(fnA 0 1, some 0x10000), (fnA 0 1 + 8, some 0x30000), (fnA 0 1 + 16, some (word placeTables))]
    queues := [(1, some { taskQ with resident := res })], ctrs := [(0x30400, some (counter1 [] []))] }

theorem witness_hostWindow :
    (∀ res ∈ [false, true],
      (activeFn (hosted res) 0 = 0 ∧ (hosted res).rdy.getLsbD 40 = true ∧ ((hosted res).dreg (fnA 0 1)).getLsbD 16 = true) ∧ (1 ≤ 64) ∧ descOk (BitVec.ofNat 512 descr) = true ∧
      dLaunch (BitVec.ofNat 512 descr) = false ∧
      ∃ s1 e, readEntry (hosted res) 0 (fieldOf ((hosted res).dreg (fnA 0 1)) 15 0) ((hosted res).dreg (fnA 0 1 + 16))
          ((hosted res).dreg (fnA 0 1 + 8)) 1 false = (s1, .inl e) ∧
        (e.kind == 0 && e.f 165 165 == 1 && (let s2 := meetQueue s1 (windowKey s1 0 1 0x30000) 0x30000 (word placeTables) (e.f 191 176 * 65536 + 1) e
          (match s2.queue 1, s2.ctr 0x30400 with
          | some q, some c => q.resident == res && q.ctr == 0x30400 && c.asid == 0 && unitInHand s2 q.ctr && q.tasks.isEmpty &&
            !assisted s2 0 1
          | _, _ => false))) = true) ∧
    (one.dreg (fnA (activeFn one 0) 1)).getLsbD 16 = false ∧ one.rdy.getLsbD 40 = false ∧
    (∀ c ∈ [0, 10000 * 1600], let s := { one with heldWrites := [⟨0, 1, 1, 0, 1, 0, 0x30000, word placeTables, false⟩], cycle := c }
      s.heldWrites = [⟨0, 1, 1, 0, 1, 0, 0x30000, word placeTables, false⟩] ∧ s.cycle = c) := by
  refine ⟨fun res h => ⟨?_, by decide, ?_, ?_, entryIs_of ?_⟩, by decide +kernel, by decide +kernel⟩ <;>
    (revert res; decide +kernel)

theorem witness_hostWindowInWindow :
    let s := { windowed true with
      rdy := BitVec.allOnes 64
      dev := [(fnA 0 1, some 0x10000), (fnA 0 1 + 8, some (word win)), (fnA 0 1 + 16, some (word placeTables))] }
    s.rdy.getLsbD 40 = true ∧ activeFn s 0 = 0 ∧ (s.dreg (fnA 0 1)).getLsbD 16 = true ∧ s.dreg (fnA 0 1 + 8) = word win ∧ s.dreg (fnA 0 1 + 16) = word placeTables ∧
    HandleStands s 0 0 (word win) (entry1.f 191 176 * 65536 + 1) entry1 ∧ entry1.kind = 0 ∧ entry1.f 165 165 = 1 ∧
    s.queue (queueKey 0 1) = some { taskQ with qtbase := word win, resident := true } ∧
    (s.ctr taskQ.ctr).map Ctr.asid = some 0 ∧ unitInHand s taskQ.ctr = true :=
  ⟨by decide +kernel, by decide +kernel, by decide +kernel, by decide +kernel, by decide +kernel, stands_windowed (res := true) rfl (by decide +kernel),
    by decide +kernel, by decide +kernel, rfl, by decide +kernel, by decide +kernel⟩

theorem witness_bringUp :
    (let s := { one with rdy := 0x30800000000 }
     s.rdy.getLsbD 35 = true ∧ (∀ i ∈ [40, 41], s.rdy.getLsbD i = true) ∧ s.rdy.getLsbD 32 = false) ∧
    (let s := { one with rdy := 1#64 <<< 35 }
     s.rdy.getLsbD 35 = true ∧ s.rdy.getLsbD 32 = false ∧ clusterReadyBit s 0 = false ∧ s.rdy.getLsbD 24 = false) ∧
    (let s := { one with rdy := 0x1900000000 }
     s.rdy.getLsbD 32 = true ∧ s.rdy.getLsbD 24 = false ∧ (s.die 0).reachable = true ∧ s.rdy.getLsbD 0 = false) ∧
    (let s := { one with rdy := 0x1901000000 }
     s.rdy.getLsbD 24 = true ∧ (s.cluster 0).stopped = false ∧ clusterReadyBit s 0 = false) ∧
    one.rdy.getLsbD 35 = false ∧
    (∀ c ∈ [3200000000, 3199999999], let s := { one with bondAt := some 0, cycle := c }
     s.bondAt = some 0 ∧ s.cycle = c ∧ s.cameUp.getLsbD 24 = false ∧ s.absent.getLsbD 24 = false ∧ s.cameUp.getLsbD 5 = false ∧
     s.absent.getLsbD 5 = false) ∧
    (let s := { one with rdy := 0x3F9FFFFFFFF, modctl := 1 }
     let want : Word := 0x3F9FFFFFFFF &&& ~~~s.absent;
     (s.rdy &&& want) = want ∧ fieldOf s.modctl 1 0 = 1) ∧
    (one.rdy &&& (0x3F9FFFFFFFF &&& ~~~one.absent)) ≠ (0x3F9FFFFFFFF &&& ~~~one.absent) := by decide +kernel

/-- The partition bit of modctl with a thread in a slot and without one. -/
theorem witness_moduleControl :
    (4 : Word).getLsbD 2 ≠ one.modctl.getLsbD 2 ∧ (∃ e ∈ one.slots, e.2.res ≠ .empty) ∧
    (¬ ∃ e ∈ State.reset.slots, e.2.res ≠ .empty) ∧ (¬ ∃ e ∈ State.reset.queues, ∃ q, e.2 = some q ∧ q.resident = true) := by
  refine ⟨by decide +kernel, by decide +kernel, by decide +kernel, ?_⟩
  rintro ⟨e, he, -⟩
  exact absurd he (by have : State.reset.queues = [] := rfl
                      rw [this]; exact List.not_mem_nil)

theorem witness_management : ({ one with rdy := 1#64 <<< 35 } : State).rdy.getLsbD 35 = true ∧
    controllerRuns { one with rdy := 1#64 <<< 35 } = true ∧ controllerRuns one = false := by decide +kernel

/-! Power, temperature, faults of the device. -/

theorem witness_steps :
    (30 < 31 ∧ 60 < 61 ∧ 1900 < 1901 ∧ 2100 < 2101 ∧ 110 < 111) ∧
    (let s := { one.onCluster 3 (fun y => { y with step := 8, calm := 0 }) with cycle := 2048 }
     s.railHold = false ∧ (s.cluster 3).tooHot = false ∧ (s.cluster 3).step < 32 ∧ (s.cluster 3).calm + 2048 ≤ s.cycle) ∧
    ((one.onCluster 3 (fun y => { y with tooHot := true })).cluster 3).tooHot = true := by decide +kernel

theorem witness_trips :
    (Listed one 0 ∧ clusterOf 0 = 0 ∧ (one.slot 0).res = .full ∧ 0 < 24 ∧ 120 < 121) ∧
    ((one.onCluster 3 (fun y => { y with stopped := true })).cluster 3).stopped = true := by unfold Listed; decide +kernel

theorem witness_slowLoop :
    (let s := { one.onCluster 1 (fun y => { y with tooHot := true }) with rdy := 7 }
     let m : Meas := { module := 1000, watts := 1200, amps := 500, rail := 900, temps := [95, 80, 95] }
     controllerRuns { s with rdy := s.rdy ||| (1#64 <<< 35) } = true ∧ controllerRuns s = false ∧
     (s.cluster 1).tooHot = true ∧ m.watts ≤ 1200 ∧
     (∀ j ∈ List.range 24, m.temps.getD j (s.cluster j).temp ≤ 95) ∧ clusterReadyBit s 0 = true ∧
     assisted s 0 5 = false ∧ (s.cluster 0).tooHot = false) ∧
    (105 < ([106] : List Nat).getD 0 0) := by decide +kernel

theorem noLog_of {s : State} (h : s.dev = []) : NoLog s := by
  constructor
  · simp [State.dreg, h, dlbaseA, devReset]
  · intro p
    have h1 : clbaseA p ≠ 0xF00000030008 ∧ clbaseA p ≠ 0xF00000031008 ∧ ¬ clbaseA p < 0xF00000018000 := by
      unfold clbaseA; omega
    simp only [State.dreg, h, rd, devReset, Option.getD_none]
    rw [if_neg (by omega), if_neg (by omega)]

theorem witness_deviceFaults :
    Listed one 0 ∧ (one.slot 0).res = .full ∧ (one.slot 0).asidN = 0 ∧ routeLost one 0x30010 = false ∧
    (one.die (homeOf 0x30010)).reachable = true ∧ NoLog one ∧ (∀ e ∈ one.slots, e.2.asidN ≠ 1) ∧
    (∀ e ∈ one.cores, ∀ p ∈ e.2.runq, p.sys.asid.toNat ≠ 1) ∧ watchdogDue one 0 = false ∧
    watchdogDue { one.onMe (fun x => { x with vq := [⟨.vector 0x39, 0, [], 0, [], 0, none, [], []⟩] }) with cycle := 160000000 } 0 = true :=
  ⟨by unfold Listed; decide +kernel, by decide +kernel, by decide +kernel, by decide +kernel, by decide +kernel,
    noLog_of (by decide +kernel), by decide +kernel, by decide +kernel, by decide +kernel, by decide +kernel⟩

theorem witness_errors :
    31 < 32 ∧ (one.core 0).lanemap.getLsbD 31 = true ∧ liveOf (one.core 0) ≠ 1 ∧ (one.core 0).retired = false ∧
    grantsPassed one 0 = true ∧ grantsPassed (one.onCore 0 (fun c => { c with lanemap := 0x7FFFFFFF })) 0 = false := by
  decide +kernel

theorem witness_links :
    (rd 0 one.streams 3 ≤ 0 ∧ 2 < rd 0 ({ one with streams := [(3, 5)] } : State).streams 3) ∧ (one.die 7).reachable = true ∧
    ((one.onDie 7 (fun d => { d with reachable := false })).die 7).reachable = false ∧
    rd none ({ one with links := [(0, some 3)] } : State).links 0 = some 3 ∧ rd none one.links 0 = none ∧
    (∀ e ∈ ({ one with links := [(0, none)] } : State).links, e.2 ≠ some 3) ∧
    (∃ e ∈ ({ one with links := [(1, some 3)] } : State).links, e.2 = some 3) ∧
    (rd 0 one.peerDown 3 + 10000 * 1600 ≤ 16000000 ∧ ¬ rd 0 one.peerDown 3 + 10000 * 1600 ≤ one.cycle) ∧
    (rd none ({ one with bondFailed := [(7, some 0)] } : State).bondFailed 7 = some 0 ∧ rd none one.bondFailed 7 = none) ∧
    ({ one with rdy := 1#64 <<< 41 } : State).rdy.getLsbD (40 + 1) = true ∧
    ({ one with rdy := 1#64 <<< 41 } : State).rdy.getLsbD (40 + 0) = false := by decide +kernel

/-! Commit units, heads, records, translations. -/

/-- A pixel packet of ticket `n` for tile 3 of the record at 0x30600. -/
def part (n : Nat) (last : Bool) : TilePacket :=
  ⟨0, 0, 0, word placeTables, 0x30600, 3, n, last, 0, 0, [], [], none, TaskInfo.none, false⟩
def tile (expect : Nat) (held : List TilePacket) : Tile :=
  ⟨0, 0x30600, 3, expect, held, [], [], [], [], [], 0, word placeTables, false, 0, false, true⟩
def commit (ps : List TilePacket) (ts : List Tile) : State :=
  ((tabled []).putLe 0x30600 64 (3 * 2 ^ 132)).onCluster 0 (fun c => { c with packets := ps, tiles := ts, tcstuck := 0x8000000000000003, tcsrec := 0x30600 })

theorem witness_commitUnits :
    (let s := commit [part 0 true] [tile 1 []]
     (s.cluster 0).packets = part 0 true :: [] ∧ NoLog s ∧ tileFor (s.cluster 0) (part 0 true) = some (tile 1 []) ∧ 0 < 1) ∧
    (let s := commit [part 2 true] []
     (s.cluster 0).packets = part 2 true :: [] ∧ NoLog s ∧ tileFor (s.cluster 0) (part 2 true) = none ∧
     tileStorage (s.cluster 0) + packetData (part 2 true) ≤ 2 ^ 20) ∧
    (let s := commit [part 0 true] []
     (s.cluster 0).packets = part 0 true :: [] ∧ tileFor (s.cluster 0) (part 0 true) = none ∧
     ∃ s1 bs, unitRead (s.onCluster 0 (fun y => { y with packets := [], commitAt := s.cycle })) 0 0 (word placeTables) 0x30600 false 64 = (s1, .inl bs) ∧
       (!Rec.reserved ⟨ofLe bs⟩ && s1.cluster 0 == (s.onCluster 0 (fun y => { y with packets := [], commitAt := s.cycle })).cluster 0) = true) ∧
    (let cr : Credit := ⟨2 ^ 52 + 64, 64, 16, 0, 0⟩
     let w := barRead { one with credits := [cr] } cr.key
     w.bad = false ∧ w.arrivals + 1 ≤ 65535 ∧ w.bytes + 16 ≤ 2 ^ 56 - 1) ∧
    (let s := { commit [] [tile 0 [part 2 true]] with cycle := 10000 * 1600 }
     (s.cluster 0).tiles = [tile 0 [part 2 true]] ∧ (tile 0 [part 2 true]).held ≠ [] ∧
     (tile 0 [part 2 true]).changed + 10000 * 1600 ≤ s.cycle ∧ NoLog s ∧ (tile 0 [part 2 true]).reported = false ∧
     (0x8000000000000003 : Word).getLsbD 63 = true ∧ (s.cluster 0).tcstuck.getLsbD 63 = true ∧
     fieldOf 0x8000000000000003 31 0 = fieldOf (s.cluster 0).tcstuck 31 0 ∧ (tile 0 [part 2 true]).tile = 3 ∧
     (tile 0 [part 2 true]).record = (s.cluster 0).tcsrec ∧ 0 + 1 < (part 2 true).ticket ∧ tileStorage (s.cluster 0) ≤ 2 ^ 18 ∧
     ∃ s1 bs, unitRead s 0 0 (word placeTables) 0x30600 false 64 = (s1, .inl bs) ∧
       (!Rec.reserved ⟨ofLe bs⟩ && s1.cluster 0 == s.cluster 0) = true) :=
  ⟨⟨by decide +kernel, noLog_of (by decide +kernel), by decide +kernel, by decide⟩,
    ⟨by decide +kernel, noLog_of (by decide +kernel), by decide +kernel, by decide +kernel⟩,
    ⟨by decide +kernel, by decide +kernel, sideIs_of (by decide +kernel)⟩, by decide +kernel,
    ⟨by decide +kernel, by decide +kernel, by decide +kernel, noLog_of (by decide +kernel), by decide +kernel, by decide +kernel,
      by decide +kernel, by decide +kernel, by decide +kernel, by decide +kernel, by decide +kernel, by decide +kernel,
      sideIs_of (by decide +kernel)⟩⟩

/-- The record of the commit unit in the core's window. -/
def windowPart (n : Nat) (last : Bool) : TilePacket :=
  ⟨0, 0, 0, word placeTables, word (win + 0x600), 3, n, last, 0, 0, [], [], none, TaskInfo.none, false⟩
def windowTile : Tile := ⟨0, word (win + 0x600), 3, 0, [windowPart 2 true], [], [], [], [], [], 0, word placeTables, false, 0, false, true⟩
def windowCommit (ps : List TilePacket) (ts : List Tile) : State :=
  { ((tabled []).putLe (2 ^ 52 + 0x600) 64 (3 * 2 ^ 132)).onCluster 0 (fun c =>
      { c with packets := ps, tiles := ts, tcstuck := 0x8000000000000003, tcsrec := word (win + 0x600) }) with cycle := 10000 * 1600 }

theorem witness_commitUnitsInWindows :
    (∀ s ∈ [windowCommit [windowPart 0 true] [], windowCommit [] [windowTile]],
      OwnBytes s (0 * 3072) 0 (word (win + 0x600)) 64 (3 * 2 ^ 132) ∧ s.poison = [] ∧ tileStorage (s.cluster 0) ≤ 2 ^ 18) ∧
    ((windowCommit [windowPart 0 true] []).cluster 0).packets = windowPart 0 true :: [] ∧
    (word (win + 0x600)).toNat % 4096 ≤ 4032 ∧ Rec.reserved ⟨3 * 2 ^ 132⟩ = false ∧
    (let s := windowCommit [] [windowTile]
     (s.cluster 0).tiles = [windowTile] ∧ (s.cluster 0).tcstuck.getLsbD 63 = true ∧ windowTile.record = (s.cluster 0).tcsrec ∧
     windowTile.changed + 10000 * 1600 ≤ s.cycle ∧ windowTile.held = [windowPart 2 true] ∧
     windowTile.expect + 1 < (windowPart 2 true).ticket) := by
  refine ⟨fun s h => ⟨own_of ?_ ?_, ?_, ?_⟩, ?_, ?_, ?_, ?_⟩
  · revert s; decide +kernel
  · revert s; decide +kernel
  · revert s; decide +kernel
  · revert s; decide +kernel
  all_goals decide +kernel

/-- Head 0 with en, a period of 5000 µs, its flag at 0x30700 and target `t`, raising the queue of entry 1. -/
def headed (c t : Nat) : State :=
  { tabled [] with
    dev := [(headA 0 0, some 1), (headA 0 0x08, some 0x77000), (headA 0 0x10, some 0x30700), (headA 0 0x18, some (word t)),
      (headA 0 0x20, some 1), (headA 0 0x28, some 5000)]
    heads := [(0, { HeadSt.off with deadline := 1 })], cycle := c, procs := [(0, some ⟨word placeTables, 0x30000, 0⟩)] }

/-- What a read of a flag finds, to be computed. -/
def flagIs (r : State × Found Nat) (p : State → Nat → Bool) : Bool :=
  match r with
  | (s, .ok v) => p s v
  | _ => false

theorem flagIs_of {r : State × Found Nat} {p : State → Nat → Bool} (h : flagIs r p = true) :
    ∃ s v, r = (s, .ok v) ∧ p s v = true := by
  unfold flagIs at h
  split at h
  · next s v => exact ⟨s, v, rfl, h⟩
  · cases h

theorem witness_heads : ∀ c ∈ [0, 5000 * 1600], ∀ t ∈ [0, 1], ∀ r ∈ [[], [1]],
    let s := (headed c t).onHead 0 (fun h => { h with raised := r })
    ((s.dreg (headA 0 0)).getLsbD 0 = true ∧ (s.dreg (headA 0 0)).getLsbD 3 = false ∧
      fieldOf (s.dreg (headA 0 0x28)) 23 0 * 1600 ≠ 0 ∧
      queueKey (fieldOf (s.dreg (headA 0 0x20)) 47 32) (fieldOf (s.dreg (headA 0 0x20)) 31 0) = 1 ∧ (s.queue 1).isSome = true ∧
      (s.head 0).raised = r ∧ (1 ∉ (s.head 0).raised ∨ r = [1]) ∧ (∀ e ∈ s.heads, e.1 ≠ 0 → 1 ∉ e.2.raised) ∧
      (s.head 0).t0 + (s.head 0).deadline * (5000 * 1600) = 5000 * 1600 ∧ 2000 * 1600 ≤ 5000 * 1600) ∧
    ∃ s1 v, readFlagOf s 0 = (s1, .ok v) ∧
      (s1.heads == s.heads && s1.dev == s.dev && s1.queues == s.queues && v == 0) = true := by
  intro c hc t ht r hr
  refine ⟨?_, flagIs_of ?_⟩ <;> (revert c t r; decide +kernel)

/-- The flag of the head in the core's window. -/
theorem witness_headsInWindow :
    let s := { headed (5000 * 1600) 0 with
      dev := [(headA 0 0, some 1), (headA 0 0x08, some 0x77000), (headA 0 0x10, some (word (win + 0x700))),
        (headA 0 0x20, some 1), (headA 0 0x28, some 5000)] }
    OwnBytes s 0 (fieldOf (s.dreg (headA 0 0x20)) 47 32) (s.dreg (headA 0 0x10)) 8 0 ∧
    (s.dreg (headA 0 0x18)).toNat ≤ 0 ∧ (s.head 0).t0 + (s.head 0).deadline * (5000 * 1600) ≤ s.cycle ∧
    (s.queue 1).isSome = true :=
  ⟨own_of (by decide +kernel) (by decide +kernel), by decide +kernel, by decide +kernel, by decide +kernel⟩

theorem witness_faultRecords : ∀ n ∈ [0, 3, 4],
    let s := { (headed 0 0).putLe 0x50000 8 n with
      dev := (headed 0 0).dev ++ [(dlbaseA, some 0x50000), (dlbaseA + 8, some 3)]
      heads := [(0, { HeadSt.off with frame := some (0x77000, 0) })] }
    (s.dreg (headA 0 0)).getLsbD 0 = true ∧ (s.head 0).frame ≠ none ∧ s.dreg (clbaseA 0) = 0 ∧ (s.dreg dlbaseA).toNat ≠ 0 ∧
    s.le 0x50000 8 = n ∧ n + 1 < 2 ^ 64 ∧ fieldOf (s.dreg (dlbaseA + 8)) 15 0 + 1 = 4 ∧ s.le (0x50000 + 8) 8 = 0 ∧
    lateRecs s 0x50000 = [] ∧ readCause 0x14 = true := by
  decide +kernel

/-- A translation thread in slot 0 whose request at 0x30200 names a container of 16 bytes at 0x30300. -/
def translating (ts : List Translation) (arg : Word) : State :=
  { ((tabled []).putLe 0x30200 64 (0x30300 + 16 * 2 ^ 64)).onMe (fun x => { x with task := { x.task with launch := 1 } }) with
    launches := [(1, some { launch1 with isTranslation := true, arg := arg })], translations := ts }

def requestOk (s : State) (c : Nat → Bool) : Bool :=
  match readRequest s 0 0 (word placeTables) 0x30200 with
  | (s1, some r) => (match readContainer s1 0 0 (word placeTables) r with
    | (_, some l) => c (r.f 263 256 + r.f 271 264) && l == List.replicate 16 0
    | _ => false)
  | _ => false

theorem witness_translations :
    (let s := translating [] 0x30200
     s.launch 1 = some { launch1 with isTranslation := true, arg := 0x30200 } ∧ (s.slot 0).task.launch = 1 ∧ (s.slot 0).res = .full ∧
     s.translations = [] ∧ requestOk s (· == 0) = true) ∧
    (let t : Translation := ⟨0, List.replicate 16 0, 0, 0, (7, 0, 0), [], none⟩
     let s := translating [t] 0x30200
     (∀ u ∈ s.translations, (u.maker.1, u.maker.2.1) ≠ (0, 0x30200) ∧ ∀ w ∈ u.waiting, (w.1, w.2.1) ≠ (0, 0x30200)) ∧ requestOk s (· == 0) = true) ∧
    (readRequest (translating [] 0x99000) 0 0 (word placeTables) 0x99000).2 = none := by decide +kernel

/-- The same with the request and the container in the core's window. -/
theorem witness_translationsInWindow :
    let s := ((translating [] (word (win + 0x200))).putLe (2 ^ 52 + 0x200) 64 (win + 0x300 + 16 * 2 ^ 64)).putLe (2 ^ 52 + 0x300) 16 7
    s.launch (s.slot 0).task.launch = some { launch1 with isTranslation := true, arg := word (win + 0x200) } ∧
    OwnBytes s (clusterOf 0 * 3072) 0 (word (win + 0x200)) 64 (win + 0x300 + 16 * 2 ^ 64) ∧
    OwnBytes s (clusterOf 0 * 3072) 0 (word (win + 0x300)) 16 7 ∧ s.poison = [] ∧ s.translations = [] ∧
    (Request.f ⟨win + 0x300 + 16 * 2 ^ 64⟩ 127 64 = 16 ∧ Request.f ⟨win + 0x300 + 16 * 2 ^ 64⟩ 63 0 = win + 0x300) :=
  ⟨by decide +kernel, own_of (by decide +kernel) (by decide +kernel), own_of (by decide +kernel) (by decide +kernel),
    by decide +kernel, by decide +kernel, by decide +kernel⟩

/-! ### The whole machine -/

/-- What a fetch finds, to be computed. -/
def fetchIs (r : State × Fetched Fetch) (p : Fetch → Bool) : Bool :=
  match r with
  | (_, .got f) => p f
  | _ => false

theorem fetchIs_of {r : State × Fetched Fetch} {p : Fetch → Bool} (h : fetchIs r p = true) :
    ∃ s f, r = (s, .got f) ∧ p f = true := by
  unfold fetchIs at h
  split at h
  · next s f => exact ⟨s, f, rfl, h⟩
  · cases h

def codeOf (f : Fetch) : List Byte :=
  match f with
  | .half h => bytesOfHalf h
  | .word w => bytesOfWord w

/-- Slot 0 about to issue the word; the same with the pc at an address that no page maps. -/
def placed (w : Nat) : State := State.reset.withFetchWord 32 w
def lost : State := (placed 0x000A2193).onMe (fun x => { x with regs := { x.regs with pc := 0x99000 } })

theorem witness_step :
    ((placed 0x000A2193).agenda = .slot 0 :: [] ∧ isTranslator (placed 0x000A2193) 0 = false ∧
      (∃ s1 f, fetchCode (beginTurn { placed 0x000A2193 with agenda := [] } 0) 0 = (s1, .got f) ∧
        decide (decode (codeOf f) = some (.instr (.add ⟨5, 2, 3⟩), [])) = true) ∧
      (∃ s1 f, fetchCode (beginTurn { placed 0xFFFFFFFF with agenda := [] } 0) 0 = (s1, .got f) ∧
        decide (decode (codeOf f) = some (.unallocated 5, [])) = true)) ∧
    (lost.agenda = .slot 0 :: [] ∧ isTranslator lost 0 = false ∧
      (match fetchCode (beginTurn { lost with agenda := [] } 0) 0 with
      | (_, .bad _ _ a) => a == 0x99000
      | _ => false) = true) ∧
    (let s := { one with agenda := [.event .moduleReset] }
     s.agenda = .event .moduleReset :: []) ∧
    (one.agenda = [] ∧ timedEvents one = [] ∧ freeEvents one = [] ∧ nextTurn one one.turn = some (0, 0, false)) ∧
    (let s := { one with cycle := 5 }
     s.agenda = [] ∧ timedEvents s = [] ∧ freeEvents s = [] ∧ nextTurn s s.turn = some (0, 0, true)) :=
  ⟨⟨rfl, by decide +kernel, fetchIs_of (by decide +kernel), fetchIs_of (by decide +kernel)⟩,
    ⟨rfl, by decide +kernel, by decide +kernel⟩, rfl, by decide +kernel, by decide +kernel⟩

theorem witness_answers : isEncoded (.add ⟨1, 2, 3⟩) = true ∧ isEncoded .moduleReset = false ∧ RunsThread one ∧
    ¬ RunsThread State.reset ∧ WellFormed (.add ⟨1, 2, 3⟩) ∧ Machine.Inv one ∧ (∃ t, step (placed 0x000A2193) = .next t) := by
  refine ⟨rfl, rfl, by unfold RunsThread; decide +kernel, by unfold RunsThread; decide +kernel,
    by unfold WellFormed; decide, by unfold Machine.Inv; decide +kernel, ?_⟩
  have h : (match step (placed 0x000A2193) with
    | .next _ => true
    | _ => false) = true := by decide +kernel
  split at h
  · next t ht => exact ⟨t, ht⟩
  · cases h

/-- A supervisor thread, a user thread, a light one: with a misaligned base, and with an odd epc. -/
theorem witness_checks :
    (∀ s ∈ [with_ [(2, 0x30001)], one.onMe (fun x => { x with sys := { x.sys with status := 4 } }), lit one],
      NoChunk s ∧ RunsThread s ∧ s.me.vq = [] ∧ s.me.held = []) ∧
    (one.onMe (fun x => { x with sys := { x.sys with status := 4 } })).me.spv = false ∧ (lit one).me.light = true ∧
    Ready (with_ [(2, 0x30001)]) [2, 3] ∧
    (∀ n ∈ [2, 4, 8], ((with_ [(2, 0x30001)]).me.regs.get 2 + (0 : BitVec 12).signExtend 64).toNat % n ≠ 0) ∧
    (let s := one.onMe (fun x => { x with sys := { x.sys with epc := 0x20001 } })
     NoChunk s ∧ RunsThread s ∧ s.me.vq = [] ∧ s.me.held = [] ∧ s.me.spv = true ∧ s.me.sys.epc.getLsbD 0 = true) := by
  unfold NoChunk RunsThread
  exact ⟨by decide +kernel, by decide +kernel, by decide +kernel, ready_of (by decide +kernel), by decide +kernel,
    by decide +kernel⟩

/-! ### Single steps -/

/-- The state after one step that issues an encoded instruction with the given scalar registers, when there is one. -/
def after1 (i : Instr) (rs : List (Reg × Nat)) (f : Slot → Slot) : Option State :=
  match encode i with
  | some c =>
    let n := match c with
      | .half h => h.toNat
      | .word w => w.toNat
    let s := (State.reset.withFetchWord 32 n).putLe (placeTables + 0x4000 + 8 * 0x30) 8 (0x30 * 65536 + 0x1BF)
    match step (s.onMe (fun x => f { x with regs := rs.foldl (fun r e => { r with s := (r.set e.1 (word e.2)).s }) x.regs })) with
    | .next t => some t
    | _ => none
  | none => none

/-- Register `r` after the step. -/
def gives (i : Instr) (rs : List (Reg × Nat)) (r : Reg) : Option Nat := (after1 i rs id).map (fun t => (t.me.regs.get r).toNat)

def neg (n : Nat) : Nat := 2 ^ 64 - n

/-- R136: the operations wrap; division truncates, and by zero gives all ones or the dividend; shifts count modulo 64. -/
theorem test_registerOperations : ∀ e ∈ ([
    (.add ⟨2, 1, 3⟩, neg 1, 2, 1), (.sub ⟨2, 1, 3⟩, 0, 1, neg 1), (.mul ⟨2, 1, 3⟩, neg 3, 5, neg 15),
    (.mulh ⟨2, 1, 3⟩, neg 1, 2, neg 1), (.mulhu ⟨2, 1, 3⟩, neg 1, neg 1, neg 2), (.div ⟨2, 1, 3⟩, neg 7, 2, neg 3),
    (.div ⟨2, 1, 3⟩, 2 ^ 63, neg 1, 2 ^ 63), (.rem ⟨2, 1, 3⟩, neg 7, 2, neg 1), (.rem ⟨2, 1, 3⟩, 2 ^ 63, neg 1, 0),
    (.divu ⟨2, 1, 3⟩, 9, 0, neg 1), (.remu ⟨2, 1, 3⟩, 9, 0, 9), (.and ⟨2, 1, 3⟩, 12, 10, 8), (.or ⟨2, 1, 3⟩, 12, 10, 14),
    (.xor ⟨2, 1, 3⟩, 12, 10, 6), (.sll ⟨2, 1, 3⟩, 3, 65, 6), (.srl ⟨2, 1, 3⟩, 2 ^ 63, 63, 1), (.sra ⟨2, 1, 3⟩, 2 ^ 63, 63, neg 1),
    (.min ⟨2, 1, 3⟩, neg 1, 1, neg 1), (.max ⟨2, 1, 3⟩, neg 1, 1, 1), (.minu ⟨2, 1, 3⟩, neg 1, 1, 1),
    (.maxu ⟨2, 1, 3⟩, neg 1, 1, neg 1), (.clz ⟨0, 1, 3⟩, 1, 0, 63), (.ctz ⟨0, 1, 3⟩, 0, 0, 64), (.popc ⟨0, 1, 3⟩, 0xF0F, 0, 8)] :
    List (Instr × Nat × Nat × Nat)), gives e.1 [(1, e.2.1), (2, e.2.2.1)] 3 = some e.2.2.2 := by decide +kernel

/-- R137: immediates are sign-extended; R141: LIW places its immediate at bit 12. -/
theorem test_immediates : ∀ e ∈ ([
    (.addi ⟨-1, 1, 3⟩, 0, neg 1), (.andi ⟨-16, 1, 3⟩, neg 1, neg 16), (.ori ⟨-2048, 1, 3⟩, 1, neg 2047), (.xori ⟨-1, 1, 3⟩, 0, neg 1),
    (.slli ⟨63, 1, 3⟩, 3, 2 ^ 63), (.srli ⟨63, 1, 3⟩, neg 1, 1), (.srai ⟨62, 1, 3⟩, 2 ^ 63, neg 2), (.liw ⟨-1, 3⟩, 0, neg 4096),
    (.pcadd ⟨1, 3⟩, 0, placeCode + 4096)] : List (Instr × Nat × Nat)), gives e.1 [(1, e.2.1)] 3 = some e.2.2 := by decide +kernel

/-- R64: a write of zr is discarded. R140: loads sign-extend and zero-extend, in tracked memory and in the core's window. -/
theorem test_loads : gives (.addi ⟨5, 1, 31⟩) [] 31 = some 0 ∧
    (∀ e ∈ ([(.ld16 ⟨0, 1, 3⟩, neg 2), (.ld16u ⟨0, 1, 3⟩, 0xFFFE), (.ld32 ⟨-4, 2, 3⟩, neg 0x7FFF0002), (.ld64 ⟨0, 1, 3⟩, 0x8000FFFE)] :
      List (Instr × Nat)), ∀ p ∈ [0x30000, win],
      (match exec e.1 ((with_ [(1, p), (2, p + 4)]).putLe (if p = win then 2 ^ 52 else p) 8 0x8000FFFE) with
      | .next t => (match t.me.wait with | .loadData d v _ => some (d, v.toNat) | _ => some (3, (t.me.regs.get 3).toNat))
      | _ => none) = some (3, e.2)) := by decide +kernel

/-- R140: a store joins the open chunk; memory has it after the commit (R289, R292). -/
theorem test_store : (after1 (.st32 ⟨8, 1, 2⟩) [(1, 0x30000), (2, 0x1122334455667788)] id).map (fun t =>
    (t.me.chunk.stores.map (fun r => (r.key, r.bytes)), t.le 0x30008 4)) =
    some ([(0x30008, [0x88, 0x77, 0x66, 0x55])], 0) := by decide +kernel

/-- R138: signed and unsigned order, into p[d]. -/
theorem test_compares : ∀ e ∈ ([(.cmplt ⟨2, 1, 5⟩, true), (.cmpltu ⟨2, 1, 5⟩, false), (.cmpeq ⟨2, 1, 5⟩, false),
    (.cmple ⟨2, 1, 5⟩, true), (.cmplti ⟨0, 1, 5⟩, true), (.cmpeqi ⟨-1, 1, 5⟩, true)] : List (Instr × Bool)),
    (after1 e.1 [(1, neg 1), (2, 1)] id).map (fun t => t.me.regs.p.getLsbD 5) = some e.2 := by decide +kernel

/-- R141, R142: branch offsets count halfwords; CALL links to the next instruction; a jump to an odd target traps. -/
theorem test_transfers :
    (after1 (.br ⟨-2⟩) [] id).map (fun t => t.me.regs.pc) = some (word (placeCode - 4)) ∧
    (after1 (.bp ⟨8, 5⟩) [] (fun x => { x with regs := { x.regs with p := 32 } })).map (fun t => t.me.regs.pc) =
      some (word (placeCode + 16)) ∧
    (after1 (.call ⟨4⟩) [] id).map (fun t => (t.me.regs.pc, t.me.regs.get 30)) =
      some (word (placeCode + 8), word (placeCode + 4)) ∧
    (after1 (.jr ⟨0, 1, 0⟩) [(1, 0x20001)] id).map (fun t => (t.me.sys.ecause, t.me.sys.einfo, t.me.sys.eaddr, t.me.sys.epc)) =
      some (0x13, 2, 0x20001, word placeCode) := by decide +kernel

/-- R253, R255, R89: TRAP enters the handler at svec with the status saved; ERET restores it; SYSWR is privileged. -/
theorem test_traps :
    (after1 (.trap ⟨7, 0, 0⟩) [] (fun x => { x with sys := { x.sys with svec := 0x5000, status := 4 } })).map (fun t =>
      (t.me.sys.ecause, t.me.regs.pc, t.me.sys.epc, t.me.spv, t.me.ie)) = some (0x01, 0x5000, word (placeCode + 4), true, false) ∧
    (after1 (.eret ⟨0, 0, 0⟩) [] (fun x => { x with sys := { x.sys with epc := 0x7000 } })).map (fun t => t.me.regs.pc) =
      some 0x7000 ∧
    (after1 (.syswr ⟨0x002, 1, 0⟩) [] (fun x => { x with sys := { x.sys with status := 4 } })).map (fun t =>
      (t.me.sys.ecause, t.me.sys.einfo)) = some (0x11, 2) := by decide +kernel

/-- R146, values from the tables of FP32: 1.5 + 2.25, 1 / 3, the square root of 2, 2 × 3 + 1, and a NaN. -/
theorem test_scalarFloat : ∀ e ∈ ([(.fadd ⟨2, 1, 3⟩, 0x3FC00000, 0x40100000, 0, 0x40700000),
    (.fdiv ⟨2, 1, 3⟩, 0x3F800000, 0x40400000, 0, 0x3EAAAAAB), (.fsqrt ⟨0, 1, 3⟩, 0x40000000, 0, 0, 0x3FB504F3),
    (.fma ⟨2, 1, 3⟩, 0x40000000, 0x40400000, 0x3F800000, 0x40E00000), (.fsub ⟨2, 1, 3⟩, 0x7F800000, 0x7F800000, 0, 0x7FC00000)] :
    List (Instr × Nat × Nat × Nat × Nat)),
    gives e.1 [(1, e.2.1), (2, e.2.2.1), (3, e.2.2.2.1)] 3 = some e.2.2.2.2 := by decide +kernel

/-- R244: an atomic of a window word answers the old value and leaves the new one. -/
theorem test_atomic : (match exec (.amoadd ⟨1, 2, 1, 3⟩) ((with_ [(1, win), (2, 5)]).putLe (2 ^ 52) 8 37) with
    | .next t => some ((t.me.regs.get 3).toNat, t.le (2 ^ 52) 8)
    | _ => none) = some (37, 42) := by decide +kernel

/-- R176, R170: VADD of three elements under mask m3 = 101: the one that is not selected keeps its value. -/
theorem test_vectorAdd : (match exec (.vectorUnitDispatch 0) (lanes (wordVF 0x1C 0 ⟨0, 3, 5, 4, 8⟩) 4 3 [] 0 []) with
    | .next t => some ((List.range 3).map (groupEl (shapeOf t.me.vec none) 32 t.me.vec 8 1), t.me.vq)
    | _ => none) = some ([2, 2, 5], []) := by decide +kernel

end Sys2Proof.Tests
end

section
/-! PROOF. Scalar words: what the arithmetic of the model's words gives as numbers (R83, R111, R136 to R138), and which bits
the counts describe. -/

namespace Sys2Proof.Machine

theorem sub_eq_ofInt (a b : Word) : a - b = BitVec.ofInt 64 (a.toInt - b.toInt) :=
  BitVec.eq_of_toInt_eq (by rw [BitVec.toInt_sub, BitVec.toInt_ofInt])

theorem mul_eq_ofInt (a b : Word) : a * b = BitVec.ofInt 64 (a.toInt * b.toInt) := by
  rw [BitVec.ofInt_mul, BitVec.ofInt_toInt, BitVec.ofInt_toInt]

/-- The high half of the product modulo 2^128 is the high half of the product, modulo 2^64. -/
theorem mulHigh_eq (a b : Word) : mulHigh a b = BitVec.ofInt 64 (a.toInt * b.toInt / 2 ^ 64) := by
  apply BitVec.eq_of_toNat_eq
  simp only [mulHigh, word, truncI, BitVec.toNat_ofNat, BitVec.toNat_ofInt]
  generalize a.toInt * b.toInt = p
  norm_num
  omega

theorem divS_eq (a b : Word) :
    divS a b = if b = 0 then BitVec.allOnes 64 else BitVec.ofInt 64 (a.toInt.tdiv b.toInt) := by
  have hq : a.sdiv b = BitVec.ofInt 64 (a.toInt.tdiv b.toInt) :=
    BitVec.eq_of_toInt_eq (by rw [BitVec.toInt_sdiv, BitVec.toInt_ofInt])
  rw [divS, hq]

theorem remS_eq (a b : Word) : remS a b = if b = 0 then a else BitVec.ofInt 64 (a.toInt.tmod b.toInt) := by
  have hr : a.srem b = BitVec.ofInt 64 (a.toInt.tmod b.toInt) := by
    rw [← BitVec.toInt_srem, BitVec.ofInt_toInt]
  rw [remS, hr]

theorem divU_eq (a b : Word) :
    divU a b = if b = 0 then BitVec.allOnes 64 else BitVec.ofNat 64 (a.toNat / b.toNat) := by
  rw [divU, BitVec.ofNat_eq_ofNat, show a.udiv b = a / b from rfl, BitVec.udiv_def]

theorem remU_eq (a b : Word) : remU a b = if b = 0 then a else BitVec.ofNat 64 (a.toNat % b.toNat) := by
  have hr : a.umod b = BitVec.ofNat 64 (a.toNat % b.toNat) := BitVec.umod_def
  rw [remU, hr]

/-- A choice by a strict order is the choice by the order where equal keys choose alike. -/
theorem ite_lt_eq_ite_le {α β : Type} [LinearOrder α] {p q : α} {x y : β} (h : p = q → x = y) :
    (if p < q then x else y) = if p ≤ q then x else y := by
  rcases lt_trichotomy p q with hlt | heq | hgt
  · rw [if_pos hlt, if_pos hlt.le]
  · rw [h heq, ite_self, ite_self]
  · rw [if_neg hgt.not_gt, if_neg hgt.not_ge]

theorem minS_eq (a b : Word) : (if a.slt b then a else b) = if a.toInt ≤ b.toInt then a else b := by
  simpa only [BitVec.slt, decide_eq_true_eq] using ite_lt_eq_ite_le BitVec.eq_of_toInt_eq

theorem maxS_eq (a b : Word) : (if a.slt b then b else a) = if a.toInt ≤ b.toInt then b else a := by
  simpa only [BitVec.slt, decide_eq_true_eq] using ite_lt_eq_ite_le fun h => (BitVec.eq_of_toInt_eq h).symm

theorem minU_eq (a b : Word) : (if a.ult b then a else b) = if a.toNat ≤ b.toNat then a else b := by
  simpa only [BitVec.ult, decide_eq_true_eq] using ite_lt_eq_ite_le BitVec.eq_of_toNat_eq

theorem maxU_eq (a b : Word) : (if a.ult b then b else a) = if a.toNat ≤ b.toNat then b else a := by
  simpa only [BitVec.ult, decide_eq_true_eq] using ite_lt_eq_ite_le fun h => (BitVec.eq_of_toNat_eq h).symm

theorem bne_eq_decide_ne (a b : Word) : (a != b) = decide (a ≠ b) := by
  rw [bne, beq_eq_decide, decide_not]

/-- A sum with a sign-extended immediate, read as signed numbers. -/
theorem add_sext64_eq_ofInt {n : Nat} (a : Word) (y : BitVec n) :
    a + sext64 y = BitVec.ofInt 64 (a.toInt + y.toInt) := by
  rw [BitVec.ofInt_add, BitVec.ofInt_toInt]
  rfl

theorem beq_sext64 (a : Word) (y : BitVec 12) : (a == sext64 y) = decide (a.toInt = y.toInt) := by
  rw [beq_eq_decide, decide_eq_decide, ← BitVec.toInt_inj, sext64, BitVec.toInt_signExtend_of_le (by omega)]

theorem slt_sext64 (a : Word) (y : BitVec 12) : a.slt (sext64 y) = decide (a.toInt < y.toInt) := by
  rw [BitVec.slt, sext64, BitVec.toInt_signExtend_of_le (by omega)]

/-- A target is the pc and twice the signed offset (R83). -/
theorem targetOf_eq {n : Nat} (pc : Word) (off : BitVec n) :
    targetOf pc off = pc + BitVec.ofInt 64 (2 * off.toInt) := by
  rw [targetOf, BitVec.shiftLeft_eq_mul_twoPow, BitVec.mul_comm, BitVec.ofInt_mul]
  rfl

/-! ### The bit counts (R136) -/

theorem clzN_le (w v : Nat) : clzN w v ≤ w := by
  unfold clzN
  split <;> omega

/-- The `clzN` highest bits are zero. -/
theorem clzN_zero_bits (x : Word) {i : Nat} (h : 64 - clzN 64 x.toNat ≤ i) : x.getLsbD i = false := by
  rw [BitVec.getLsbD]
  apply Nat.testBit_lt_two_pow
  have hx := x.isLt
  unfold clzN at h
  rw [Nat.mod_eq_of_lt hx] at h
  split at h
  · next h0 => rw [h0]; exact Nat.two_pow_pos i
  · next h0 =>
    have hlog := (Nat.log2_lt h0).2 hx
    exact (Nat.log2_lt h0).1 (by omega)

/-- The bit below the leading zeros is set. -/
theorem clzN_one_bit (x : Word) (h : clzN 64 x.toNat < 64) : x.getLsbD (63 - clzN 64 x.toNat) = true := by
  have hx := x.isLt
  unfold clzN at h ⊢
  rw [Nat.mod_eq_of_lt hx] at h ⊢
  split at h
  · omega
  · next h0 =>
    have hl := (Nat.log2_lt h0).2 hx
    rw [if_neg h0, show 63 - (64 - 1 - x.toNat.log2) = x.toNat.log2 by omega]
    exact Nat.testBit_log2 h0

theorem ctzN_le (w v : Nat) : ctzN w v ≤ w := by
  induction w generalizing v with
  | zero => exact Nat.le_refl 0
  | succ w ih =>
    have hrest := ih (v / 2)
    rw [ctzN]
    split <;> omega

/-- The `ctzN` lowest bits are zero. -/
theorem ctzN_zero_bits {w v i : Nat} (h : i < ctzN w v) : v.testBit i = false := by
  induction w generalizing v i with
  | zero => exact absurd h (Nat.not_lt_zero i)
  | succ w ih =>
    rw [ctzN] at h
    split at h
    · exact absurd h (Nat.not_lt_zero i)
    · next hodd => cases i with
      | zero => simpa using hodd
      | succ i => rw [Nat.testBit_succ]; exact ih (by omega)

/-- The bit above the trailing zeros is set. -/
theorem ctzN_one_bit {w v : Nat} (h : ctzN w v < w) : v.testBit (ctzN w v) = true := by
  induction w generalizing v with
  | zero => exact absurd h (Nat.not_lt_zero _)
  | succ w ih =>
    rw [ctzN] at h ⊢
    split at h
    · next hodd => rw [if_pos hodd]; simpa using hodd
    · next hodd =>
      rw [if_neg hodd, Nat.add_comm, Nat.testBit_succ]
      exact ih (by omega)

theorem popCount_eq_countP (w v : Nat) : popCount w v = (List.range w).countP (fun i => v.testBit i) := by
  induction w generalizing v with
  | zero => rfl
  | succ w ih =>
    rw [popCount, ih, List.range_succ_eq_map, List.countP_cons, List.countP_map, Nat.add_comm]
    congr 1
    · simp [Function.comp_def, Nat.testBit_succ]
    · rcases Nat.mod_two_eq_zero_or_one v with h | h <;> simp [h]

end Sys2Proof.Machine
end

section
/-! PROOF. Trap entry: what the issuing slot holds once a precise trap has entered its handler (R253, R71), through the fault
logs, whose writes squash other slots (R294, R425). -/

namespace Sys2Proof.Machine

/-- The slot `y` is the slot `x` in everything that a trap leaves to the handler: registers, chunk, vector queue, held frame
and every system register but the event counters. -/
structure SameAtTrap (x y : Slot) : Prop where
  regs : y.regs = x.regs
  chunk : y.chunk = x.chunk
  vq : y.vq = x.vq
  held : y.held = x.held
  sys : ∃ c v, y.sys = { x.sys with evc := c, evsel := v }

theorem SameAtTrap.refl (x : Slot) : SameAtTrap x x := ⟨rfl, rfl, rfl, rfl, _, _, rfl⟩

theorem SameAtTrap.trans {x y z : Slot} (h : SameAtTrap x y) (g : SameAtTrap y z) : SameAtTrap x z where
  regs := g.regs.trans h.regs
  chunk := g.chunk.trans h.chunk
  vq := g.vq.trans h.vq
  held := g.held.trans h.held
  sys := by
    obtain ⟨_, _, hs⟩ := h.sys
    obtain ⟨c, v, gs⟩ := g.sys
    exact ⟨c, v, by rw [gs, hs]⟩

theorem sameAtTrap_countAs (x : Slot) (b : Bool) (e n : Nat) : SameAtTrap x (countAs x b e n) := by
  obtain ⟨c, v, h⟩ := countAs_eq x b e n
  rw [h]
  exact ⟨rfl, rfl, rfl, rfl, _, _, rfl⟩

/-- A fold of steps none of which touches a slot touches none. -/
theorem foldl_slots {α : Type} (f : State → α → State) (h : ∀ s a, (f s a).slots = s.slots) (l : List α) (s : State) :
    (l.foldl f s).slots = s.slots := by
  induction l generalizing s with
  | nil => rfl
  | cons a l ih => rw [List.foldl_cons, ih, h]

theorem onCtr_slots (s : State) (a : Nat) (f : Ctr → Ctr) : (s.onCtr a f).slots = s.slots := by
  unfold State.onCtr
  split <;> rfl

theorem giveUnits_slots (s : State) (cluster ctr n : Nat) : (giveUnits s cluster ctr n).slots = s.slots := by
  unfold giveUnits
  split
  · rfl
  · split
    · split
      · rfl
      · exact onCtr_slots ..
    · exact onCtr_slots ..

theorem putAllow_slots (s : State) (cluster ctr a g : Nat) : (putAllow s cluster ctr a g).slots = s.slots := by
  unfold putAllow
  dsimp only
  split
  · exact foldl_slots _ (fun s e => onCtr_slots ..) _ _
  · rfl

theorem restoreUnits_slots (s : State) (cluster ctr n : Nat) : (restoreUnits s cluster ctr n).slots = s.slots := by
  unfold restoreUnits
  split
  · rfl
  · split
    · exact putAllow_slots ..
    · split
      · exact giveUnits_slots ..
      · exact (putAllow_slots ..).trans (onCtr_slots ..)

theorem unreserve_slots (s : State) (cluster : Nat) (p : PushTo) : (unreserve s cluster p).slots = s.slots := by
  cases p with
  | data _ ctr => exact giveUnits_slots ..
  | scalarQ c i _ => rfl
  | command e _ place => cases place <;> rfl

theorem unrelease_slots (cluster : Nat) (s : State) (r : Release) : (unrelease cluster s r).slots = s.slots := by
  cases r with
  | push q _ => exact unreserve_slots ..
  | command => rfl
  | task _ _ ctr _ => exact giveUnits_slots ..
  | spawn => rfl
  | gone _ q => exact unreserve_slots ..

theorem discardDeferred_slots (cluster : Nat) (s : State) (d : Deferred) :
    (discardDeferred cluster s d).slots = s.slots := by
  cases d with
  | vec e => exact foldl_slots _ (fun s q => unreserve_slots ..) _ _
  | release r => exact unrelease_slots ..
  | redadd => rfl

theorem discardLows_slots (s : State) (now before : Store (Option Port)) : (discardLows s now before).slots = s.slots := by
  unfold discardLows
  exact (foldl_slots _ (by exact fun _ _ => rfl) _ _).trans (foldl_slots _ (by exact fun _ _ => rfl) _ _)

theorem withdraw_slots (s : State) (k : Nat) : (withdraw s k).slots = s.slots := rfl

theorem slot_of_slots {s t : State} (h : t.slots = s.slots) (k : Nat) : t.slot k = s.slot k := by
  rw [State.slot, h, State.slot]

theorem onSlot_slots_of_slots {s t : State} (h : t.slots = s.slots) (k : Nat) (f : Slot → Slot) :
    (t.onSlot k f).slots = (s.onSlot k f).slots := by
  simp only [State.onSlot, State.putSlot, slot_of_slots h, h]

/-- Requests given back change nothing of the machine's slots but the answers of their own slot. -/
theorem dropRequests_slots (s : State) (k : Nat) :
    (dropRequests s k).slots = (s.onSlot k (fun y => { y with answer := none, granted := none })).slots := by
  unfold dropRequests
  dsimp only
  refine onSlot_slots_of_slots (Eq.trans (withdraw_slots ..) ?_) k _
  split
  case' h_1 => refine (restoreUnits_slots ..).trans ?_
  all_goals
    split
    · split
      · rfl
      · exact restoreUnits_slots ..
    · rfl

theorem sameAtTrap_dropRequests (s : State) (j k : Nat) : SameAtTrap (s.slot k) ((dropRequests s j).slot k) := by
  rw [slot_of_slots (dropRequests_slots s j)]
  by_cases h : k = j
  · subst h
    rw [slot_onSlot_same]
    exact ⟨rfl, rfl, rfl, rfl, _, _, rfl⟩
  · rw [slot_onSlot_other _ _ h]
    exact .refl _

theorem sameAtTrap_count (s : State) (j k ev : Nat) : SameAtTrap (s.slot k) ((s.count j ev).slot k) := by
  by_cases h : k = j
  · subst h
    rw [State.count, slot_onSlot_same]
    exact sameAtTrap_countAs ..
  · rw [State.count, slot_onSlot_other _ _ h]
    exact .refl _

/-- A squash of any slot leaves a slot whose chunk is empty as a trap needs it. -/
theorem sameAtTrap_squash (s : State) (j k : Nat) (hk : (s.slot k).chunk = .empty) :
    SameAtTrap (s.slot k) ((squash s j).slot k) := by
  unfold squash
  dsimp only
  refine .trans ?_ (sameAtTrap_count ..)
  have h1 : ((s.slot j).chunk.deferred.foldl (discardDeferred (clusterOf j)) (dropRequests s j)).slots =
      (dropRequests s j).slots := foldl_slots _ (discardDeferred_slots _) _ _
  generalize (s.slot j).chunk.deferred.foldl (discardDeferred (clusterOf j)) (dropRequests s j) = s1 at h1 ⊢
  have h2 : (if (s.slot j).chunk.count = 0 then s1
      else discardLows s1 (s.slot j).ports (s.slot j).chunk.ckptPorts).slots = (dropRequests s j).slots := by
    split
    · exact h1
    · exact (discardLows_slots ..).trans h1
  generalize (if (s.slot j).chunk.count = 0 then s1
      else discardLows s1 (s.slot j).ports (s.slot j).chunk.ckptPorts) = s2 at h2 ⊢
  have hd := sameAtTrap_dropRequests s j k
  rw [← slot_of_slots h2] at hd
  refine hd.trans ?_
  by_cases h : k = j
  · subst h
    rw [slot_onSlot_same, hk]
    exact ⟨rfl, (hd.chunk.trans hk).symm, rfl, rfl, _, _, rfl⟩
  · rw [slot_onSlot_other _ _ h]
    exact .refl _

theorem sameAtTrap_squashAll (l : List Nat) (s : State) (k : Nat) (hk : (s.slot k).chunk = .empty) :
    SameAtTrap (s.slot k) ((l.foldl squash s).slot k) := by
  induction l generalizing s with
  | nil => exact .refl _
  | cons j l ih =>
    have h := sameAtTrap_squash s j k hk
    exact h.trans (ih _ (h.chunk.trans hk))

theorem dropShares_slots (s : State) (f : Nat → Bool) (sec : Nat) : (dropShares s f sec).slots = s.slots := by
  unfold dropShares dropEntries
  split <;> rfl

theorem sameAtTrap_outsideWrite (s : State) (key : Nat) (bs : List Byte) (k : Nat) (hk : (s.slot k).chunk = .empty) :
    SameAtTrap (s.slot k) ((outsideWrite s key bs).slot k) := by
  unfold outsideWrite
  dsimp only
  rw [slot_of_slots (foldl_slots _ (fun s sec => dropShares_slots ..) _ _)]
  exact sameAtTrap_squashAll _ s k hk

theorem sameAtTrap_writeRecs (base entries time : Nat) (l : List FaultRec) (s : State) (w k : Nat)
    (hk : (s.slot k).chunk = .empty) : SameAtTrap (s.slot k) ((writeRecs base entries time s w l).slot k) := by
  induction l generalizing s w with
  | nil => exact .refl _
  | cons r l ih =>
    have h := sameAtTrap_outsideWrite s (base + 64 + 64 * (w % entries)) (recordBytes r time w) k hk
    exact h.trans (ih _ _ (h.chunk.trans hk))

theorem sameAtTrap_ringWrite (s : State) (base entries : Nat) (r : FaultRec) (k : Nat)
    (hk : (s.slot k).chunk = .empty) : SameAtTrap (s.slot k) ((ringWrite s base entries r).slot k) := by
  unfold ringWrite
  split
  · exact .refl _
  · dsimp only
    split
    · have h := sameAtTrap_writeRecs base entries (s.cycle / 16) (placeRec r (lateRecs s base)) s
        (s.le base 8 - (lateRecs s base).length) k hk
      generalize writeRecs base entries (s.cycle / 16) s (s.le base 8 - (lateRecs s base).length)
        (placeRec r (lateRecs s base)) = t at h ⊢
      exact h.trans (sameAtTrap_outsideWrite
        { t with lately := wr (0, []) t.lately base (s.cycle, placeRec r (lateRecs s base)) } _ _ k (h.chunk.trans hk))
    · exact sameAtTrap_outsideWrite _ _ _ k hk

theorem raiseMsix_slots (s : State) (fn : Nat × Nat) (vector : Nat) : (raiseMsix s fn vector).slots = s.slots := by
  unfold raiseMsix
  split
  · rfl
  · split
    · rfl
    · split <;> rfl

/-- The fault logs leave a slot whose chunk is empty as its trap set it. -/
theorem sameAtTrap_logRecord (s : State) (r : FaultRec) (k : Nat) (hk : (s.slot k).chunk = .empty) :
    SameAtTrap (s.slot k) ((logRecord s r).slot k) := by
  unfold logRecord
  dsimp only
  have h1 := sameAtTrap_ringWrite s (s.dreg (clbaseA r.asid)).toNat (fieldOf (s.dreg (clbaseA r.asid + 8)) 15 0 + 1) r k hk
  refine h1.trans ?_
  set s1 := ringWrite s (s.dreg (clbaseA r.asid)).toNat (fieldOf (s.dreg (clbaseA r.asid + 8)) 15 0 + 1) r
  have h2 := sameAtTrap_ringWrite s1 (s1.dreg dlbaseA).toNat (fieldOf (s1.dreg (dlbaseA + 8)) 15 0 + 1) r k
    (h1.chunk.trans hk)
  split
  · exact h2
  · split
    · rw [slot_of_slots (raiseMsix_slots ..)]
      exact h2
    · exact h2

theorem statusTrap_getLsbD (w : Word) {i : Nat} (hi : i < 64) : (statusTrap w).getLsbD i =
    (if i = 0 then true else if i = 1 then w.getLsbD 0 else if i = 2 then false else if i = 3 then w.getLsbD 2
      else w.getLsbD i) := by
  have hkept : ∀ i < 64, (~~~(0xF : Word)).getLsbD i = decide (4 ≤ i) := by decide
  have hpspv : ∀ b : Bool, ∀ i < 64, (if b then 2 else 0 : Word).getLsbD i = (b && decide (i = 1)) := by decide
  have hpie : ∀ b : Bool, ∀ i < 64, (if b then 8 else 0 : Word).getLsbD i = (b && decide (i = 3)) := by decide
  have hspv : ∀ i < 64, (1 : Word).getLsbD i = decide (i = 0) := by decide
  simp only [statusTrap, BitVec.getLsbD_or, BitVec.getLsbD_and, hkept i hi, hpspv _ i hi, hpie _ i hi, hspv i hi]
  match i with
  | 0 | 1 | 2 | 3 | i + 4 => simp

@[simp] theorem landData_sys (x : Slot) : (landData x).sys = x.sys := by
  unfold landData
  split <;> rfl
@[simp] theorem landData_held (x : Slot) : (landData x).held = x.held := by
  unfold landData
  split <;> rfl
@[simp] theorem landData_vq (x : Slot) : (landData x).vq = x.vq := by
  unfold landData
  split <;> rfl
@[simp] theorem landData_chunk (x : Slot) : (landData x).chunk = x.chunk := by
  unfold landData
  split <;> rfl

/-- The frame that a trap holds back: what was held and the undispatched work behind it (R253). -/
theorem holdFrame_held_work (x : Slot) : (holdFrame x).held.map QEntry.work = (x.held ++ x.vq).map QEntry.work := by
  simp only [holdFrame, List.map_map]
  refine List.map_congr_left fun e _ => ?_
  simp only [Function.comp_apply]
  split <;> rfl

/-- einfo as a trap writes it: with the field held of R421 for a precise cause of 0x13 and above. -/
def trapInfo (x : Slot) (c : Cause) (precise : Bool) : Word :=
  if 0x13 ≤ c.code ∧ precise then c.info ||| (if x.held ++ x.vq = [] then 0 else 0x2000) else c.info


theorem holdFrame_held_nil (x : Slot) : (holdFrame x).held = [] ↔ x.held ++ x.vq = [] := by
  rw [holdFrame, List.map_eq_nil_iff]

theorem SameAtTrap.sysRegs {x y : Slot} (h : SameAtTrap x y) : y.sys.status = x.sys.status ∧ y.sys.svec = x.sys.svec ∧
    y.sys.epc = x.sys.epc ∧ y.sys.ecause = x.sys.ecause ∧ y.sys.eaddr = x.sys.eaddr ∧ y.sys.einfo = x.sys.einfo := by
  obtain ⟨c, v, hs⟩ := h.sys
  rw [hs]
  exact ⟨rfl, rfl, rfl, rfl, rfl, rfl⟩

/-- A slot whose vector unit stopped, whose registers a trap wrote and which kept them since has taken the trap. -/
theorem trapTaken_of_sameAtTrap {s t : State} {k : Nat} {x : Slot} (c : Cause) (epc : Word)
    (hx : SameAtTrap (s.slot k) x)
    (ht : SameAtTrap (trapRegs (holdFrame (landArrivals (landData x))) c epc) (t.slot k)) :
    TrapTaken s t k c.code c.addr c.info epc := by
  obtain ⟨hstatus, hsvec, -⟩ := hx.sysRegs
  obtain ⟨tstatus, -, tepc, tcause, taddr, tinfo⟩ := ht.sysRegs
  refine ⟨tcause, taddr, tinfo, tepc, fun i hi => ?_, ?_, ht.vq, ?_⟩
  · rw [tstatus, ← hstatus]
    simpa [trapRegs] using statusTrap_getLsbD x.sys.status hi
  · rw [ht.regs, ← hsvec]
    simp [trapRegs]
  · rw [ht.held, ← hx.held, ← hx.vq, trapRegs_held, holdFrame_held_work]
    simp

/-- A slot whose chunk holds nothing enters its handler (R253). -/
theorem takeTrap_taken (s : State) (k : Nat) (c : Cause) (epc : Word) (precise : Bool)
    (hk : (s.slot k).chunk = .empty) :
    TrapTaken s (takeTrap s k c epc precise) k c.code c.addr (trapInfo (s.slot k) c precise) epc := by
  have hx := sameAtTrap_dropRequests s k k
  have hinfo : (if 0x13 ≤ c.code ∧ precise then
      c.info ||| (if (holdFrame (landArrivals (landData ((dropRequests s k).slot k)))).held = [] then 0 else 0x2000)
      else c.info) = trapInfo (s.slot k) c precise := by
    simp only [trapInfo, holdFrame_held_nil, landArrivals_held, landArrivals_vq, landData_held, landData_vq, hx.held, hx.vq]
  unfold takeTrap
  dsimp only
  rw [hinfo]
  apply trapTaken_of_sameAtTrap ⟨c.code, c.addr, trapInfo (s.slot k) c precise⟩ epc hx
  split
  · refine .trans ?_ (sameAtTrap_logRecord _ _ k ?_)
    · rw [slot_putSlot_same]
      exact .refl _
    · rw [slot_putSlot_same, trapRegs_chunk, holdFrame_chunk, landArrivals_chunk, landData_chunk, hx.chunk, hk]
  · rw [slot_putSlot_same]
    exact .refl _

/-- With no vector work queued or held, einfo holds what the cause gives. -/
theorem trapInfo_of_idle {x : Slot} (hq : x.vq = []) (hh : x.held = []) (c : Cause) (precise : Bool) :
    trapInfo x c precise = c.info := by
  simp [trapInfo, hq, hh]

/-- A precise cause of an instruction that opens a chunk, of a thread without queued or held vector work (R253). -/
theorem trapWith_taken {s : State} (c : Cause) (hn : NoChunk s) (hq : s.me.vq = []) (hh : s.me.held = [])
    (hc : c.code ≠ 0x18) : TrapTaken s (trapWith s c .none) s.cur c.code c.addr c.info s.me.regs.pc := by
  have hcount : s.me.chunk.count = 0 := congrArg Chunk.count hn
  have h := takeTrap_taken s s.cur c s.me.regs.pc true hn
  rw [trapInfo_of_idle (x := s.slot s.cur) hq hh] at h
  simpa only [trapWith, hcount, applyFix, hc, if_true, if_false] using h

end Sys2Proof.Machine
end

section
/-! PROOF. Scalar issue: how each shape of a scalar instruction of a ready thread retires, or traps (R89, R253, R289). -/

namespace Sys2Proof.Machine

variable {s : State} {l srcs : List Reg} {reason : Option Nat}

/-- A thread that may issue is ready for an instruction that names no scalar register. -/
theorem ready_nil (h : RunsThread s) : Ready s [] := ⟨h, by simp, by simp, by simp, by simp⟩

/-- An instruction whose body changes only the registers retires into the chunk with that change (R289). -/
theorem run_retires {dsts : List Reg} {body : List (Reg × Word) → State → R Unit} (f : Regs → Regs)
    (h : Ready s l) (hl : srcs ++ dsts ⊆ l) (hr : reason = none)
    (hb : body [] s = .ok () (s.onMe (fun x => { x with regs := f x.regs }))) :
    run { reason := reason, srcs := srcs, dsts := dsts } s body = .next (retires s f) := by
  rw [run_scalar h (fun _ hm => hl hm) hr (by simp) (by simp) rfl rfl (by simp), hb]
  rfl

/-- An instruction that writes one register and moves on retires with the value that its body computes. -/
theorem run_writes {d : Reg} {n : Nat} (v : List (Reg × Word) → State → Word) (h : Ready s l)
    (hl : srcs ++ [d] ⊆ l) (hr : reason = none) :
    run { reason := reason, srcs := srcs, dsts := [d] } s (fun got s => writeAdvance s d (v got s) n) =
      .next (retires s (fun r => (r.set d (v [] s)).skip n)) :=
  run_retires _ h hl hr (writeAdvance_unbound s d _ n (h.unbound d (hl (by simp))))

/-- An instruction whose body meets a cause traps when it opens a chunk and no vector work is queued or held (R253). -/
theorem run_traps {dsts : List Reg} {body : List (Reg × Word) → State → R Unit} (c : Cause)
    (h : Ready s l) (hl : srcs ++ dsts ⊆ l) (hr : reason = none) (hn : NoChunk s) (hq : s.me.vq = [])
    (hh : s.me.held = []) (hc : c.code ≠ 0x18) (hb : body [] s = .trap c .none) :
    ∃ t, run { reason := reason, srcs := srcs, dsts := dsts } s body = .next t ∧
      TrapTaken s t s.cur c.code c.addr c.info s.me.regs.pc := by
  refine ⟨_, ?_, trapWith_taken c hn hq hh hc⟩
  rw [run_scalar h (fun _ hm => hl hm) hr (by simp) (by simp) rfl rfl (by simp), hb]
  rfl

theorem zeroTFB_of_zero {x : TF} (h : x.b = 0) : zeroTFB x = none := by simp [zeroTFB, reasonOf, h]

theorem zeroTFBA_of_zero {x : TF} (hb : x.b = 0) (ha : x.a = 0) : zeroTFBA x = none := by
  simp [zeroTFBA, reasonOf, hb, ha]

theorem zeroTFBD_of_zero {x : TF} (hb : x.b = 0) (hd : x.d = 0) : zeroTFBD x = none := by
  simp [zeroTFBD, reasonOf, hb, hd]

theorem zeroCFImm_of_zero {x : CF} (h : x.imm = 0) : zeroCFImm x = none := by simp [zeroCFImm, reasonOf, h]

/-- einfo of a cause with a reason and nothing else (R421). -/
theorem einfoOf_reason (r : Nat) : einfoOf r 0 false 0 = word r := by simp [einfoOf, b2n]

/-! ### The shapes of scalar instructions -/

theorem intRR_retires {x : TF} {f : Word → Word → Word} {v : Word} (h : Ready s [x.a, x.b, x.d])
    (hv : f (s.me.regs.get x.a) (s.me.regs.get x.b) = v) :
    intRR x f s = .next (retires s (fun r => (r.set x.d v).skip 4)) := by
  subst hv
  exact run_writes (fun got s => f (srcVal s got x.a) (srcVal s got x.b)) h (by simp) rfl

theorem intR_retires {x : TF} {f : Word → Word} (hb : x.b = 0) (h : Ready s [x.a, x.d]) :
    intR x f s = .next (retires s (fun r => (r.set x.d (f (s.me.regs.get x.a))).skip 4)) :=
  run_writes (fun got s => f (srcVal s got x.a)) h (by simp) (zeroTFB_of_zero hb)

theorem intRI_retires {x : IF} {f : Word → Word → Word} {v : Word} (h : Ready s [x.a, x.d])
    (hv : f (s.me.regs.get x.a) (sext64 x.imm) = v) :
    intRI x f s = .next (retires s (fun r => (r.set x.d v).skip 4)) := by
  subst hv
  exact run_writes (fun got s => f (srcVal s got x.a) (sext64 x.imm)) h (by simp) rfl

theorem shiftRI_retires {x : IF} {f : Word → Nat → Word} (h : Ready s [x.a, x.d]) (hi : x.imm.toNat < 64) :
    shiftRI x f s = .next (retires s (fun r => (r.set x.d (f (s.me.regs.get x.a) x.imm.toNat)).skip 4)) :=
  run_retires _ h (by simp) rfl
    ((if_pos hi).trans (writeAdvance_unbound s x.d _ 4 (h.unbound x.d (by simp))))

/-- A shift by 64 or more traps with reason 24 (R137, R434). -/
theorem shiftRI_traps {x : IF} {f : Word → Nat → Word} (h : Ready s [x.a, x.d]) (hi : 64 ≤ x.imm.toNat)
    (hn : NoChunk s) (hq : s.me.vq = []) (hh : s.me.held = []) :
    ∃ t, shiftRI x f s = .next t ∧ TrapTaken s t s.cur 0x12 s.me.regs.pc 24 s.me.regs.pc := by
  have ht := run_traps (srcs := [x.a]) (dsts := [x.d]) (ownCause s.me 0x12 24) h (by simp) rfl hn hq hh (by simp [ownCause])
    (body := fun got s => if x.imm.toNat < 64 then writeAdvance s x.d (f (srcVal s got x.a) x.imm.toNat) 4
      else .trap (ownCause s.me 0x12 24) .none) (if_neg (Nat.not_lt.2 hi))
  simp only [ownCause, einfoOf_reason] at ht
  exact ht

theorem cmpRR_retires {x : TF} {f : Word → Word → Bool} {v : Bool} (h : Ready s [x.a, x.b])
    (hv : f (s.me.regs.get x.a) (s.me.regs.get x.b) = v) :
    cmpRR x f s = .next (retires s (fun r => (r.setP x.d v).skip 4)) := by
  subst hv
  exact run_retires _ h (by simp) rfl rfl

theorem cmpRI_retires {x : IF} {f : Word → Word → Bool} {v : Bool} (h : Ready s [x.a])
    (hv : f (s.me.regs.get x.a) (sext64 x.imm) = v) :
    cmpRI x f s = .next (retires s (fun r => (r.setP x.d v).skip 4)) := by
  subst hv
  exact run_retires _ h (by simp) rfl rfl

theorem predOp_retires {x : TF} {f : Bool → Bool → Bool} {v : Bool} (h : RunsThread s) (hr : reason = none)
    (hv : f (s.me.regs.getP x.a) (s.me.regs.getP x.b) = v) :
    predOp x reason f s = .next (retires s (fun r => (r.setP x.d v).skip 4)) := by
  subst hv
  exact run_retires _ (ready_nil h) (by simp) hr rfl

theorem compactC_retires {x : CF} {f : Word → Word} {v : Word} (h : Ready s [s.me.regs.cdst, x.r])
    (hv : f (s.me.regs.get s.me.regs.cdst) = v) :
    compactC x none f s = .next (retires s (fun r => (r.set x.r v).skip 2)) := by
  subst hv
  exact run_writes (fun got t => f (srcVal t got s.me.regs.cdst)) h (by simp) rfl

theorem compactCR_retires {x : CF} {f : Word → Word → Word} (hi : x.imm = 0) (h : Ready s [s.me.regs.cdst, x.r]) :
    compactCR x f s =
      .next (retires s (fun r => (r.set x.r (f (s.me.regs.get s.me.regs.cdst) (s.me.regs.get x.r))).skip 2)) :=
  run_writes (fun got t => f (srcVal t got s.me.regs.cdst) (srcVal t got x.r)) h (by simp) (zeroCFImm_of_zero hi)

/-! ### Branches and jumps -/

/-- Two changes that agree on the issuing slot are one change of the state. -/
theorem onMe_congr {f g : Slot → Slot} (h : f s.me = g s.me) : s.onMe f = s.onMe g := congrArg (s.putSlot s.cur) h

/-- A predicated branch is one change of the pc. -/
theorem branchIf_eq (s : State) (p : Reg) (v : Bool) (target : Word) (n : Nat) :
    branchIf s p v target n = s.onMe (fun x => { x with
      regs := { x.regs with pc := if x.regs.getP p = v then target else x.regs.pc + word n } }) := by
  unfold branchIf
  split
  · next ht => exact onMe_congr (by simp only [ht, if_true])
  · next hf => exact onMe_congr (by simp only [hf, if_false, Regs.skip])

/-- A branch taken on a set predicate bit retires with the pc at its target or past itself. -/
theorem branchIfSet_retires (p : Reg) (target : Word → Word) (n : Nat) (h : RunsThread s) :
    run {} s (fun _ s => .ok () (branchIf s p true (target s.me.regs.pc) n)) =
      .next (retires s (fun r => { r with pc := if r.getP p then target r.pc else r.pc + word n })) :=
  run_retires _ (ready_nil h) (by simp) rfl (congrArg (R.ok ()) (branchIf_eq s p true _ n))

/-- A branch taken on a clear predicate bit, likewise. -/
theorem branchIfClear_retires (p : Reg) (target : Word → Word) (n : Nat) (h : RunsThread s) :
    run {} s (fun _ s => .ok () (branchIf s p false (target s.me.regs.pc) n)) =
      .next (retires s (fun r => { r with pc := if r.getP p then r.pc + word n else target r.pc })) :=
  run_retires _ (ready_nil h) (by simp) rfl
    (congrArg (R.ok ()) (by rw [branchIf_eq]; simp only [← Bool.not_eq_true, ite_not]; rfl))

/-- A write of an unbound link register and a jump are one change of the registers. -/
theorem linkJump_unbound (s : State) (d : Reg) (v target : Word) (h : isBound s.me d = false) :
    (writeDst s d v).bind (fun _ t => .ok () (jumpTo t target)) =
      .ok () (s.onMe (fun x => { x with regs := { x.regs.set d v with pc := target } })) := by
  rw [writeDst_unbound s d v h]
  simp only [R.bind, jumpTo, onMe_onMe]

theorem jr_retires {x : TF} (hb : x.b = 0) (hd : x.d = 0) (h : Ready s [x.a])
    (heven : (s.me.regs.get x.a).getLsbD 0 = false) :
    execJr x s = .next (retires s (fun r => { r with pc := r.get x.a })) :=
  run_retires _ h (by simp) (zeroTFBD_of_zero hb hd) (if_neg (Bool.eq_false_iff.1 heven))

theorem callr_retires {x : TF} (hb : x.b = 0) (h : Ready s [x.a, x.d])
    (heven : (s.me.regs.get x.a).getLsbD 0 = false) :
    execCallr x s = .next (retires s (fun r => { r.set x.d (r.pc + 4) with pc := r.get x.a })) :=
  run_retires _ h (by simp) (zeroTFB_of_zero hb)
    ((if_neg (Bool.eq_false_iff.1 heven)).trans (linkJump_unbound s x.d _ _ (h.unbound x.d (by simp))))

/-- A jump whose body meets an odd target traps with reason 2 and the target in eaddr (R80, R437). -/
theorem oddTarget_traps {dsts : List Reg} {body : List (Reg × Word) → State → R Unit} (target : Word)
    (h : Ready s l) (hl : srcs ++ dsts ⊆ l) (hr : reason = none) (hn : NoChunk s) (hq : s.me.vq = [])
    (hh : s.me.held = []) (hb : body [] s = oddTarget target) :
    ∃ t, run { reason := reason, srcs := srcs, dsts := dsts } s body = .next t ∧
      TrapTaken s t s.cur 0x13 target 2 s.me.regs.pc := by
  have ht := run_traps ⟨0x13, target, einfoOf 2 0 false 0⟩ h hl hr hn hq hh (by simp) hb
  simp only [einfoOf_reason] at ht
  exact ht

end Sys2Proof.Machine
end

section
/-! PROOF. The scalar instructions (R136 to R138, R141, R142, R92). -/

namespace Sys2Proof.Machine

/-- The part of R136 on two sources: the words of the model are the numbers of the table. -/
theorem registerOperationsWriteResult : Claim.RegisterOperationsWriteResult := by
  intro x s a b done h
  exact ⟨
    (exec_add x s).trans (intRR_retires h (BitVec.add_def a b)),
    (exec_sub x s).trans (intRR_retires h (sub_eq_ofInt a b)),
    (exec_mul x s).trans (intRR_retires h (mul_eq_ofInt a b)),
    (exec_mulh x s).trans (intRR_retires h (mulHigh_eq a b)),
    (exec_mulhu x s).trans (intRR_retires h rfl),
    (exec_div x s).trans (intRR_retires h (divS_eq a b)),
    (exec_rem x s).trans (intRR_retires h (remS_eq a b)),
    (exec_divu x s).trans (intRR_retires h (divU_eq a b)),
    (exec_remu x s).trans (intRR_retires h (remU_eq a b)),
    (exec_and x s).trans (intRR_retires h rfl),
    (exec_or x s).trans (intRR_retires h rfl),
    (exec_xor x s).trans (intRR_retires h rfl),
    (exec_sll x s).trans (intRR_retires h rfl),
    (exec_srl x s).trans (intRR_retires h rfl),
    (exec_sra x s).trans (intRR_retires h rfl),
    (exec_min x s).trans (intRR_retires h (minS_eq a b)),
    (exec_max x s).trans (intRR_retires h (maxS_eq a b)),
    (exec_minu x s).trans (intRR_retires h (minU_eq a b)),
    (exec_maxu x s).trans (intRR_retires h (maxU_eq a b)),
    (exec_sel x s).trans (run_writes
      (fun got s => if s.me.regs.getP x.d then srcVal s got x.a else srcVal s got x.b) h (by simp) rfl)⟩

/-- The part of R136 on one source: the model's counts have the bits that the rule describes. -/
theorem bitCountsWriteResult : Claim.BitCountsWriteResult := by
  intro x s hb h a done
  refine ⟨⟨clzN 64 a.toNat, (exec_clz x s).trans (intR_retires hb h), clzN_le _ _,
      fun i _ => clzN_zero_bits a, clzN_one_bit a⟩,
    ⟨ctzN 64 a.toNat, (exec_ctz x s).trans (intR_retires hb h), ctzN_le _ _,
      fun i => ctzN_zero_bits, ctzN_one_bit⟩, ?_⟩
  have hpop : popCount 64 a.toNat = (List.range 64).countP (fun i => a.getLsbD i) := popCount_eq_countP 64 a.toNat
  rw [← hpop]
  exact (exec_popc x s).trans (intR_retires hb h)

/-- The part of R137, with the trap of a shift amount of 64 or more. -/
theorem immediateOperationsWriteResult : Claim.ImmediateOperationsWriteResult := by
  intro x s h a y done
  refine ⟨(exec_addi x s).trans (intRI_retires h (add_sext64_eq_ofInt a x.imm)),
    (exec_andi x s).trans (intRI_retires h rfl), (exec_ori x s).trans (intRI_retires h rfl),
    (exec_xori x s).trans (intRI_retires h rfl), fun hi => ⟨(exec_slli x s).trans (shiftRI_retires h hi),
      (exec_srli x s).trans (shiftRI_retires h hi), (exec_srai x s).trans (shiftRI_retires h hi)⟩,
    fun hi hn hq hh i hmem => ?_⟩
  simp only [List.mem_cons, List.not_mem_nil, or_false] at hmem
  rcases hmem with rfl | rfl | rfl
  · exact exec_slli x s ▸ shiftRI_traps h hi hn hq hh
  · exact exec_srli x s ▸ shiftRI_traps h hi hn hq hh
  · exact exec_srai x s ▸ shiftRI_traps h hi hn hq hh

/-- Settles O2: every operation writes one register and moves on, and its word is the number that the table gives. -/
theorem integerOperationsWriteResult : Obligations.IntegerOperationsWriteResult :=
  ⟨registerOperationsWriteResult, bitCountsWriteResult, immediateOperationsWriteResult⟩

/-- The part of R138: the relations of the model are those of the numbers, and no register is written but by PRD. -/
theorem comparesAndPredicatesWriteResult : Claim.ComparesAndPredicatesWriteResult := by
  refine ⟨?_, ?_, ?_, fun x s hb ha h => ?_, fun x s hb hd h => ?_⟩
  · intro x s h a b done
    exact ⟨(exec_cmpeq x s).trans (cmpRR_retires h rfl), (exec_cmpne x s).trans (cmpRR_retires h (bne_eq_decide_ne a b)),
      (exec_cmplt x s).trans (cmpRR_retires h rfl), (exec_cmple x s).trans (cmpRR_retires h rfl),
      (exec_cmpltu x s).trans (cmpRR_retires h rfl), (exec_cmpleu x s).trans (cmpRR_retires h rfl)⟩
  · intro x s h a done
    exact ⟨(exec_cmpeqi x s).trans (cmpRI_retires h (beq_sext64 a x.imm)),
      (exec_cmplti x s).trans (cmpRI_retires h (slt_sext64 a x.imm))⟩
  · intro x s h p done
    exact ⟨(exec_pand x s).trans (predOp_retires h rfl rfl), (exec_por x s).trans (predOp_retires h rfl rfl),
      (exec_pxor x s).trans (predOp_retires h rfl (congrFun₂ Bool.bne_eq_xor _ _)),
      fun hb => (exec_pnot x s).trans (predOp_retires h (zeroTFB_of_zero hb) rfl)⟩
  · exact (exec_prd x s).trans (run_writes (fun _ s => zext64 s.me.regs.p) h (by simp) (zeroTFBA_of_zero hb ha))
  · exact (exec_pwr x s).trans (run_retires _ h (by simp) (zeroTFBD_of_zero hb hd) rfl)

/-- The part of R141 and R142: each transfer is one change of the pc, with the link where there is one. -/
theorem wideImmediatesAndControlTransfer : Claim.WideImmediatesAndControlTransfer := by
  refine ⟨?_, ?_, ?_, fun x s hb heven => ?_, ?_⟩
  · intro x s h y
    exact ⟨(exec_liw x s).trans (run_writes (fun _ _ => wideImm x.imm) h (by simp) rfl),
      (exec_pcadd x s).trans (run_writes (fun _ s => s.me.regs.pc + wideImm x.imm) h (by simp) rfl)⟩
  · intro x s target
    simp only [target, ← targetOf_eq]
    exact ⟨fun h => (exec_br x s).trans (run_retires _ (ready_nil h) (by simp) rfl rfl),
      fun h => (exec_call x s).trans
        (run_retires _ h (by simp) rfl (linkJump_unbound s 30 _ _ (h.unbound 30 (by simp))))⟩
  · intro x s h target
    simp only [target, ← targetOf_eq]
    exact ⟨(exec_bp x s).trans (branchIfSet_retires x.p (fun pc => targetOf pc x.off) 4 h),
      (exec_bpn x s).trans (branchIfClear_retires x.p (fun pc => targetOf pc x.off) 4 h)⟩
  · exact ⟨fun hd h => (exec_jr x s).trans (jr_retires hb hd h heven),
      fun h => (exec_callr x s).trans (callr_retires hb h heven)⟩
  · intro x s hb hodd hn hq hh traps
    exact ⟨fun hd h => oddTarget_traps _ h (by simp) (zeroTFBD_of_zero hb hd) hn hq hh (if_pos hodd),
      fun h => oddTarget_traps _ h (by simp) (zeroTFB_of_zero hb) hn hq hh (if_pos hodd)⟩

/-- The part of R92: the source is the register that cdst names at issue. -/
theorem compactOperationsWriteResult : Claim.CompactOperationsWriteResult := by
  intro x s c a b done
  refine ⟨fun h => ?_, fun h => ?_, fun h hi => ?_, ?_⟩
  · exact (exec_cli x s).trans (run_writes (fun _ _ => sext64 x.imm) h (by simp) rfl)
  · exact ⟨(exec_caddi x s).trans (compactC_retires h (add_sext64_eq_ofInt a x.imm)),
      (exec_cslli x s).trans (compactC_retires h rfl), (exec_csrli x s).trans (compactC_retires h rfl),
      fun hi => ⟨(exec_cadd x s).trans (compactCR_retires hi h), (exec_csub x s).trans (compactCR_retires hi h),
        (exec_cand x s).trans (compactCR_retires hi h)⟩⟩
  · exact (exec_cmov x s).trans (run_writes (fun got t => srcVal t got c) h (List.Subset.refl _)
      (zeroCFImm_of_zero hi))
  · intro h target
    exact ⟨(exec_cbp x s).trans (branchIfSet_retires x.r (fun pc => compactTarget pc x.imm) 2 h),
      (exec_cbpn x s).trans (branchIfClear_retires x.r (fun pc => compactTarget pc x.imm) 2 h)⟩

/-- Settles O3, by the three parts: each instruction is one change of the registers that retires, or its trap. -/
theorem predicatesTransfersAndCompactForms : Obligations.PredicatesTransfersAndCompactForms :=
  ⟨comparesAndPredicatesWriteResult, wideImmediatesAndControlTransfer, compactOperationsWriteResult⟩

end Sys2Proof.Machine
end
